-- ==== Sys2Proof/Word.lean ====
section
/-! DEFINITION. The plain words of the part: bytes, the two links, sparse tables and the field types of the links' encoding. -/

namespace Sys2Proof

/-- One byte on a link. -/
abbrev Byte := BitVec 8

/-- The transmit and receive pair a request or frame belongs to: `t` is the T-link (gateway), `a` the A-link (back office). -/
inductive Link where
  | t
  | a
  deriving DecidableEq, Repr

/-- A sparse table: values listed by number, the numbers strictly rising. Operations in `Machine/Table.lean`. -/
abbrev Table (α : Type) := List (Nat × α)

/-- One field as the field encoding table of the links gives it (11, Field encodings): a flag, an unsigned field of
1, 2, 4 or 8 bytes, or a signed field of 8 bytes. An optional field is a flag followed by the field when present, a list a
`u8` count followed by its items. -/
inductive Fld where
  | flag (b : Bool)
  | u8 (n : Nat)
  | u16 (n : Nat)
  | u32 (n : Nat)
  | u64 (n : Nat)
  | i64 (z : Int)
  deriving DecidableEq, Repr

/-- A request frame as the receive queue holds it (11 R184): kind, tag and payload. -/
structure RxFrame where
  kind : Nat
  tag : Nat
  payload : List Byte
  deriving DecidableEq, Repr

end Sys2Proof
end

