-- ==== Sys2Proof/Config.lean ====
section
/-! DEFINITION. The capacities and limits the reference fixes, and the values it leaves open. -/

namespace Sys2Proof.Config

/-- 00 Money, 01 R3: the largest value of one card and the largest amount of one transaction. -/
abbrev cardLimit : Nat := 5000000
/-- 00 Money: the position limit. -/
abbrev positionLimit : Int := 100000000000
/-- 00 Money, 06 R107: the largest count kept in a position. -/
abbrev countLimit : Nat := 4000000000
/-- 04 R71, R72: the largest budget and low threshold of a pool. -/
abbrev budgetLimit : Nat := 100000000000
/-- 01 R1: the highest card id. -/
abbrev maxCardId : Nat := 9999999999999999
/-- 01 R1, R2: card store slots. -/
abbrev cardSlots : Nat := 262144
/-- 02 R25: hold slots. -/
abbrev holdSlots : Nat := 1024
/-- 05 R89: journal slots. -/
abbrev journalSlots : Nat := 65536
/-- 05 R91: the reserve. -/
abbrev journalReserve : Nat := 64
/-- 04 R67: promotion pools. -/
abbrev poolCount : Nat := 16
/-- 06 R102: shop records. -/
abbrev shopCount : Nat := 512
/-- 08 R141: payout channels. -/
abbrev channelCount : Nat := 4
/-- 01 R6: buckets of one card. -/
abbrev bucketLimit : Nat := 4
/-- 02 R25: holds of one card. -/
abbrev cardHoldLimit : Nat := 4
/-- 11 R184: frames of a receive queue. -/
abbrev rxPlaces : Nat := 8
/-- 11 R186: places of a transmit queue. -/
abbrev txPlaces : Nat := 16
/-- 11 Frame envelope: the largest payload in bytes. -/
abbrev maxPayload : Nat := 240
/-- 00 Identifiers: the highest sequence number, payout serial and period number. -/
abbrev topNumber : Nat := 4294967295
/-- 09 R162: seconds of a day. -/
abbrev daySeconds : Nat := 86400

/-- Free value (log 10): the request set version number of IDENTIFY, which 10 R181 names and does not state. -/
opaque requestSetVersion : Nat

/-- Free value (log 11): the live period number after the period numbered 4,294,967,295, which 07 R120 bounds and does not continue. -/
opaque periodAfterTop : Nat

/-- Free value (log 29): which of the blocks that have yet to react to a rollover reacts next, for each turn; 09 R164 gives them no
order. -/
opaque reactionChoice : Nat → Nat

end Sys2Proof.Config
end

