-- ==== Sys2Proof/Syntax.lean ====
section
/-! DEFINITION. The commands of the part: one constructor for each row of spec/opcode_table.json. -/

namespace Sys2Proof

/-- The schedule fields of DEFINE_SHOP and STAGE_SCHEDULE (06 R109); an omitted hold lifetime is 900. -/
structure ScheduleArg where
  redemptionRate : Nat
  fixedFee : Nat
  commissionRate : Nat
  minPayout : Nat
  lifetime : Option Nat
  deriving DecidableEq, Repr

/-- The configuration fields of DEFINE_POOL (04 R71); funder `none` is MALL. -/
structure PoolArg where
  funder : Option Nat
  mask : BitVec 16
  rate : Nat
  cap : Nat
  validity : Nat
  budget : Nat
  recycle : Bool
  low : Nat
  deriving DecidableEq, Repr

/-- The position of JOURNAL_SEEK (05 R96). -/
inductive SeekPos where
  | seq (n : Nat)
  | oldest
  | next
  deriving DecidableEq, Repr

/-- The fields of SET_CHANNEL after the channel number (08 R143); range `none` is empty. -/
structure ChannelArg where
  enabled : Bool
  range : Option (Nat × Nat)
  autoStart : Bool
  timeout : Nat
  deriving DecidableEq, Repr

/-- The commands. A request carries the link it is sent on, its tag, and its fields in the order its rule names them, each a
number within the wire width of its field; enumerations are carried by their code (11, Field encodings), and the request's own
rule refuses a code or value outside its range. The events carry the link, slot or channel they happen at. -/
inductive Instr where
  -- terminal requests
  | sellCard (l : Link) (tag card shop amount : Nat) (reloadable : Bool) (bonusPool : Option Nat) (ref : Nat)
  | reloadCard (l : Link) (tag card shop amount : Nat) (bonusPool : Option Nat) (ref : Nat)
  | balance (l : Link) (tag card : Nat) (shop : Option Nat)
  | redeem (l : Link) (tag card shop amount : Nat) (part : Bool) (ref : Nat)
  | placeHold (l : Link) (tag card shop amount : Nat) (part : Bool) (ref : Nat)
  | captureHold (l : Link) (tag slot gen shop amount : Nat) (ref : Option Nat)
  | releaseHold (l : Link) (tag slot gen shop : Nat)
  | extendHold (l : Link) (tag slot gen shop : Nat)
  | refund (l : Link) (tag original shop amount : Nat) (target : Option Nat) (ref : Nat)
  | voidSale (l : Link) (tag original shop ref : Nat)
  | lookupReference (l : Link) (tag shop ref : Nat)
  -- card administration
  | cardDetail (l : Link) (tag card : Nat)
  | freezeCard (l : Link) (tag card : Nat)
  | unfreezeCard (l : Link) (tag card : Nat)
  | closeCard (l : Link) (tag card : Nat)
  | holdDetail (l : Link) (tag slot : Nat)
  | grantPromo (l : Link) (tag card pool amount : Nat)
  -- pools
  | definePool (l : Link) (tag pool : Nat) (cfg : PoolArg)
  | addBudget (l : Link) (tag pool amount : Nat)
  | setPoolState (l : Link) (tag pool target : Nat)
  | poolStatus (l : Link) (tag pool : Nat)
  -- journal
  | journalSeek (l : Link) (tag : Nat) (pos : SeekPos)
  | journalRead (l : Link) (tag count : Nat)
  | valueSummary (l : Link) (tag : Nat)
  -- shops
  | defineShop (l : Link) (tag shop category account : Nat) (sched : ScheduleArg)
  | stageSchedule (l : Link) (tag shop : Nat) (sched : ScheduleArg)
  | setShopState (l : Link) (tag shop target : Nat)
  | removeShop (l : Link) (tag shop : Nat)
  | shopPosition (l : Link) (tag shop selector : Nat)
  | adjustCarry (l : Link) (tag shop : Nat) (amount : Int) (ref : Option Nat)
  | clearAttention (l : Link) (tag shop : Nat)
  | setPayoutAccount (l : Link) (tag shop account : Nat)
  -- periods
  | closePeriod (l : Link) (tag : Nat)
  | setScheduler (l : Link) (tag mode interval : Nat)
  | periodStatus (l : Link) (tag : Nat)
  | periodSummary (l : Link) (tag : Nat) (period : Option Nat)
  -- payout
  | setChannel (l : Link) (tag channel : Nat) (cfg : ChannelArg)
  | startRun (l : Link) (tag channel : Nat)
  | payoutResult (l : Link) (tag channel serial outcome : Nat)
  | suspendChannel (l : Link) (tag channel : Nat)
  | resumeChannel (l : Link) (tag channel : Nat)
  | resetChannel (l : Link) (tag channel : Nat)
  | channelStatus (l : Link) (tag channel : Nat)
  -- time
  | setTime (l : Link) (tag clock : Nat)
  | setDay (l : Link) (tag day : Nat)
  | setRollover (l : Link) (tag second : Nat)
  | setTrading (l : Link) (tag : Nat) (on : Bool)
  | advanceDay (l : Link) (tag : Nat)
  | timeStatus (l : Link) (tag : Nat)
  -- part
  | identify (l : Link) (tag : Nat)
  | partStatus (l : Link) (tag : Nat)
  | enterConfig (l : Link) (tag : Nat)
  | openPart (l : Link) (tag : Nat)
  | restart (l : Link) (tag : Nat)
  | storeInitialise (l : Link) (tag : Nat)
  | setRoute (l : Link) (tag : Nat) (sel : Option (Nat × Nat))
  -- a taken frame that spells none of the requests above (11 R185, checks 1 to 3; log 27)
  | unknownRequest (l : Link) (tag kind : Nat) (payload : List Byte)
  -- link events
  | frameReceived (l : Link) (bytes : List Byte)
  | frameGapTimeout (l : Link)
  | frameSent (l : Link)
  | linkReset (l : Link)
  | breakEnded (l : Link)
  -- timer events
  | tick
  | holdExpiry (slot : Nat)
  | confirmTimeout (channel : Nat)
  | intervalCountdownExpiry
  | dayRollover
  -- engine events
  | sweepVisit
  | sweepEnd
  | closeComputeStep
  | closeComputationEnd
  | runWalkStep (channel : Nat)
  | payoutOfferEntersQueue
  | storeInitialiseComplete
  | restartAfterDrain
  -- supply
  | powerOn
  | lossOfPower
  deriving DecidableEq, Repr

end Sys2Proof
end

