-- ==== Sys2Proof/WellFormed.lean ====
section
/-! DEFINITION. Which command terms are well formed: every field of a request lies within the wire width of its field type
(11, Field encodings), and an event names a slot or channel of the part. A value that is within its width and outside its rule's
range is well formed: the rule refuses it. -/

namespace Sys2Proof

/-- `n` fits an unsigned field of `k` bytes. -/
def fits (k n : Nat) : Bool := n < 256 ^ k

/-- `o` is absent or fits an unsigned field of `k` bytes. -/
def fitsOpt (k : Nat) (o : Option Nat) : Bool := o.all (fits k)

/-- `z` fits a signed field of 8 bytes. -/
def fitsSigned (z : Int) : Bool := -(2 : Int) ^ 63 ≤ z ∧ z < (2 : Int) ^ 63

/-- 06 R109, 11 Field encodings: rates and fixed fee take 2 bytes, the minimum payout 4; the lifetime takes 2 (log 32). -/
def ScheduleArg.wf (c : ScheduleArg) : Bool :=
  fits 2 c.redemptionRate && fits 2 c.fixedFee && fits 2 c.commissionRate && fits 4 c.minPayout && fitsOpt 2 c.lifetime

/-- 04 R71, 11 Field encodings. -/
def PoolArg.wf (c : PoolArg) : Bool :=
  fitsOpt 2 c.funder && fits 2 c.rate && fits 4 c.cap && fits 2 c.validity && fits 8 c.budget && fits 8 c.low

/-- 05 R96: a sequence number takes 4 bytes. -/
def SeekPos.wf : SeekPos → Bool
  | .seq n => fits 4 n
  | .oldest => true
  | .next => true

/-- 08 R143, 11 Field encodings. -/
def ChannelArg.wf (c : ChannelArg) : Bool :=
  c.range.all (fun r => fits 2 r.1 && fits 2 r.2) && fits 2 c.timeout

/-- The request kinds listed in the kind code table (11, Kind codes). -/
def listedKind (k : Nat) : Bool :=
  (0x10 ≤ k && k ≤ 0x1A) || (0x20 ≤ k && k ≤ 0x25) || (0x30 ≤ k && k ≤ 0x33) || (0x38 ≤ k && k ≤ 0x3A) ||
  (0x40 ≤ k && k ≤ 0x47) || (0x50 ≤ k && k ≤ 0x53) || (0x58 ≤ k && k ≤ 0x5E) || (0x60 ≤ k && k ≤ 0x65) ||
  (0x70 ≤ k && k ≤ 0x76)

/-- Well-formed commands. A frame carried by `unknownRequest` has a payload of at most 240 bytes; that it spells no request
is not asked here (log 27). -/
def Instr.wf : Instr → Bool
  | .sellCard _ t c s a _ p r => fits 2 t && fits 8 c && fits 2 s && fits 4 a && fitsOpt 1 p && fits 4 r
  | .reloadCard _ t c s a p r => fits 2 t && fits 8 c && fits 2 s && fits 4 a && fitsOpt 1 p && fits 4 r
  | .balance _ t c s => fits 2 t && fits 8 c && fitsOpt 2 s
  | .redeem _ t c s a _ r => fits 2 t && fits 8 c && fits 2 s && fits 4 a && fits 4 r
  | .placeHold _ t c s a _ r => fits 2 t && fits 8 c && fits 2 s && fits 4 a && fits 4 r
  | .captureHold _ t n g s a r => fits 2 t && fits 2 n && fits 2 g && fits 2 s && fits 4 a && fitsOpt 4 r
  | .releaseHold _ t n g s => fits 2 t && fits 2 n && fits 2 g && fits 2 s
  | .extendHold _ t n g s => fits 2 t && fits 2 n && fits 2 g && fits 2 s
  | .refund _ t o s a c r => fits 2 t && fits 4 o && fits 2 s && fits 4 a && fitsOpt 8 c && fits 4 r
  | .voidSale _ t o s r => fits 2 t && fits 4 o && fits 2 s && fits 4 r
  | .lookupReference _ t s r => fits 2 t && fits 2 s && fits 4 r
  | .cardDetail _ t c => fits 2 t && fits 8 c
  | .freezeCard _ t c => fits 2 t && fits 8 c
  | .unfreezeCard _ t c => fits 2 t && fits 8 c
  | .closeCard _ t c => fits 2 t && fits 8 c
  | .holdDetail _ t n => fits 2 t && fits 2 n
  | .grantPromo _ t c p a => fits 2 t && fits 8 c && fits 1 p && fits 4 a
  | .definePool _ t p cfg => fits 2 t && fits 1 p && cfg.wf
  | .addBudget _ t p a => fits 2 t && fits 1 p && fits 8 a
  | .setPoolState _ t p x => fits 2 t && fits 1 p && fits 1 x
  | .poolStatus _ t p => fits 2 t && fits 1 p
  | .journalSeek _ t pos => fits 2 t && pos.wf
  | .journalRead _ t n => fits 2 t && fits 4 n
  | .valueSummary _ t => fits 2 t
  | .defineShop _ t s c a cfg => fits 2 t && fits 2 s && fits 1 c && fits 8 a && cfg.wf
  | .stageSchedule _ t s cfg => fits 2 t && fits 2 s && cfg.wf
  | .setShopState _ t s x => fits 2 t && fits 2 s && fits 1 x
  | .removeShop _ t s => fits 2 t && fits 2 s
  | .shopPosition _ t s x => fits 2 t && fits 2 s && fits 1 x
  | .adjustCarry _ t s z r => fits 2 t && fits 2 s && fitsSigned z && fitsOpt 4 r
  | .clearAttention _ t s => fits 2 t && fits 2 s
  | .setPayoutAccount _ t s a => fits 2 t && fits 2 s && fits 8 a
  | .closePeriod _ t => fits 2 t
  | .setScheduler _ t m i => fits 2 t && fits 1 m && fits 2 i
  | .periodStatus _ t => fits 2 t
  | .periodSummary _ t p => fits 2 t && fitsOpt 4 p
  | .setChannel _ t n cfg => fits 2 t && fits 1 n && cfg.wf
  | .startRun _ t n => fits 2 t && fits 1 n
  | .payoutResult _ t n r x => fits 2 t && fits 1 n && fits 4 r && fits 1 x
  | .suspendChannel _ t n => fits 2 t && fits 1 n
  | .resumeChannel _ t n => fits 2 t && fits 1 n
  | .resetChannel _ t n => fits 2 t && fits 1 n
  | .channelStatus _ t n => fits 2 t && fits 1 n
  | .setTime _ t c => fits 2 t && fits 4 c
  | .setDay _ t d => fits 2 t && fits 2 d
  | .setRollover _ t x => fits 2 t && fits 4 x
  | .setTrading _ t _ => fits 2 t
  | .advanceDay _ t => fits 2 t
  | .timeStatus _ t => fits 2 t
  | .identify _ t => fits 2 t
  | .partStatus _ t => fits 2 t
  | .enterConfig _ t => fits 2 t
  | .openPart _ t => fits 2 t
  | .restart _ t => fits 2 t
  | .storeInitialise _ t => fits 2 t
  | .setRoute _ t sel => fits 2 t && sel.all (fun x => fits 1 x.1 && fits 1 x.2)
  | .unknownRequest _ t k p => fits 2 t && fits 1 k && decide (p.length ≤ Config.maxPayload)
  | .frameReceived _ _ => true
  | .frameGapTimeout _ => true
  | .frameSent _ => true
  | .linkReset _ => true
  | .breakEnded _ => true
  | .tick => true
  | .holdExpiry n => decide (n < Config.holdSlots)
  | .confirmTimeout n => decide (n < Config.channelCount)
  | .intervalCountdownExpiry => true
  | .dayRollover => true
  | .sweepVisit => true
  | .sweepEnd => true
  | .closeComputeStep => true
  | .closeComputationEnd => true
  | .runWalkStep n => decide (n < Config.channelCount)
  | .payoutOfferEntersQueue => true
  | .storeInitialiseComplete => true
  | .restartAfterDrain => true
  | .powerOn => true
  | .lossOfPower => true

end Sys2Proof
end

