-- ==== Sys2Proof/Decode.lean ====
section
/-! DEFINITION. The links' request encoding (11, Frame envelope, Field encodings, Kind codes): reading a request from a frame
and writing a request as a frame; and the word decoder of the host, which no row of the table needs. -/

namespace Sys2Proof

/-- The bytes of an unsigned field of `k` bytes, most significant byte first. -/
def putU : Nat → Nat → List Byte
  | 0, _ => []
  | k + 1, n => BitVec.ofNat 8 (n / 256 ^ k) :: putU k n

/-- Reads an unsigned field of `k` bytes and answers the bytes after it. -/
def getU : Nat → List Byte → Option (Nat × List Byte)
  | 0, p => some (0, p)
  | _ + 1, [] => none
  | k + 1, b :: p => (getU k p).map (fun r => (b.toNat * 256 ^ k + r.1, r.2))

/-- The two's complement number of an 8-byte field. -/
def toSigned (n : Nat) : Int := if n < 2 ^ 63 then (n : Int) else (n : Int) - 2 ^ 64

/-- The bytes of one field (11, Field encodings). -/
def fldBytes : Fld → List Byte
  | .flag b => [if b then 1 else 0]
  | .u8 n => putU 1 n
  | .u16 n => putU 2 n
  | .u32 n => putU 4 n
  | .u64 n => putU 8 n
  | .i64 z => putU 8 (z % 2 ^ 64).toNat

/-- The bytes of a payload. -/
def payloadBytes (fs : List Fld) : List Byte := fs.flatMap fldBytes

/-- An optional field: a presence flag, then the field when present. -/
def optFld (f : Nat → Fld) : Option Nat → List Fld
  | none => [.flag false]
  | some n => [.flag true, f n]

/-- Reads a flag; another byte than 0 or 1 fails the shape (11 R185). -/
def getFlag : List Byte → Option (Bool × List Byte)
  | [] => none
  | b :: p => if b = 0 then some (false, p) else if b = 1 then some (true, p) else none

/-- Reads an optional unsigned field of `k` bytes. -/
def getOpt (k : Nat) (p : List Byte) : Option (Option Nat × List Byte) := do
  let (b, p) ← getFlag p
  if b then
    let (n, p) ← getU k p
    return (some n, p)
  else return (none, p)

/-- Reads a signed field of 8 bytes. -/
def getSigned (p : List Byte) : Option (Int × List Byte) :=
  (getU 8 p).map (fun r => (toSigned r.1, r.2))

/-- The payload must end where its fields do (11 R185, Shape). -/
def ended (c : Instr) : List Byte → Option Instr
  | [] => some c
  | _ :: _ => none

/-- 06 R109: redemption rate, fixed fee, commission rate, minimum payout, optional hold lifetime, which takes 2 bytes (log 32). -/
def scheduleFields (c : ScheduleArg) : List Fld :=
  [.u16 c.redemptionRate, .u16 c.fixedFee, .u16 c.commissionRate, .u32 c.minPayout] ++ optFld .u16 c.lifetime

/-- Reads the fields of `scheduleFields`, the hold lifetime from 2 bytes (log 32). -/
def getSchedule (p : List Byte) : Option (ScheduleArg × List Byte) := do
  let (r, p) ← getU 2 p
  let (f, p) ← getU 2 p
  let (k, p) ← getU 2 p
  let (m, p) ← getU 4 p
  let (h, p) ← getOpt 2 p
  return (⟨r, f, k, m, h⟩, p)

/-- The sixteen category flags of an eligibility mask, category 0 first (DESIGN CHOICE, log 7). -/
def maskFields (m : BitVec 16) : List Fld := (List.range 16).map (fun i => .flag (m.getLsbD i))

/-- Reads `k` category flags, the first being category `i`, into the mask so far. -/
def getMask : Nat → Nat → BitVec 16 → List Byte → Option (BitVec 16 × List Byte)
  | 0, _, m, p => some (m, p)
  | k + 1, i, m, p => do
    let (b, p) ← getFlag p
    getMask k (i + 1) (if b then m ||| BitVec.twoPow 16 i else m) p

/-- 04 R71 after the pool number: funder, mask, bonus rate, per-grant cap, validity days, budget, recycle, low threshold. -/
def poolFields (c : PoolArg) : List Fld :=
  optFld .u16 c.funder ++ maskFields c.mask ++
    [.u16 c.rate, .u32 c.cap, .u16 c.validity, .u64 c.budget, .flag c.recycle, .u64 c.low]

/-- Reads the fields of `poolFields`. The funder byte is 0 or 1 as a presence byte is (log 45). -/
def getPool (p : List Byte) : Option (PoolArg × List Byte) := do
  let (f, p) ← getOpt 2 p
  let (m, p) ← getMask 16 0 0 p
  let (r, p) ← getU 2 p
  let (c, p) ← getU 4 p
  let (v, p) ← getU 2 p
  let (b, p) ← getU 8 p
  let (y, p) ← getFlag p
  let (l, p) ← getU 8 p
  return (⟨f, m, r, c, v, b, y, l⟩, p)

/-- A journal position: 0 and a sequence number, 1 for OLDEST, 2 for NEXT. -/
def seekFields : SeekPos → List Fld
  | .seq n => [.u8 0, .u32 n]
  | .oldest => [.u8 1]
  | .next => [.u8 2]

/-- Reads a journal position; a first byte outside its table fails the shape (log 45). -/
def getSeek (p : List Byte) : Option (SeekPos × List Byte) := do
  let (k, p) ← getU 1 p
  match k with
  | 0 => do
    let (n, p) ← getU 4 p
    return (.seq n, p)
  | 1 => return (.oldest, p)
  | 2 => return (.next, p)
  | _ => none

/-- The period of PERIOD_SUMMARY: 0 and a period number, or 1 for LATEST. -/
def periodFields : Option Nat → List Fld
  | some n => [.u8 0, .u32 n]
  | none => [.u8 1]

/-- Reads the period of PERIOD_SUMMARY; a first byte outside its table fails the shape (log 45). -/
def getPeriod (p : List Byte) : Option (Option Nat × List Byte) := do
  let (k, p) ← getU 1 p
  match k with
  | 0 => do
    let (n, p) ← getU 4 p
    return (some n, p)
  | 1 => return (none, p)
  | _ => none

/-- 08 R143 after the channel number: enabled, range (0, or 1 and low and high), auto-start, confirm timeout. -/
def channelFields (c : ChannelArg) : List Fld :=
  [.flag c.enabled] ++
    (match c.range with
     | none => [.flag false]
     | some r => [.flag true, .u16 r.1, .u16 r.2]) ++
    [.flag c.autoStart, .u16 c.timeout]

/-- Reads the fields of `channelFields`. The range byte is 0 or 1 as a flag is (log 45). -/
def getChannel (p : List Byte) : Option (ChannelArg × List Byte) := do
  let (e, p) ← getFlag p
  let (b, p) ← getFlag p
  let (r, p) ← (if b then do
      let (lo, p) ← getU 2 p
      let (hi, p) ← getU 2 p
      return (some (lo, hi), p)
    else return (none, p) : Option (Option (Nat × Nat) × List Byte))
  let (a, p) ← getFlag p
  let (t, p) ← getU 2 p
  return (⟨e, r, a, t⟩, p)

/-- The SET_ROUTE selector: 0 and a class and a route, or 1 for DEFAULTS. -/
def routeFields : Option (Nat × Nat) → List Fld
  | some x => [.u8 0, .u8 x.1, .u8 x.2]
  | none => [.u8 1]

/-- Reads a SET_ROUTE selector; a first byte outside its table fails the shape (log 45). -/
def getRoute (p : List Byte) : Option (Option (Nat × Nat) × List Byte) := do
  let (k, p) ← getU 1 p
  match k with
  | 0 => do
    let (c, p) ← getU 1 p
    let (r, p) ← getU 1 p
    return (some (c, r), p)
  | 1 => return (none, p)
  | _ => none

/-- The link a request is sent on (the A-link for a command that is no request, which is never asked). -/
def requestLink : Instr → Link
  | .sellCard l .. | .reloadCard l .. | .balance l .. | .redeem l .. | .placeHold l .. | .captureHold l .. | .releaseHold l ..
  | .extendHold l .. | .refund l .. | .voidSale l .. | .lookupReference l .. | .cardDetail l .. | .freezeCard l ..
  | .unfreezeCard l .. | .closeCard l .. | .holdDetail l .. | .grantPromo l .. | .definePool l .. | .addBudget l ..
  | .setPoolState l .. | .poolStatus l .. | .journalSeek l .. | .journalRead l .. | .valueSummary l .. | .defineShop l ..
  | .stageSchedule l .. | .setShopState l .. | .removeShop l .. | .shopPosition l .. | .adjustCarry l .. | .clearAttention l ..
  | .setPayoutAccount l .. | .closePeriod l .. | .setScheduler l .. | .periodStatus l .. | .periodSummary l .. | .setChannel l ..
  | .startRun l .. | .payoutResult l .. | .suspendChannel l .. | .resumeChannel l .. | .resetChannel l .. | .channelStatus l ..
  | .setTime l .. | .setDay l .. | .setRollover l .. | .setTrading l .. | .advanceDay l .. | .timeStatus l .. | .identify l ..
  | .partStatus l .. | .enterConfig l .. | .openPart l .. | .restart l .. | .storeInitialise l .. | .setRoute l ..
  | .unknownRequest l .. => l
  | .frameReceived .. | .frameGapTimeout .. | .frameSent .. | .linkReset .. | .breakEnded .. | .tick | .holdExpiry ..
  | .confirmTimeout .. | .intervalCountdownExpiry | .dayRollover | .sweepVisit | .sweepEnd | .closeComputeStep
  | .closeComputationEnd | .runWalkStep .. | .payoutOfferEntersQueue | .storeInitialiseComplete | .restartAfterDrain | .powerOn
  | .lossOfPower => .a

/-- The frame of a request: kind code (11, Kind codes), tag, and the payload of its fields in the order its rule names them.
A command that is no request has no frame; it answers an empty one, which is never asked. -/
def requestFrame : Instr → RxFrame
  | .sellCard _ t c s a rl bp r =>
    ⟨0x10, t, payloadBytes ([.u64 c, .u16 s, .u32 a, .flag rl] ++ optFld .u8 bp ++ [.u32 r])⟩
  | .reloadCard _ t c s a bp r => ⟨0x11, t, payloadBytes ([.u64 c, .u16 s, .u32 a] ++ optFld .u8 bp ++ [.u32 r])⟩
  | .balance _ t c s => ⟨0x12, t, payloadBytes ([.u64 c] ++ optFld .u16 s)⟩
  | .redeem _ t c s a b r => ⟨0x13, t, payloadBytes [.u64 c, .u16 s, .u32 a, .flag b, .u32 r]⟩
  | .placeHold _ t c s a b r => ⟨0x14, t, payloadBytes [.u64 c, .u16 s, .u32 a, .flag b, .u32 r]⟩
  | .captureHold _ t n g s a r => ⟨0x15, t, payloadBytes ([.u16 n, .u16 g, .u16 s, .u32 a] ++ optFld .u32 r)⟩
  | .releaseHold _ t n g s => ⟨0x16, t, payloadBytes [.u16 n, .u16 g, .u16 s]⟩
  | .extendHold _ t n g s => ⟨0x17, t, payloadBytes [.u16 n, .u16 g, .u16 s]⟩
  | .refund _ t o s a c r => ⟨0x18, t, payloadBytes ([.u32 o, .u16 s, .u32 a] ++ optFld .u64 c ++ [.u32 r])⟩
  | .voidSale _ t o s r => ⟨0x19, t, payloadBytes [.u32 o, .u16 s, .u32 r]⟩
  | .lookupReference _ t s r => ⟨0x1A, t, payloadBytes [.u16 s, .u32 r]⟩
  | .cardDetail _ t c => ⟨0x20, t, payloadBytes [.u64 c]⟩
  | .freezeCard _ t c => ⟨0x21, t, payloadBytes [.u64 c]⟩
  | .unfreezeCard _ t c => ⟨0x22, t, payloadBytes [.u64 c]⟩
  | .closeCard _ t c => ⟨0x23, t, payloadBytes [.u64 c]⟩
  | .holdDetail _ t n => ⟨0x24, t, payloadBytes [.u16 n]⟩
  | .grantPromo _ t c p a => ⟨0x25, t, payloadBytes [.u64 c, .u8 p, .u32 a]⟩
  | .definePool _ t p cfg => ⟨0x30, t, payloadBytes ([.u8 p] ++ poolFields cfg)⟩
  | .addBudget _ t p a => ⟨0x31, t, payloadBytes [.u8 p, .u64 a]⟩
  | .setPoolState _ t p x => ⟨0x32, t, payloadBytes [.u8 p, .u8 x]⟩
  | .poolStatus _ t p => ⟨0x33, t, payloadBytes [.u8 p]⟩
  | .journalSeek _ t pos => ⟨0x38, t, payloadBytes (seekFields pos)⟩
  | .journalRead _ t n => ⟨0x39, t, payloadBytes [.u32 n]⟩
  | .valueSummary _ t => ⟨0x3A, t, []⟩
  | .defineShop _ t s c a cfg => ⟨0x40, t, payloadBytes ([.u16 s, .u8 c, .u64 a] ++ scheduleFields cfg)⟩
  | .stageSchedule _ t s cfg => ⟨0x41, t, payloadBytes ([.u16 s] ++ scheduleFields cfg)⟩
  | .setShopState _ t s x => ⟨0x42, t, payloadBytes [.u16 s, .u8 x]⟩
  | .removeShop _ t s => ⟨0x43, t, payloadBytes [.u16 s]⟩
  | .shopPosition _ t s x => ⟨0x44, t, payloadBytes [.u16 s, .u8 x]⟩
  | .adjustCarry _ t s z r => ⟨0x45, t, payloadBytes ([.u16 s, .i64 z] ++ optFld .u32 r)⟩
  | .clearAttention _ t s => ⟨0x46, t, payloadBytes [.u16 s]⟩
  | .setPayoutAccount _ t s a => ⟨0x47, t, payloadBytes [.u16 s, .u64 a]⟩
  | .closePeriod _ t => ⟨0x50, t, []⟩
  | .setScheduler _ t m i => ⟨0x51, t, payloadBytes [.u8 m, .u16 i]⟩
  | .periodStatus _ t => ⟨0x52, t, []⟩
  | .periodSummary _ t p => ⟨0x53, t, payloadBytes (periodFields p)⟩
  | .setChannel _ t n cfg => ⟨0x58, t, payloadBytes ([.u8 n] ++ channelFields cfg)⟩
  | .startRun _ t n => ⟨0x59, t, payloadBytes [.u8 n]⟩
  | .payoutResult _ t n r x => ⟨0x5A, t, payloadBytes [.u8 n, .u32 r, .u8 x]⟩
  | .suspendChannel _ t n => ⟨0x5B, t, payloadBytes [.u8 n]⟩
  | .resumeChannel _ t n => ⟨0x5C, t, payloadBytes [.u8 n]⟩
  | .resetChannel _ t n => ⟨0x5D, t, payloadBytes [.u8 n]⟩
  | .channelStatus _ t n => ⟨0x5E, t, payloadBytes [.u8 n]⟩
  | .setTime _ t c => ⟨0x60, t, payloadBytes [.u32 c]⟩
  | .setDay _ t d => ⟨0x61, t, payloadBytes [.u16 d]⟩
  | .setRollover _ t x => ⟨0x62, t, payloadBytes [.u32 x]⟩
  | .setTrading _ t b => ⟨0x63, t, payloadBytes [.flag b]⟩
  | .advanceDay _ t => ⟨0x64, t, []⟩
  | .timeStatus _ t => ⟨0x65, t, []⟩
  | .identify _ t => ⟨0x70, t, []⟩
  | .partStatus _ t => ⟨0x71, t, []⟩
  | .enterConfig _ t => ⟨0x72, t, []⟩
  | .openPart _ t => ⟨0x73, t, []⟩
  | .restart _ t => ⟨0x74, t, []⟩
  | .storeInitialise _ t => ⟨0x75, t, []⟩
  | .setRoute _ t sel => ⟨0x76, t, payloadBytes (routeFields sel)⟩
  | .unknownRequest _ t k p => ⟨k, t, p⟩
  | .frameReceived .. | .frameGapTimeout .. | .frameSent .. | .linkReset .. | .breakEnded .. | .tick | .holdExpiry ..
  | .confirmTimeout .. | .intervalCountdownExpiry | .dayRollover | .sweepVisit | .sweepEnd | .closeComputeStep
  | .closeComputationEnd | .runWalkStep .. | .payoutOfferEntersQueue | .storeInitialiseComplete | .restartAfterDrain | .powerOn
  | .lossOfPower => ⟨0, 0, []⟩

/-- Terminal requests 0x10..0x1A: the payload's fields in the order of the request's rule. -/
def decodeTerminal (l : Link) (t kind : Nat) (p : List Byte) : Option Instr :=
  match kind with
  | 0x10 => do
    let (c, p) ← getU 8 p
    let (s, p) ← getU 2 p
    let (a, p) ← getU 4 p
    let (rl, p) ← getFlag p
    let (bp, p) ← getOpt 1 p
    let (r, p) ← getU 4 p
    ended (.sellCard l t c s a rl bp r) p
  | 0x11 => do
    let (c, p) ← getU 8 p
    let (s, p) ← getU 2 p
    let (a, p) ← getU 4 p
    let (bp, p) ← getOpt 1 p
    let (r, p) ← getU 4 p
    ended (.reloadCard l t c s a bp r) p
  | 0x12 => do
    let (c, p) ← getU 8 p
    let (s, p) ← getOpt 2 p
    ended (.balance l t c s) p
  | 0x13 => do
    let (c, p) ← getU 8 p
    let (s, p) ← getU 2 p
    let (a, p) ← getU 4 p
    let (b, p) ← getFlag p
    let (r, p) ← getU 4 p
    ended (.redeem l t c s a b r) p
  | 0x14 => do
    let (c, p) ← getU 8 p
    let (s, p) ← getU 2 p
    let (a, p) ← getU 4 p
    let (b, p) ← getFlag p
    let (r, p) ← getU 4 p
    ended (.placeHold l t c s a b r) p
  | 0x15 => do
    let (n, p) ← getU 2 p
    let (g, p) ← getU 2 p
    let (s, p) ← getU 2 p
    let (a, p) ← getU 4 p
    let (r, p) ← getOpt 4 p
    ended (.captureHold l t n g s a r) p
  | 0x16 => do
    let (n, p) ← getU 2 p
    let (g, p) ← getU 2 p
    let (s, p) ← getU 2 p
    ended (.releaseHold l t n g s) p
  | 0x17 => do
    let (n, p) ← getU 2 p
    let (g, p) ← getU 2 p
    let (s, p) ← getU 2 p
    ended (.extendHold l t n g s) p
  | 0x18 => do
    let (o, p) ← getU 4 p
    let (s, p) ← getU 2 p
    let (a, p) ← getU 4 p
    let (c, p) ← getOpt 8 p
    let (r, p) ← getU 4 p
    ended (.refund l t o s a c r) p
  | 0x19 => do
    let (o, p) ← getU 4 p
    let (s, p) ← getU 2 p
    let (r, p) ← getU 4 p
    ended (.voidSale l t o s r) p
  | 0x1A => do
    let (s, p) ← getU 2 p
    let (r, p) ← getU 4 p
    ended (.lookupReference l t s r) p
  | _ => none

/-- Card administration 0x20..0x25, pools 0x30..0x33 and journal 0x38..0x3A. -/
def decodeValue (l : Link) (t kind : Nat) (p : List Byte) : Option Instr :=
  match kind with
  | 0x20 => do
    let (c, p) ← getU 8 p
    ended (.cardDetail l t c) p
  | 0x21 => do
    let (c, p) ← getU 8 p
    ended (.freezeCard l t c) p
  | 0x22 => do
    let (c, p) ← getU 8 p
    ended (.unfreezeCard l t c) p
  | 0x23 => do
    let (c, p) ← getU 8 p
    ended (.closeCard l t c) p
  | 0x24 => do
    let (n, p) ← getU 2 p
    ended (.holdDetail l t n) p
  | 0x25 => do
    let (c, p) ← getU 8 p
    let (q, p) ← getU 1 p
    let (a, p) ← getU 4 p
    ended (.grantPromo l t c q a) p
  | 0x30 => do
    let (q, p) ← getU 1 p
    let (cfg, p) ← getPool p
    ended (.definePool l t q cfg) p
  | 0x31 => do
    let (q, p) ← getU 1 p
    let (a, p) ← getU 8 p
    ended (.addBudget l t q a) p
  | 0x32 => do
    let (q, p) ← getU 1 p
    let (x, p) ← getU 1 p
    ended (.setPoolState l t q x) p
  | 0x33 => do
    let (q, p) ← getU 1 p
    ended (.poolStatus l t q) p
  | 0x38 => do
    let (pos, p) ← getSeek p
    ended (.journalSeek l t pos) p
  | 0x39 => do
    let (n, p) ← getU 4 p
    ended (.journalRead l t n) p
  | 0x3A => ended (.valueSummary l t) p
  | _ => none

/-- Shops 0x40..0x47 and periods 0x50..0x53. -/
def decodeShop (l : Link) (t kind : Nat) (p : List Byte) : Option Instr :=
  match kind with
  | 0x40 => do
    let (s, p) ← getU 2 p
    let (c, p) ← getU 1 p
    let (a, p) ← getU 8 p
    let (cfg, p) ← getSchedule p
    ended (.defineShop l t s c a cfg) p
  | 0x41 => do
    let (s, p) ← getU 2 p
    let (cfg, p) ← getSchedule p
    ended (.stageSchedule l t s cfg) p
  | 0x42 => do
    let (s, p) ← getU 2 p
    let (x, p) ← getU 1 p
    ended (.setShopState l t s x) p
  | 0x43 => do
    let (s, p) ← getU 2 p
    ended (.removeShop l t s) p
  | 0x44 => do
    let (s, p) ← getU 2 p
    let (x, p) ← getU 1 p
    ended (.shopPosition l t s x) p
  | 0x45 => do
    let (s, p) ← getU 2 p
    let (z, p) ← getSigned p
    let (r, p) ← getOpt 4 p
    ended (.adjustCarry l t s z r) p
  | 0x46 => do
    let (s, p) ← getU 2 p
    ended (.clearAttention l t s) p
  | 0x47 => do
    let (s, p) ← getU 2 p
    let (a, p) ← getU 8 p
    ended (.setPayoutAccount l t s a) p
  | 0x50 => ended (.closePeriod l t) p
  | 0x51 => do
    let (m, p) ← getU 1 p
    let (i, p) ← getU 2 p
    ended (.setScheduler l t m i) p
  | 0x52 => ended (.periodStatus l t) p
  | 0x53 => do
    let (n, p) ← getPeriod p
    ended (.periodSummary l t n) p
  | _ => none

/-- Payout 0x58..0x5E, time 0x60..0x65 and part 0x70..0x76. The trading gate is a flag, 1 for on (log 42). -/
def decodePart (l : Link) (t kind : Nat) (p : List Byte) : Option Instr :=
  match kind with
  | 0x58 => do
    let (n, p) ← getU 1 p
    let (cfg, p) ← getChannel p
    ended (.setChannel l t n cfg) p
  | 0x59 => do
    let (n, p) ← getU 1 p
    ended (.startRun l t n) p
  | 0x5A => do
    let (n, p) ← getU 1 p
    let (r, p) ← getU 4 p
    let (x, p) ← getU 1 p
    ended (.payoutResult l t n r x) p
  | 0x5B => do
    let (n, p) ← getU 1 p
    ended (.suspendChannel l t n) p
  | 0x5C => do
    let (n, p) ← getU 1 p
    ended (.resumeChannel l t n) p
  | 0x5D => do
    let (n, p) ← getU 1 p
    ended (.resetChannel l t n) p
  | 0x5E => do
    let (n, p) ← getU 1 p
    ended (.channelStatus l t n) p
  | 0x60 => do
    let (c, p) ← getU 4 p
    ended (.setTime l t c) p
  | 0x61 => do
    let (d, p) ← getU 2 p
    ended (.setDay l t d) p
  | 0x62 => do
    let (x, p) ← getU 4 p
    ended (.setRollover l t x) p
  | 0x63 => do
    let (b, p) ← getFlag p
    ended (.setTrading l t b) p
  | 0x64 => ended (.advanceDay l t) p
  | 0x65 => ended (.timeStatus l t) p
  | 0x70 => ended (.identify l t) p
  | 0x71 => ended (.partStatus l t) p
  | 0x72 => ended (.enterConfig l t) p
  | 0x73 => ended (.openPart l t) p
  | 0x74 => ended (.restart l t) p
  | 0x75 => ended (.storeInitialise l t) p
  | 0x76 => do
    let (sel, p) ← getRoute p
    ended (.setRoute l t sel) p
  | _ => none

/-- The request that a frame spells, if its kind is listed and its payload has the shape of the kind's fields (11 R185). -/
def decodeFields (l : Link) (t kind : Nat) (p : List Byte) : Option Instr :=
  if kind < 0x20 then decodeTerminal l t kind p
  else if kind < 0x40 then decodeValue l t kind p
  else if kind < 0x58 then decodeShop l t kind p
  else decodePart l t kind p

/-- The command that takes a frame: the request it spells, or `unknownRequest` where it spells none. -/
def decodeRequest (l : Link) (f : RxFrame) : Instr :=
  (decodeFields l f.tag f.kind f.payload).getD (.unknownRequest l f.tag f.kind f.payload)

/-- The command a word spells by the table's bits. No row of spec/opcode_table.json gives bits (98_reader: n_rows_with_fixed 0),
so no word spells a command. -/
def decodeTableWord (_nbits _w : Nat) : Option Instr := none

end Sys2Proof
end

