-- ==== Sys2Proof/Machine/State.lean ====
section
/-! DEFINITION. The state of the part as plain data, block by block (00, Block overview), the reasons a step could stop, and the
state after reset. -/

namespace Sys2Proof.Machine

/-! ## Cards (01) -/

/-- 01 R1. -/
inductive CardState where
  | active
  | frozen
  | closed
  deriving DecidableEq, Repr

/-- 01 R1: one item of promotional value. -/
structure Bucket where
  pool : Nat
  expiry : Nat
  amount : Nat
  deriving DecidableEq, Repr

/-- 02 R25: a slot and the generation of the slot when the hold was placed. -/
structure HoldRef where
  slot : Nat
  gen : Nat
  deriving DecidableEq, Repr

/-- 01 R1: a card record; its id is its key in the card table. -/
structure Card where
  slot : Nat
  state : CardState
  reloadable : Bool
  base : Nat
  buckets : List Bucket
  holds : List HoldRef
  issuer : Nat
  saleDay : Nat
  closedPeriod : Option Nat
  deriving DecidableEq, Repr

/-! ## Holds (02) -/

/-- 02 R25. -/
inductive LastEnd where
  | captured
  | released
  | expired
  | restart
  deriving DecidableEq, Repr

/-- 01 R10: a promotional part of a split, drawn from the bucket of its pool and expiry day. -/
structure PromoPart where
  pool : Nat
  expiry : Nat
  amount : Nat
  deriving DecidableEq, Repr

/-- 01 R10: the parts of a split, promotional parts in list order, then the base part (0: no base part). -/
structure Split where
  promo : List PromoPart
  base : Nat
  deriving DecidableEq, Repr

/-- 02 R25: the fields marked "PLACED only". -/
structure Hold where
  card : Nat
  shop : Nat
  total : Nat
  parts : Split
  remaining : Nat
  extensions : Nat
  ref : Nat
  deriving DecidableEq, Repr

/-- 02 R25: a hold slot; it is PLACED when it carries a hold and FREE otherwise. -/
structure HoldSlot where
  gen : Nat
  lastEnd : LastEnd
  hold : Option Hold
  deriving DecidableEq, Repr

/-! ## Pools and the sweep (04) -/

/-- 04 R67. -/
inductive PoolState where
  | empty
  | opened
  | suspended
  | closed
  deriving DecidableEq, Repr

/-- 04 R67; funder `none` is MALL. -/
structure Pool where
  state : PoolState
  funder : Option Nat
  mask : BitVec 16
  rate : Nat
  cap : Nat
  validity : Nat
  budget : Nat
  recycle : Bool
  low : Nat
  granted : Nat
  ungranted : Nat
  redeemed : Nat
  returned : Nat
  expired : Nat
  recycled : Nat
  pending : Nat
  deriving DecidableEq, Repr

/-- 04 R78: what the walk has moved to one pool's pending expiry. -/
structure Swept where
  value : Nat
  buckets : Nat
  deriving DecidableEq, Repr

/-- 04 R78. -/
structure Sweep where
  inFlight : Bool
  day : Nat
  cursor : Nat
  swept : Table Swept
  deriving DecidableEq, Repr

/-! ## Journal (05) -/

/-- 05 R85. -/
inductive EntryKind where
  | sale
  | reload
  | grant
  | redeem
  | capture
  | refund
  | void
  | expire
  | adjust
  deriving DecidableEq, Repr

/-- 05 R85: a promotional part of an entry; the kinds that record the bucket's expiry day carry it. -/
structure EntryPart where
  pool : Nat
  amount : Nat
  expiry : Option Nat
  deriving DecidableEq, Repr

/-- 05 R85: refunded so far, the promotional amounts in the order of the entry's parts. -/
structure Refunded where
  base : Int
  promo : List Nat
  deriving DecidableEq, Repr

/-- 05 R85: a journal entry; a field that its kind does not carry is `none` (or the empty list of forfeited parts). -/
structure Entry where
  seq : Nat
  kind : EntryKind
  period : Nat
  day : Nat
  clock : Nat
  card : Option Nat
  shop : Option Nat
  ref : Option Nat
  amount : Int
  base : Option Int
  parts : List EntryPart
  original : Option Nat
  target : Option Nat
  forfeited : List EntryPart
  refunded : Option Refunded
  voided : Option Bool
  swept : Option Nat
  deriving DecidableEq, Repr

/-- 05 R94: the nine value counters, unsigned 64-bit counts of minor units in the order of the rule's table; what follows the top
count is log 12. -/
structure Counters where
  issuedBase : BitVec 64
  grantedPromo : BitVec 64
  redeemedBase : BitVec 64
  redeemedPromo : BitVec 64
  refundedBase : BitVec 64
  refundedPromo : BitVec 64
  voidedBase : BitVec 64
  ungrantedPromo : BitVec 64
  expiredPromo : BitVec 64
  deriving DecidableEq, Repr

/-- 05 R86, R89, R90, R93, R94: the ring's present entries oldest first, and the journal's registers. -/
structure Journal where
  entries : List Entry
  writePos : Nat
  next : Nat
  released : Nat
  wraps : Nat
  counters : Counters
  deriving DecidableEq, Repr

/-! ## Shops (06) -/

/-- 06 R102. -/
inductive ShopState where
  | unused
  | trading
  | barred
  | departed
  deriving DecidableEq, Repr

/-- 06 R109. -/
structure Schedule where
  redemptionRate : Nat
  fixedFee : Nat
  commissionRate : Nat
  minPayout : Nat
  lifetime : Nat
  deriving DecidableEq, Repr

/-- 06 R105. -/
structure Position where
  sold : Int
  voided : Int
  redeemedBase : Int
  redeemedPromo : Int
  refundedBase : Int
  refundedPromo : Int
  count : Nat
  sponsor : Int
  saturated : Bool
  deriving DecidableEq, Repr

/-- 06 R102, 07 R132: the closing result. -/
structure ClosingResult where
  fee : Int
  commission : Int
  net : Int
  due : Int
  newCarry : Int
  computed : Bool
  held : Bool
  deriving DecidableEq, Repr

/-- 06 R102. -/
inductive PayoutState where
  | none
  | due
  | offered
  | uncertain
  | paid
  | failed
  | deferred
  | held
  deriving DecidableEq, Repr

/-- 06 R102. -/
structure Payout where
  state : PayoutState
  amount : Nat
  serial : Nat
  deriving DecidableEq, Repr

/-- 06 R102: a shop record. -/
structure Shop where
  state : ShopState
  category : Nat
  account : Nat
  schedule : Schedule
  staged : Option Schedule
  live : Position
  closing : Position
  closingSchedule : Schedule
  result : ClosingResult
  carry : Int
  payout : Payout
  attention : Bool
  deriving DecidableEq, Repr

/-! ## Periods and settlement arithmetic (07) -/

/-- 07 R120, R121. -/
inductive ClosingState where
  | closing
  | settling
  | released
  deriving DecidableEq, Repr

/-- 07 R120. -/
inductive SchedulerMode where
  | manual
  | daily
  | interval
  deriving DecidableEq, Repr

/-- 07 R135: what asked for a close. -/
inductive CloseCause where
  | request
  | daily
  | interval
  deriving DecidableEq, Repr

/-- 07 R135, Computation: filled in at the end of the computation. -/
structure SummaryComputation where
  day : Nat
  clock : Nat
  sumS : Int
  sumB : Int
  sumF : Int
  sumK : Int
  sumP : Int
  sumC : Int
  sumT : Int
  noneCount : Nat
  dueCount : Nat
  deferredCount : Nat
  heldCount : Nat
  dueTotal : Nat
  deferredTotal : Nat
  heldShops : Nat
  heldByClamp : Nat
  deriving DecidableEq, Repr

/-- 07 R135, Release: filled in at the release. -/
structure SummaryRelease where
  day : Nat
  clock : Nat
  paidCount : Nat
  paidTotal : Nat
  failedCount : Nat
  failedTotal : Nat
  deferredCount : Nat
  deferredTotal : Nat
  heldCount : Nat
  heldTotal : Nat
  carrySum : Int
  madeReleasable : Nat
  purged : Nat
  deriving DecidableEq, Repr

/-- 07 R135: a period summary. -/
structure Summary where
  period : Nat
  cause : CloseCause
  day : Nat
  clock : Nat
  firstSeq : Nat
  rosterCount : Nat
  computation : Option SummaryComputation
  release : Option SummaryRelease
  deriving DecidableEq, Repr

/-- 07 R120; the roster holds shop indices in ascending order. -/
structure PeriodController where
  live : Nat
  closing : Nat
  state : ClosingState
  roster : List Nat
  cursor : Nat
  closePending : Option CloseCause
  mode : SchedulerMode
  interval : Nat
  countdown : Nat
  summaries : List Summary
  deriving DecidableEq, Repr

/-- 00 Block overview, 07 R129, R131: the Settlement Arithmetic Unit. -/
structure SettlementUnit where
  accumulator : Int
  saturated : Bool
  deriving DecidableEq, Repr

/-! ## Payout channels (08) -/

/-- 08 R141. -/
inductive ChannelState where
  | idle
  | running
  | offerWait
  | suspended
  | fault
  deriving DecidableEq, Repr

/-- 08 R141: the outstanding offer, with the re-offer flag of the frame that is to be or was sent (R149, R155). -/
structure Offer where
  shop : Nat
  serial : Nat
  queued : Bool
  reoffer : Bool
  deriving DecidableEq, Repr

/-- 08 R141: counts and amounts of the results taken since the run began. -/
structure RunTotals where
  paidCount : Nat
  paidAmount : Nat
  failedCount : Nat
  failedAmount : Nat
  deferredCount : Nat
  deferredAmount : Nat
  deriving DecidableEq, Repr

/-- 08 R141; cursor `none` is START, `timedOut` is the fault cause TIMEOUT. -/
structure Channel where
  enabled : Bool
  range : Option (Nat × Nat)
  autoStart : Bool
  timeout : Nat
  state : ChannelState
  cursor : Option Nat
  offer : Option Offer
  remaining : Nat
  timedOut : Bool
  totals : RunTotals
  deriving DecidableEq, Repr

/-! ## Time Base (09) and Mode Control (10) -/

/-- 09 R164: the blocks that react to a rollover beside the Link Interface, which sends DAY_ROLLED as it is given. -/
inductive Reactor where
  | poolTable
  | periodController
  | journal
  deriving DecidableEq, Repr

/-- 09 R162, whether a rollover raised by the tick has yet to be taken (R163, R164), the blocks that a rollover has been handed to and
that have yet to react (R164, log 29), and the model's own counter of the reactions taken, to which the free choice of the next one is
applied (log 29). -/
structure TimeBase where
  clock : Nat
  timeSet : Bool
  day : Nat
  rolloverSecond : Nat
  trading : Bool
  rolloverDue : Bool
  handed : List Reactor
  turn : Nat
  deriving DecidableEq, Repr

/-- 10 R172. -/
inductive Mode where
  | config
  | opened
  deriving DecidableEq, Repr

/-- 10 R172. -/
inductive StoreState where
  | valid
  | blank
  deriving DecidableEq, Repr

/-- 10 R172. -/
inductive RestartCause where
  | powerOn
  | request
  | initialise
  deriving DecidableEq, Repr

/-- 10 R172, the format mark (R176), and whether a RESTART is draining the queues (R180). -/
structure ModeControl where
  mode : Mode
  store : StoreState
  initInFlight : Bool
  lastRestart : RestartCause
  formatMark : Bool
  draining : Bool
  deriving DecidableEq, Repr

/-! ## Link Interface (11) -/

/-- 11 Result codes. -/
inductive Result where
  | ok
  | partialTaken
  | unknownRequest
  | badField
  | notPermitted
  | notOpen
  | configOnly
  | busy
  | storeBlank
  | timeNotSet
  | noCard
  | cardExists
  | cardStoreFull
  | cardFrozen
  | cardClosed
  | notReloadable
  | limit
  | insufficient
  | notEmpty
  | holdTableFull
  | holdLimit
  | unknownHold
  | holdExpired
  | holdDropped
  | overHold
  | extendLimit
  | originalGone
  | notRefundable
  | overRefund
  | notVoidable
  | alreadyVoided
  | voidWindow
  | cardHeld
  | valueUsed
  | poolState
  | budget
  | bucketLimit
  | journalFull
  | cursorLost
  | notFound
  | noShop
  | wrongShop
  | shopBarred
  | shopDeparted
  | shopState
  | notSettled
  | closeBusy
  | noPeriod
  | runActive
  | overlap
  | staleResult
  | channelState
  deriving DecidableEq, Repr

/-- 11 Notices: the nine routable classes. -/
inductive NoticeClass where
  | holdExpired
  | promoSwept
  | dayRolled
  | poolLow
  | journalReserve
  | closeDone
  | periodReleased
  | runDone
  | channelFault
  deriving DecidableEq, Repr

/-- 11 R191. -/
inductive Route where
  | aLink
  | tLink
  | both
  | none
  deriving DecidableEq, Repr

/-- 11 R191: the routing table. -/
structure Routes where
  holdExpired : Route
  promoSwept : Route
  dayRolled : Route
  poolLow : Route
  journalReserve : Route
  closeDone : Route
  periodReleased : Route
  runDone : Route
  channelFault : Route
  deriving DecidableEq, Repr

/-- 11 R187. -/
structure Marks where
  overrun : Bool
  frameError : Bool
  noticeLost : Bool
  deriving DecidableEq, Repr

/-- 11 Frame envelope: a frame of a transmit queue. A reply carries its kind, the request's tag, the result code, the marks and
its payload; a notice its code and payload. -/
inductive TxFrame where
  | reply (kind tag : Nat) (code : Result) (marks : Marks) (payload : List Fld)
  | notice (code : Nat) (payload : List Fld)
  deriving DecidableEq, Repr

/-- 11 R185, R190: a request in progress; `discard` when a link reset has condemned its reply. -/
structure InProgress where
  kind : Nat
  tag : Nat
  discard : Bool
  deriving DecidableEq, Repr

/-- 05 R96: a journal read cursor. -/
inductive Cursor where
  | oldest
  | at (seq : Nat)
  deriving DecidableEq, Repr

/-- 11 R183 to R187, R190: one link. -/
structure LinkState where
  rx : List RxFrame
  partialRx : List Byte
  tx : List TxFrame
  busy : Option InProgress
  marks : Marks
  cursor : Cursor
  inBreak : Bool
  deriving DecidableEq, Repr

/-! ## The machine -/

/-- The whole state of the part, one field for each block or table of 00, Block overview, and the queue of waiting commands. -/
structure State where
  pending : List Instr
  power : Bool
  ctrl : ModeControl
  time : TimeBase
  tLink : LinkState
  aLink : LinkState
  routes : Routes
  cards : Table Card
  holds : Table HoldSlot
  pools : Table Pool
  sweep : Sweep
  journal : Journal
  shops : Table Shop
  period : PeriodController
  sau : SettlementUnit
  channels : Table Channel
  serial : Nat
  deriving DecidableEq, Repr

/-- The part has no fault that stops it: every failed check is answered with a result code. No constructor. -/
inductive Fault where
  deriving DecidableEq, Repr

/-- The reasons a command is refused by the model. -/
inductive Refusal where
  /-- Raised by an arm of `exec` whose command has no meaning yet; no arm uses it. Safe: nothing is claimed of such a command. -/
  | notModelled (mnemonic : String)
  deriving DecidableEq, Repr

/-! ## Values after STORE_INITIALISE and after reset -/

/-- 02 R46: FREE, generation 0, last end RELEASED. -/
def freeHoldSlot : HoldSlot := { gen := 0, lastEnd := .released, hold := none }

/-- 04 R67, R84: an EMPTY pool. -/
def emptyPool : Pool :=
  { state := .empty, funder := none, mask := 0, rate := 0, cap := 0, validity := 0, budget := 0, recycle := false, low := 0,
    granted := 0, ungranted := 0, redeemed := 0, returned := 0, expired := 0, recycled := 0, pending := 0 }

/-- 04 R84: no walk in flight, figures 0 (sweep day and cursor: DESIGN CHOICE 0, log 19). -/
def idleSweep : Sweep := { inFlight := false, day := 0, cursor := 0, swept := [] }

/-- 05 R101. -/
def zeroCounters : Counters :=
  { issuedBase := 0, grantedPromo := 0, redeemedBase := 0, redeemedPromo := 0, refundedBase := 0, refundedPromo := 0, voidedBase := 0,
    ungrantedPromo := 0, expiredPromo := 0 }

/-- 05 R101. -/
def emptyJournal : Journal := { entries := [], writePos := 0, next := 1, released := 0, wraps := 0, counters := zeroCounters }

/-- 06 R119: both rates 0, fixed fee 0, minimum payout 0, hold lifetime 900. -/
def zeroSchedule : Schedule := { redemptionRate := 0, fixedFee := 0, commissionRate := 0, minPayout := 0, lifetime := 900 }

/-- 06 R110, R119: a position with every field 0 and its mark clear. -/
def zeroPosition : Position :=
  { sold := 0, voided := 0, redeemedBase := 0, redeemedPromo := 0, refundedBase := 0, refundedPromo := 0, count := 0,
    sponsor := 0, saturated := false }

/-- 06 R110, R119: every figure 0, computed flag set and held flag clear. -/
def zeroResult : ClosingResult :=
  { fee := 0, commission := 0, net := 0, due := 0, newCarry := 0, computed := true, held := false }

/-- 06 R119: payout record NONE, amount 0, serial 0. -/
def noPayout : Payout := { state := .none, amount := 0, serial := 0 }

/-- 06 R119: an UNUSED shop. -/
def unusedShop : Shop :=
  { state := .unused, category := 0, account := 0, schedule := zeroSchedule, staged := none, live := zeroPosition,
    closing := zeroPosition, closingSchedule := zeroSchedule, result := zeroResult, carry := 0, payout := noPayout,
    attention := false }

/-- 07 R140. -/
def initialPeriod : PeriodController :=
  { live := 1, closing := 0, state := .released, roster := [], cursor := 512, closePending := none, mode := .manual,
    interval := 240, countdown := 0, summaries := [] }

/-- 08 R161: run totals 0. -/
def zeroTotals : RunTotals :=
  { paidCount := 0, paidAmount := 0, failedCount := 0, failedAmount := 0, deferredCount := 0, deferredAmount := 0 }

/-- 08 R161. -/
def idleChannel : Channel :=
  { enabled := false, range := none, autoStart := false, timeout := 120, state := .idle, cursor := none, offer := none,
    remaining := 0, timedOut := false, totals := zeroTotals }

/-- 11 R187: all marks clear. -/
def clearMarks : Marks := { overrun := false, frameError := false, noticeLost := false }

/-- 11 R192: a link after a restart. -/
def idleLink : LinkState :=
  { rx := [], partialRx := [], tx := [], busy := none, marks := clearMarks, cursor := .oldest, inBreak := false }

/-- 11 Notices: the default routes. -/
def defaultRoutes : Routes :=
  { holdExpired := .tLink, promoSwept := .aLink, dayRolled := .both, poolLow := .aLink, journalReserve := .both,
    closeDone := .aLink, periodReleased := .aLink, runDone := .aLink, channelFault := .aLink }

/-- The part after a power-on that finds no format mark (10 R176): the store BLANK, the blocks as their STORE_INITIALISE rows
give them, the clock 0 (09 R171), CONFIG (10 R172). See log 1. -/
def State.reset : State :=
  { pending := []
    power := true
    ctrl := { mode := .config, store := .blank, initInFlight := false, lastRestart := .powerOn, formatMark := false,
              draining := false }
    time := { clock := 0, timeSet := false, day := 0, rolloverSecond := 14400, trading := false, rolloverDue := false, handed := [],
              turn := 0 }
    tLink := idleLink
    aLink := idleLink
    routes := defaultRoutes
    cards := []
    holds := []
    pools := []
    sweep := idleSweep
    journal := emptyJournal
    shops := []
    period := initialPeriod
    sau := { accumulator := 0, saturated := false }
    channels := []
    serial := 0 }

end Sys2Proof.Machine
end

