-- ==== Sys2Proof/Machine/Table.lean ====
section
/-! DEFINITION. Reading and writing the sparse tables that hold the numbered records of the blocks. -/

namespace Sys2Proof.Machine

/-- The value listed under `k`. -/
def tableGet {α : Type} (k : Nat) : Table α → Option α
  | [] => none
  | (j, v) :: t => if j = k then some v else tableGet k t

/-- Lists `v` under `k`, in its place in the rising order. -/
def tablePut {α : Type} (k : Nat) (v : α) : Table α → Table α
  | [] => [(k, v)]
  | (j, w) :: t => if k < j then (k, v) :: (j, w) :: t else if k = j then (k, v) :: t else (j, w) :: tablePut k v t

/-- Takes `k` out of the table. -/
def tableDrop {α : Type} (k : Nat) (t : Table α) : Table α := t.filter (fun e => e.1 ≠ k)

/-- The record numbered `k` of a table whose unlisted records read as `d`. -/
def tableRead {α : Type} (d : α) (k : Nat) (t : Table α) : α := (tableGet k t).getD d

/-- Writes record `k` of a table whose unlisted records read as `d`; a record equal to `d` is not listed. -/
def tableWrite {α : Type} [DecidableEq α] (d : α) (k : Nat) (v : α) (t : Table α) : Table α :=
  if v = d then tableDrop k t else tablePut k v t

/-- The table's form: numbers strictly rising. -/
def tableRising {α : Type} (t : Table α) : Bool := decide (t.Pairwise (fun a b => a.1 < b.1))

/-- The form of a table with a default: numbers strictly rising, no record equal to the default. -/
def tableCanonical {α : Type} [DecidableEq α] (d : α) (t : Table α) : Bool := tableRising t && t.all (fun e => e.2 ≠ d)

end Sys2Proof.Machine
end

