-- ==== Sys2Proof/Machine/Operands.lean ====
section
/-! DEFINITION. The operands of the commands: reading and writing the records they name, the range checks of their fields, and
the codes of the enumerations (11, Field encodings: the position of the value in the list where its rule or table first gives
the values, counting from 0). -/

namespace Sys2Proof.Machine

/-! ## Records by number -/

/-- The card record of an id, if it is in the map (01 R2). -/
def State.card? (s : State) (id : Nat) : Option Card := tableGet id s.cards

/-- The record read for an id that is absent; only unguarded reads in states that no run reaches see it (log 20). -/
def absentCard : Card :=
  { slot := 0, state := .active, reloadable := false, base := 0, buckets := [], holds := [], issuer := 0, saleDay := 0,
    closedPeriod := none }

/-- The card record of an id whose presence has been checked. -/
def State.card (s : State) (id : Nat) : Card := tableRead absentCard id s.cards

/-- Writes the card record of an id. -/
def State.setCard (s : State) (id : Nat) (c : Card) : State := { s with cards := tablePut id c s.cards }

/-- A hold slot (02 R25). -/
def State.holdSlot (s : State) (n : Nat) : HoldSlot := tableRead freeHoldSlot n s.holds

/-- Writes a hold slot. -/
def State.setHoldSlot (s : State) (n : Nat) (h : HoldSlot) : State := { s with holds := tableWrite freeHoldSlot n h s.holds }

/-- A pool record (04 R67). -/
def State.pool (s : State) (p : Nat) : Pool := tableRead emptyPool p s.pools

/-- Writes a pool record. -/
def State.setPool (s : State) (p : Nat) (x : Pool) : State := { s with pools := tableWrite emptyPool p x s.pools }

/-- A shop record (06 R102). -/
def State.shop (s : State) (i : Nat) : Shop := tableRead unusedShop i s.shops

/-- Writes a shop record. -/
def State.setShop (s : State) (i : Nat) (x : Shop) : State := { s with shops := tableWrite unusedShop i x s.shops }

/-- A payout channel (08 R141). -/
def State.channel (s : State) (n : Nat) : Channel := tableRead idleChannel n s.channels

/-- Writes a payout channel. -/
def State.setChannel (s : State) (n : Nat) (x : Channel) : State := { s with channels := tableWrite idleChannel n x s.channels }

/-- The state of a link. -/
def State.link (s : State) : Link → LinkState
  | .t => s.tLink
  | .a => s.aLink

/-- Writes the state of a link. -/
def State.setLink (s : State) (l : Link) (k : LinkState) : State :=
  match l with
  | .t => { s with tLink := k }
  | .a => { s with aLink := k }

/-- The present entry of a sequence number (05 R89). -/
def State.entry? (s : State) (seq : Nat) : Option Entry := s.journal.entries.find? (fun e => e.seq == seq)

/-- The number of the lowest free card slot (01 R2): the lowest number that no record occupies. -/
def State.freeCardSlot (s : State) : Nat :=
  let used := s.cards.map (fun e => e.2.slot)
  ((List.range (used.length + 1)).find? (fun n => !used.contains n)).getD used.length

/-- The number of the lowest FREE hold slot (02 R28), 1,024 when none is FREE. -/
def State.lowestFreeHoldSlot (s : State) : Nat :=
  let used := (s.holds.filter (fun e => e.2.hold.isSome)).map (fun e => e.1)
  ((List.range (used.length + 1)).find? (fun n => !used.contains n)).getD used.length

/-- The PLACED holds with their slots, in slot order. -/
def State.placedHolds (s : State) : List (Nat × Hold) :=
  s.holds.filterMap (fun e => e.2.hold.map (fun h => (e.1, h)))

/-! ## Ranges of fields -/

/-- 01 R2: a card id is 1..9,999,999,999,999,999. -/
def cardIdOk (id : Nat) : Bool := 1 ≤ id && id ≤ Config.maxCardId

/-- A shop index is 0..511. -/
def shopOk (i : Nat) : Bool := i < Config.shopCount

/-- An amount of one transaction is 1..5,000,000. -/
def amountOk (a : Nat) : Bool := 1 ≤ a && a ≤ Config.cardLimit

/-- A pool number is 0..15. -/
def poolOk (p : Nat) : Bool := p < Config.poolCount

/-- A channel number is 0..3. -/
def channelOk (n : Nat) : Bool := n < Config.channelCount

/-- A sequence number is 1..4,294,967,295. -/
def seqOk (n : Nat) : Bool := 1 ≤ n && n ≤ Config.topNumber

/-- 07 R129: within the position limit. -/
def withinLimit (z : Int) : Bool := -Config.positionLimit ≤ z && z ≤ Config.positionLimit

/-- 06 R109: the fields that refuse a schedule; the others are clamped. -/
def scheduleOk (c : ScheduleArg) : Bool := c.redemptionRate ≤ 50000 && c.fixedFee ≤ 500 && c.commissionRate ≤ 50000

/-- 06 R109: the schedule as stored, with its clamps and its default lifetime. -/
def storedSchedule (c : ScheduleArg) : Schedule :=
  { redemptionRate := c.redemptionRate
    fixedFee := c.fixedFee
    commissionRate := c.commissionRate
    minPayout := min c.minPayout 10000000
    lifetime := min (max (c.lifetime.getD 900) 30) 3600 }

/-- 08 R143: a range given as low..high has low ≤ high ≤ 511. -/
def rangeOk : Option (Nat × Nat) → Bool
  | none => true
  | some r => r.1 ≤ r.2 && r.2 < Config.shopCount

/-- Whether a shop index lies within a range. -/
def inRange (i : Nat) : Option (Nat × Nat) → Bool
  | none => false
  | some r => r.1 ≤ i && i ≤ r.2

/-- 08 R143: whether two ranges share a shop index. -/
def rangesMeet : Option (Nat × Nat) → Option (Nat × Nat) → Bool
  | some a, some b => a.1 ≤ b.2 && b.1 ≤ a.2
  | _, _ => false

/-! ## Enumerations: operand codes -/

/-- 04 R67: EMPTY, OPEN, SUSPENDED, CLOSED. -/
def poolStateOf : Nat → Option PoolState
  | 0 => some .empty
  | 1 => some .opened
  | 2 => some .suspended
  | 3 => some .closed
  | _ => none

/-- 06 R102: UNUSED, TRADING, BARRED, DEPARTED. -/
def shopStateOf : Nat → Option ShopState
  | 0 => some .unused
  | 1 => some .trading
  | 2 => some .barred
  | 3 => some .departed
  | _ => none

/-- 07 R120: MANUAL, DAILY, INTERVAL. -/
def schedulerModeOf : Nat → Option SchedulerMode
  | 0 => some .manual
  | 1 => some .daily
  | 2 => some .interval
  | _ => none

/-- 08 R151: the outcomes PAID, FAILED, DEFER as the payout state each gives (R152). -/
def outcomeOf : Nat → Option PayoutState
  | 0 => some .paid
  | 1 => some .failed
  | 2 => some .deferred
  | _ => none

/-- 11 R191: A-link, T-link, BOTH, NONE. -/
def routeOf : Nat → Option Route
  | 0 => some .aLink
  | 1 => some .tLink
  | 2 => some .both
  | 3 => some .none
  | _ => none

/-- 11 Notices: the nine routable classes by code; PAYOUT_OFFER (9) is not routable. -/
def noticeClassOf : Nat → Option NoticeClass
  | 0 => some .holdExpired
  | 1 => some .promoSwept
  | 2 => some .dayRolled
  | 3 => some .poolLow
  | 4 => some .journalReserve
  | 5 => some .closeDone
  | 6 => some .periodReleased
  | 7 => some .runDone
  | 8 => some .channelFault
  | _ => none

/-! ## Enumerations: codes in replies and notices -/

/-- 01 R1. -/
def cardStateCode : CardState → Nat
  | .active => 0
  | .frozen => 1
  | .closed => 2

/-- 02 R25. -/
def lastEndCode : LastEnd → Nat
  | .captured => 0
  | .released => 1
  | .expired => 2
  | .restart => 3

/-- 04 R67. -/
def poolStateCode : PoolState → Nat
  | .empty => 0
  | .opened => 1
  | .suspended => 2
  | .closed => 3

/-- 05 R85. -/
def entryKindCode : EntryKind → Nat
  | .sale => 0
  | .reload => 1
  | .grant => 2
  | .redeem => 3
  | .capture => 4
  | .refund => 5
  | .void => 6
  | .expire => 7
  | .adjust => 8

/-- 06 R102. -/
def shopStateCode : ShopState → Nat
  | .unused => 0
  | .trading => 1
  | .barred => 2
  | .departed => 3

/-- 06 R102. -/
def payoutStateCode : PayoutState → Nat
  | .none => 0
  | .due => 1
  | .offered => 2
  | .uncertain => 3
  | .paid => 4
  | .failed => 5
  | .deferred => 6
  | .held => 7

/-- 07 R120. -/
def closingStateCode : ClosingState → Nat
  | .closing => 0
  | .settling => 1
  | .released => 2

/-- 07 R120. -/
def schedulerModeCode : SchedulerMode → Nat
  | .manual => 0
  | .daily => 1
  | .interval => 2

/-- 07 R135: REQUEST, DAILY, INTERVAL. -/
def closeCauseCode : CloseCause → Nat
  | .request => 0
  | .daily => 1
  | .interval => 2

/-- 07 R120: the causes of close pending, DAILY, INTERVAL (log 8). -/
def pendingCauseCode : CloseCause → Nat
  | .request => 0
  | .daily => 0
  | .interval => 1

/-- 08 R141. -/
def channelStateCode : ChannelState → Nat
  | .idle => 0
  | .running => 1
  | .offerWait => 2
  | .suspended => 3
  | .fault => 4

/-- 10 R172. -/
def modeCode : Mode → Nat
  | .config => 0
  | .opened => 1

/-- 10 R172. -/
def storeStateCode : StoreState → Nat
  | .valid => 0
  | .blank => 1

/-- 10 R172. -/
def restartCauseCode : RestartCause → Nat
  | .powerOn => 0
  | .request => 1
  | .initialise => 2

/-- 11 R191. -/
def routeCode : Route → Nat
  | .aLink => 0
  | .tLink => 1
  | .both => 2
  | .none => 3

/-- 11 Notices. -/
def noticeCode : NoticeClass → Nat
  | .holdExpired => 0x00
  | .promoSwept => 0x01
  | .dayRolled => 0x02
  | .poolLow => 0x03
  | .journalReserve => 0x04
  | .closeDone => 0x05
  | .periodReleased => 0x06
  | .runDone => 0x07
  | .channelFault => 0x08

/-- 11 Notices: PAYOUT_OFFER. -/
def payoutOfferCode : Nat := 0x09

/-- 11 Result codes. -/
def resultCode : Result → Nat
  | .ok => 0x00
  | .partialTaken => 0x01
  | .unknownRequest => 0x10
  | .badField => 0x11
  | .notPermitted => 0x12
  | .notOpen => 0x13
  | .configOnly => 0x14
  | .busy => 0x15
  | .storeBlank => 0x16
  | .timeNotSet => 0x17
  | .noCard => 0x20
  | .cardExists => 0x21
  | .cardStoreFull => 0x22
  | .cardFrozen => 0x23
  | .cardClosed => 0x24
  | .notReloadable => 0x25
  | .limit => 0x26
  | .insufficient => 0x27
  | .notEmpty => 0x28
  | .holdTableFull => 0x30
  | .holdLimit => 0x31
  | .unknownHold => 0x32
  | .holdExpired => 0x33
  | .holdDropped => 0x34
  | .overHold => 0x35
  | .extendLimit => 0x36
  | .originalGone => 0x40
  | .notRefundable => 0x41
  | .overRefund => 0x42
  | .notVoidable => 0x43
  | .alreadyVoided => 0x44
  | .voidWindow => 0x45
  | .cardHeld => 0x46
  | .valueUsed => 0x47
  | .poolState => 0x50
  | .budget => 0x51
  | .bucketLimit => 0x52
  | .journalFull => 0x58
  | .cursorLost => 0x59
  | .notFound => 0x5A
  | .noShop => 0x60
  | .wrongShop => 0x61
  | .shopBarred => 0x62
  | .shopDeparted => 0x63
  | .shopState => 0x64
  | .notSettled => 0x65
  | .closeBusy => 0x66
  | .noPeriod => 0x70
  | .runActive => 0x71
  | .overlap => 0x72
  | .staleResult => 0x73
  | .channelState => 0x74

/-! ## Answers and checks -/

/-- What a request is answered: a result code and the payload of its reply. -/
structure Answer where
  code : Result
  payload : List Fld
  deriving DecidableEq, Repr

/-- A check of a request: it passes (`none`), or it gives the reply. -/
abbrev Check := Option Answer

/-- A check that answers `code` unless `b` holds. -/
def require (b : Bool) (code : Result) (payload : List Fld := []) : Check :=
  if b then none else some { code := code, payload := payload }

/-- "It is checked in this order, and the first failing check gives the reply." -/
def firstFailing : List Check → Check
  | [] => none
  | none :: cs => firstFailing cs
  | some a :: _ => some a

end Sys2Proof.Machine
end

