-- ==== Sys2Proof/Machine/Flags.lean ====
section
/-! DEFINITION. The conditions and derived figures the blocks compute from their state when asked: usability, spendable value,
available and outstanding value, the writable count, the level conditions, the time of day. Nothing here is stored. -/

namespace Sys2Proof.Machine

/-! ## Time (09) -/

/-- 09 R162: the second of day. -/
def secondOfDay (clock : Nat) : Nat := clock % Config.daySeconds

/-- 09 R165: the rollover second less the second of day, plus 86,400 when the difference is 0 or negative. -/
def untilRollover (s : State) : Nat :=
  let now := secondOfDay s.time.clock
  if now < s.time.rolloverSecond then s.time.rolloverSecond - now else s.time.rolloverSecond + Config.daySeconds - now

/-- 07 R125: whether a tick decreases the interval countdown. -/
def countdownRuns (s : State) : Bool :=
  s.period.mode = .interval && s.ctrl.mode = .opened && s.time.trading

/-! ## Pools and buckets (01, 04) -/

/-- 04 R69: budget − (granted − ungranted) + recycled. It is never below 0 (R69). -/
def available (p : Pool) : Nat := p.budget + p.ungranted + p.recycled - p.granted

/-- 04 R69: granted − ungranted − redeemed + returned − expired − pending expiry. -/
def poolOutstanding (p : Pool) : Int :=
  (p.granted : Int) - p.ungranted - p.redeemed + p.returned - p.expired - p.pending

/-- 04 R83: the POOL_LOW condition. -/
def poolLow (p : Pool) : Bool := p.state = .opened && available p < p.low

/-- Whether a mask includes a shop category. -/
def maskHas (m : BitVec 16) (category : Nat) : Bool := m.getLsbD category

/-- 01 R8: value of pool `p` with expiry day `d` is usable now. -/
def usable (s : State) (p d : Nat) : Bool := s.time.day ≤ d && (s.pool p).state ≠ .closed

/-- 01 R8: a bucket eligible at a shop. -/
def eligible (s : State) (shop : Nat) (b : Bucket) : Bool :=
  usable s b.pool b.expiry && maskHas (s.pool b.pool).mask (s.shop shop).category

/-- 01 R18: USABLE 0, EXPIRED 1, POOL_CLOSED 2, without a shop. -/
def valueStatus (s : State) (p d : Nat) : Nat :=
  if d < s.time.day then 1 else if (s.pool p).state = .closed then 2 else 0

/-- 01 R18: the status of a bucket, with EXCLUDED 3 when a shop is given. -/
def bucketStatus (s : State) (shop : Option Nat) (b : Bucket) : Nat :=
  match valueStatus s b.pool b.expiry, shop with
  | 0, some i => if maskHas (s.pool b.pool).mask (s.shop i).category then 0 else 3
  | x, _ => x

/-- 01 R16, 04 R74: the expiry day of a grant made now. -/
def grantExpiry (s : State) (p : Nat) : Nat := min (s.time.day + (s.pool p).validity) 65535

/-- The amounts of a bucket list. -/
def bucketSum (bs : List Bucket) : Nat := (bs.map (fun b => b.amount)).sum

/-- The total of a PLACED slot, 0 for a FREE one. -/
def slotTotal (s : State) (n : Nat) : Nat :=
  match (s.holdSlot n).hold with
  | some h => h.total
  | none => 0

/-- 01 R3, R18: the total held by the PLACED holds of a card. -/
def heldTotal (s : State) (c : Card) : Nat := (c.holds.map (fun r => slotTotal s r.slot)).sum

/-- 01 R3: the value of a card. -/
def cardValue (s : State) (c : Card) : Nat := c.base + bucketSum c.buckets + heldTotal s c

/-- 01 R11: the spendable value of a card at a shop. -/
def spendable (s : State) (shop : Nat) (c : Card) : Nat := bucketSum (c.buckets.filter (eligible s shop)) + c.base

/-- 01 R7: the promotional parts of the PLACED holds in a card's hold list. -/
def heldParts (s : State) (c : Card) : List PromoPart :=
  c.holds.flatMap (fun r =>
    match (s.holdSlot r.slot).hold with
    | some h => h.parts.promo
    | none => [])

/-- 01 R7: some held part is drawn from the bucket. -/
def refersTo (held : List PromoPart) (b : Bucket) : Bool := held.any (fun p => p.pool == b.pool && p.expiry == b.expiry)

/-- 01 R7: the list without its buckets of amount 0 that no PLACED hold refers to. -/
def tidy (held : List PromoPart) (bs : List Bucket) : List Bucket := bs.filter (fun b => b.amount ≠ 0 || refersTo held b)

/-! ## The journal (05) -/

/-- 05 R86: the sequence number, payout serial or cursor after `n`; 1 follows the top value. -/
def numberAfter (n : Nat) : Nat := if n = Config.topNumber then 1 else n + 1

/-- 05 R90: releasable entries. -/
def releasable (j : Journal) (e : Entry) : Bool := e.period ≤ j.released

/-- 05 R90: the number of releasable entries. -/
def releasableCount (j : Journal) : Nat := j.entries.countP (releasable j)

/-- 05 R90: empty slots plus releasable entries. -/
def writable (j : Journal) : Nat := (Config.journalSlots - j.entries.length) + releasableCount j

/-- 05 R92: the JOURNAL_RESERVE condition. -/
def reserveHolds (j : Journal) : Bool := writable j ≤ Config.journalReserve

/-- 05 R91: the check of every entry-writing request; a refusal carries the writable count. -/
def journalRoom (s : State) : Check := require (Config.journalReserve < writable s.journal) .journalFull [.u32 (writable s.journal)]

/-- 05 R89: the sequence number of the oldest present entry. -/
def oldestSeq (j : Journal) : Option Nat := j.entries.head?.map (fun e => e.seq)

/-- 05 R89: the sequence number of the newest present entry. -/
def newestSeq (j : Journal) : Option Nat := j.entries.getLast?.map (fun e => e.seq)

/-- 05 R95: the outstanding value, as the 8 bytes of VALUE_SUMMARY carry it (log 12). -/
def outstandingValue (c : Counters) : BitVec 64 :=
  c.issuedBase - c.voidedBase + c.grantedPromo - c.ungrantedPromo - c.redeemedBase - c.redeemedPromo + c.refundedBase +
    c.refundedPromo - c.expiredPromo

/-- 05 R100: the total of all PLACED hold parts. -/
def allHeld (s : State) : Nat := (s.placedHolds.map (fun e => e.2.total)).sum

/-- 05 R100: the total pending expiry of all sixteen pools. -/
def allPending (s : State) : Nat := ((List.range Config.poolCount).map (fun p => (s.pool p).pending)).sum

/-! ## Shops and payouts (06, 07, 08) -/

/-- The roster shops whose payout record is in a state. -/
def rosterIn (s : State) (x : PayoutState) : List Nat := s.period.roster.filter (fun i => (s.shop i).payout.state = x)

/-- Defined shops within a channel's range whose payout record is in a state. -/
def rangeIn (s : State) (c : Channel) (x : PayoutState) : List Nat :=
  (s.shops.filter (fun e => inRange e.1 c.range && e.2.payout.state = x)).map (fun e => e.1)

/-- 07 R137: the release condition. -/
def releaseHolds (s : State) : Bool :=
  s.period.state = .settling &&
    s.period.roster.all (fun i =>
      (s.shop i).payout.state ≠ .due && (s.shop i).payout.state ≠ .offered && (s.shop i).payout.state ≠ .uncertain)

/-- 08 R141, R149: an offer is outstanding and its frame has not entered the queue. -/
def offerWaits (c : Channel) : Bool :=
  match c.offer with
  | some o => !o.queued
  | none => false

/-- 06 R104: the state check of a request that needs a TRADING shop. -/
def mustTrade (s : State) (shop : Nat) : Check :=
  match (s.shop shop).state with
  | .trading => none
  | .unused => some ⟨.noShop, []⟩
  | .barred => some ⟨.shopBarred, []⟩
  | .departed => some ⟨.shopDeparted, []⟩

/-- 01 R4: the state check of a request that needs an ACTIVE card. -/
def mustBeActive (c : Card) : Check :=
  match c.state with
  | .active => none
  | .frozen => some ⟨.cardFrozen, []⟩
  | .closed => some ⟨.cardClosed, []⟩

/-- The shop is not UNUSED. -/
def mustBeDefined (s : State) (shop : Nat) : Check := require ((s.shop shop).state ≠ .unused) .noShop

/-! ## Links (11) -/

/-- 11 R186: the free places of a transmit queue. -/
def freePlaces (k : LinkState) : Nat := Config.txPlaces - k.tx.length - (if k.busy.isSome then 1 else 0)

/-- 11 R185, Permission: the kinds a T-link may carry. -/
def terminalKind (k : Nat) : Bool := 0x10 ≤ k && k ≤ 0x1A

/-- 10 R172: the terminal requests that move or hold value. -/
def movingKind (k : Nat) : Bool := k = 0x10 || k = 0x11 || (0x13 ≤ k && k ≤ 0x19)

/-- 10 R172: the requests taken in BLANK: IDENTIFY, PART_STATUS, SET_TIME, STORE_INITIALISE. -/
def blankKind (k : Nat) : Bool := k = 0x70 || k = 0x71 || k = 0x60 || k = 0x75

/-- 11 R185 (Permission) and the mode checks of 10 R172, in order. -/
def linkAndModeCheck (l : Link) (kind : Nat) (s : State) : Check :=
  firstFailing
    [ require (l = .a || terminalKind kind) .notPermitted,
      require (!s.ctrl.initInFlight) .busy,
      require (s.ctrl.store = .valid || blankKind kind) .storeBlank,
      require (s.ctrl.mode = .opened || !movingKind kind) .notOpen,
      require (s.ctrl.mode = .config || kind ≠ 0x75) .configOnly ]

end Sys2Proof.Machine
end

