-- ==== Sys2Proof/Machine/Wire.lean ====
section
/-! DEFINITION. What the replies and notices carry, field by field in the order their rules name the fields, and the bytes of a
frame on the line (11 R183, Frame envelope). -/

namespace Sys2Proof.Machine

/-! ## Payload pieces -/

/-- A list field: a count, then the items. -/
def listFlds (items : List (List Fld)) : List Fld := .u8 items.length :: items.flatten

/-- An optional group of fields. -/
def optFlds : Option (List Fld) → List Fld
  | none => [Fld.flag false]
  | some fs => .flag true :: fs

/-- 11: the slot, then the generation, each as 2 bytes. -/
def holdRefFlds (n gen : Nat) : List Fld := [Fld.u16 n, .u16 gen]

/-- 02 R24, R30, R39: the parts of a split: the promotional parts with pool, expiry day and amount, then the base part, 0 where there
is none. That the base part comes last and always travels is the model's choice (log 30). -/
def splitFlds (x : Split) : List Fld :=
  listFlds (x.promo.map (fun p => [Fld.u8 p.pool, .u16 p.expiry, .u32 p.amount])) ++ [Fld.u32 x.base]

/-- 01 R18: a bucket with its pool, amount, expiry day and status. -/
def bucketFlds (s : State) (shop : Option Nat) (b : Bucket) : List Fld :=
  [Fld.u8 b.pool, .u32 b.amount, .u16 b.expiry, .u8 (bucketStatus s shop b)]

/-- 02 R36, R39: the amount sent to pending expiry, with the pool of each part so sent; a capture too lists a pool once for each part
(log 50). -/
def pendingFlds (ps : List (Nat × Nat)) : List Fld :=
  [Fld.u32 (ps.map (fun p => p.2)).sum] ++ listFlds (ps.map (fun p => [Fld.u8 p.1]))

/-- 06 R109: a stored schedule; the hold lifetime takes 2 bytes (log 32). -/
def storedScheduleFlds (c : Schedule) : List Fld :=
  [Fld.u16 c.redemptionRate, .u16 c.fixedFee, .u16 c.commissionRate, .u32 c.minPayout, .u16 c.lifetime]

/-- 06 R105: a position with its saturation mark. -/
def positionFlds (p : Position) : List Fld :=
  [Fld.i64 p.sold, .i64 p.voided, .i64 p.redeemedBase, .i64 p.redeemedPromo, .i64 p.refundedBase, .i64 p.refundedPromo,
   .u32 p.count, .i64 p.sponsor, .flag p.saturated]

/-- 06 R102, R117: the closing result; without figures while it is not computed. The computed flag travels as the presence byte of the
figures and the held flag (log 34). -/
def resultFlds (r : ClosingResult) : List Fld :=
  optFlds (if r.computed then
      some [Fld.i64 r.fee, .i64 r.commission, .i64 r.net, .i64 r.due, .i64 r.newCarry, .flag r.held]
    else none)

/-- 06 R102: the payout record. -/
def payoutFlds (p : Payout) : List Fld := [Fld.u8 (payoutStateCode p.state), .u64 p.amount, .u32 p.serial]

/-- 06 R110: the record as stored. -/
def shopFlds (x : Shop) : List Fld :=
  [Fld.u8 (shopStateCode x.state), .u8 x.category, .u64 x.account] ++ storedScheduleFlds x.schedule ++
    optFlds (x.staged.map storedScheduleFlds) ++ positionFlds x.live ++ positionFlds x.closing ++
    storedScheduleFlds x.closingSchedule ++ resultFlds x.result ++ [Fld.i64 x.carry] ++ payoutFlds x.payout ++ [Fld.flag x.attention]

/-- 04 R71, R77: the configuration of a pool, from funder to low threshold. -/
def poolConfigFlds (p : Pool) : List Fld :=
  optFld .u16 p.funder ++ maskFields p.mask ++
    [Fld.u16 p.rate, .u32 p.cap, .u16 p.validity, .u64 p.budget, .flag p.recycle, .u64 p.low]

/-- 08 R143: the configuration of a channel. -/
def channelConfigFlds (c : Channel) : List Fld :=
  [Fld.flag c.enabled] ++ optFlds (c.range.map (fun r => [Fld.u16 r.1, .u16 r.2])) ++ [Fld.flag c.autoStart, .u16 c.timeout]

/-- 08 R141: run totals. -/
def totalsFlds (t : RunTotals) : List Fld :=
  [Fld.u32 t.paidCount, .u64 t.paidAmount, .u32 t.failedCount, .u64 t.failedAmount, .u32 t.deferredCount, .u64 t.deferredAmount]

/-- 11: a journal cursor: 0 and a sequence number, or 1 for OLDEST. -/
def cursorFlds : Cursor → List Fld
  | .at n => [Fld.u8 0, .u32 n]
  | .oldest => [Fld.u8 1]

/-- 11 R191: the whole routing table: a route byte for each class, in class order (log 44). -/
def routesFlds (r : Routes) : List Fld :=
  [r.holdExpired, r.promoSwept, r.dayRolled, r.poolLow, r.journalReserve, r.closeDone, r.periodReleased, r.runDone,
   r.channelFault].map (fun x => .u8 (routeCode x))

/-- Plain ASCII text as a list of bytes (log 8). -/
def textFlds (t : String) : List Fld := listFlds (t.toList.map (fun c => [Fld.u8 c.toNat]))

/-- 05 R85: a part of an entry; EXPIRE parts are 8 bytes (11, Field encodings). -/
def entryPartFlds (k : EntryKind) (p : EntryPart) : List Fld :=
  [Fld.u8 p.pool, if k = .expire then .u64 p.amount else .u32 p.amount] ++ optFld .u16 p.expiry

/-- 05 R85, R97: an entry with every field it carries; each field that R85 does not mark "Always" is optional, and
"refunded so far" is the base and then a list of the parts' amounts (log 9). -/
def entryFlds (e : Entry) : List Fld :=
  [Fld.u32 e.seq, .u8 (entryKindCode e.kind), .u32 e.period, .u16 e.day, .u32 e.clock] ++
    optFld .u64 e.card ++ optFld .u16 e.shop ++ optFld .u32 e.ref ++
    [match e.kind with
      | .adjust => .i64 e.amount
      | .expire => .u64 e.amount.toNat
      | _ => .u32 e.amount.toNat] ++
    optFlds (e.base.map (fun b => if e.kind = .refund then [Fld.i64 b] else [Fld.u32 b.toNat])) ++
    optFlds (if e.kind = .adjust then none else some (listFlds (e.parts.map (entryPartFlds e.kind)))) ++
    optFld .u32 e.original ++ optFld .u64 e.target ++
    optFlds (if e.forfeited = [] then none else some (listFlds (e.forfeited.map (fun p => [Fld.u8 p.pool, .u32 p.amount])))) ++
    optFlds (e.refunded.map (fun r => [Fld.u32 r.base.toNat] ++ listFlds (r.promo.map (fun n => [Fld.u32 n])))) ++
    optFlds (e.voided.map (fun v => [Fld.flag v])) ++
    optFld .u32 e.swept

/-- 07 R135: the state a summary shows: CLOSING, SETTLING or RELEASED as its parts have been written. -/
def summaryState (m : Summary) : ClosingState :=
  if m.release.isSome then .released else if m.computation.isSome then .settling else .closing

/-- 07 R135, R138: the counts and amounts of the release part, of which the sum of the carries is none (log 36). -/
def releaseFlds (r : SummaryRelease) : List Fld :=
  [Fld.u32 r.paidCount, .u64 r.paidTotal, .u32 r.failedCount, .u64 r.failedTotal, .u32 r.deferredCount, .u64 r.deferredTotal,
   .u32 r.heldCount, .u64 r.heldTotal]

/-- 07 R135, R136: a period summary; its state comes first (log 35). -/
def summaryFlds (m : Summary) : List Fld :=
  [Fld.u8 (closingStateCode (summaryState m)), .u32 m.period, .u8 (closeCauseCode m.cause), .u16 m.day, .u32 m.clock,
   .u32 m.firstSeq, .u32 m.rosterCount] ++
    optFlds (m.computation.map (fun c =>
      [Fld.u16 c.day, .u32 c.clock, .i64 c.sumS, .i64 c.sumB, .i64 c.sumF, .i64 c.sumK, .i64 c.sumP, .i64 c.sumC, .i64 c.sumT,
       .u32 c.noneCount, .u32 c.dueCount, .u32 c.deferredCount, .u32 c.heldCount, .u64 c.dueTotal, .u64 c.deferredTotal,
       .u32 c.heldShops, .u32 c.heldByClamp])) ++
    optFlds (m.release.map (fun r =>
      [Fld.u16 r.day, .u32 r.clock] ++ releaseFlds r ++ [Fld.i64 r.carrySum, .u32 r.madeReleasable, .u32 r.purged]))

/-! ## Frames on the line -/

/-- 11 R183: one bit of the CRC with polynomial x¹⁶ + x¹² + x⁵ + 1, most significant bit first. -/
def crcBit (c : BitVec 16) : BitVec 16 := if c.msb then (c <<< 1) ^^^ 0x1021#16 else c <<< 1

/-- 11 R183: one byte of the CRC. -/
def crcByte (c : BitVec 16) (b : Byte) : BitVec 16 :=
  crcBit (crcBit (crcBit (crcBit (crcBit (crcBit (crcBit (crcBit (c ^^^ (b.setWidth 16 <<< 8)))))))))

/-- 11 R183: the CRC of the bytes from length to the last payload byte; initial value all ones, no final inversion. -/
def crc (bs : List Byte) : BitVec 16 := bs.foldl crcByte 0xFFFF#16

/-- The sync byte. -/
def syncByte : Byte := 0xA5#8

/-- 11 Frame envelope: sync, length, the bytes from kind to the last payload byte, CRC most significant byte first. -/
def envelope (body : List Byte) : List Byte :=
  let covered := BitVec.ofNat 8 body.length :: body
  syncByte :: covered ++ putU 2 (crc covered).toNat

/-- 11 Frame envelope: the marks byte, bit 0 overrun, bit 1 frame error, bit 2 notice lost. -/
def marksByte (m : Marks) : Nat :=
  (if m.overrun then 1 else 0) + (if m.frameError then 2 else 0) + (if m.noticeLost then 4 else 0)

/-- 11 R185: the reply kind is the request kind + 0x80, or 0xFF for a request kind of 0x80 or above. -/
def replyKind (kind : Nat) : Nat := if 0x80 ≤ kind then 0xFF else kind + 0x80

/-- The bytes of a frame of a transmit queue as they are sent on the line. -/
def txBytes : TxFrame → List Byte
  | .reply kind tag code marks payload =>
    envelope (putU 1 kind ++ putU 2 tag ++ putU 1 (resultCode code) ++ putU 1 (marksByte marks) ++ payloadBytes payload)
  | .notice code payload => envelope (putU 1 code ++ putU 2 0 ++ payloadBytes payload)

/-- The bytes of a request frame as the host sends them. -/
def rxBytes (f : RxFrame) : List Byte := envelope (putU 1 f.kind ++ putU 2 f.tag ++ f.payload)

/-- Reads the frame out of the bytes from kind to the last payload byte. -/
def frameOfBody : List Byte → Option RxFrame
  | k :: t1 :: t0 :: payload => some ⟨k.toNat, t1.toNat * 256 + t0.toNat, payload⟩
  | _ => none

/-- What one more byte makes of a receiver: still collecting (the bytes since sync), a frame in error, or a frame whose CRC passed. -/
inductive Received where
  | collecting (bytes : List Byte)
  | error
  | frame (f : RxFrame)
  deriving DecidableEq, Repr

/-- 11 R183: the receiver takes one byte. Hunting (nothing collected), it waits for sync; then a length outside 3..243 ends the
frame in error; then it collects the bytes the length gives and two CRC bytes, and checks. -/
def receiveByte (got : List Byte) (b : Byte) : Received :=
  match got with
  | [] => if b = syncByte then .collecting [b] else .collecting []
  | [y] => if 3 ≤ b.toNat && b.toNat ≤ 243 then .collecting [y, b] else .error
  | y :: n :: body =>
    let all := body ++ [b]
    if all.length < n.toNat + 2 then .collecting (y :: n :: all)
    else
      let covered := all.take n.toNat
      if putU 2 (crc (n :: covered)).toNat = all.drop n.toNat then
        match frameOfBody covered with
        | some f => .frame f
        | none => .error
      else .error

end Sys2Proof.Machine
end

