-- ==== Sys2Proof/Machine/Ops.lean ====
section
/-! DEFINITION. The shared operations over the blocks' state: giving notices and placing replies, moving value on a card, ending a
hold, and writing a journal entry with its postings. -/

namespace Sys2Proof.Machine

/-! ## Notices and replies (11) -/

/-- A notice given to the Link Interface. -/
structure Notice where
  cls : NoticeClass
  payload : List Fld
  deriving DecidableEq, Repr

/-- 11 R191: the route of a class. -/
def routeFor (r : Routes) : NoticeClass → Route
  | .holdExpired => r.holdExpired
  | .promoSwept => r.promoSwept
  | .dayRolled => r.dayRolled
  | .poolLow => r.poolLow
  | .journalReserve => r.journalReserve
  | .closeDone => r.closeDone
  | .periodReleased => r.periodReleased
  | .runDone => r.runDone
  | .channelFault => r.channelFault

/-- 11 R191: the table with the route of one class set. -/
def setRouteFor (r : Routes) (x : Route) : NoticeClass → Routes
  | .holdExpired => { r with holdExpired := x }
  | .promoSwept => { r with promoSwept := x }
  | .dayRolled => { r with dayRolled := x }
  | .poolLow => { r with poolLow := x }
  | .journalReserve => { r with journalReserve := x }
  | .closeDone => { r with closeDone := x }
  | .periodReleased => { r with periodReleased := x }
  | .runDone => { r with runDone := x }
  | .channelFault => { r with channelFault := x }

/-- 11 R188: a notice offered to one link's queue enters when at least 2 places are free, and is dropped with the notice-lost mark
set otherwise. -/
def queueNotice (k : LinkState) (n : Notice) : LinkState :=
  if 2 ≤ freePlaces k then { k with tx := k.tx ++ [.notice (noticeCode n.cls) n.payload] }
  else { k with marks := { k.marks with noticeLost := true } }

/-- 11 R188: a notice dispatched by the route of its class as it stands; while RESTART drains the queues it is not sent (R180). -/
def giveNotice (n : Notice) (s : State) : State :=
  if s.ctrl.draining then s
  else
    match routeFor s.routes n.cls with
    | .aLink => { s with aLink := queueNotice s.aLink n }
    | .tLink => { s with tLink := queueNotice s.tLink n }
    | .both => { s with tLink := queueNotice s.tLink n, aLink := queueNotice s.aLink n }
    | .none => s

/-- Notices given one after another. -/
def giveNotices (ns : List Notice) (s : State) : State := ns.foldl (fun s n => giveNotice n s) s

/-- 11 R185 to R187: the reply of the request in progress enters its reserved place with the marks, which are then cleared; a reply
condemned by a link reset is discarded (R190). -/
def linkReply (k : LinkState) (a : Answer) : LinkState :=
  match k.busy with
  | none => k
  | some p =>
    if p.discard then { k with busy := none }
    else { k with busy := none, marks := clearMarks, tx := k.tx ++ [.reply (replyKind p.kind) p.tag a.code k.marks a.payload] }

/-- The reply of the request in progress on link `l`. -/
def placeReply (l : Link) (a : Answer) (s : State) : State := s.setLink l (linkReply (s.link l) a)

/-! ## Level conditions (04 R83, 05 R92) -/

/-- 04 R83: the POOL_LOW notice of a pool. -/
def poolLowNotice (s : State) (p : Nat) : Notice :=
  { cls := .poolLow, payload := [.u8 p, .u64 (available (s.pool p)), .u64 (s.pool p).low] }

/-- 04 R83: POOL_LOW for every pool whose condition holds in the second state and did not in the first. -/
def poolLowEdges (before after : State) : List Notice :=
  ((List.range Config.poolCount).filter (fun p => poolLow (after.pool p) && !poolLow (before.pool p))).map (poolLowNotice after)

/-- 04 R83: POOL_LOW for every pool whose condition holds. -/
def poolLowNow (s : State) : List Notice :=
  ((List.range Config.poolCount).filter (fun p => poolLow (s.pool p))).map (poolLowNotice s)

/-- 05 R92: the JOURNAL_RESERVE notice. -/
def reserveNotice (s : State) : Notice :=
  let pinned := s.journal.entries.find? (fun e => !releasable s.journal e)
  { cls := .journalReserve
    payload := [.u32 (writable s.journal), .u32 ((pinned.map (fun e => e.seq)).getD 0),
                .u32 ((pinned.map (fun e => e.period)).getD 0), .u32 s.journal.released, .u32 s.period.live] }

/-- 05 R92: JOURNAL_RESERVE when the condition holds in the second state and did not in the first. -/
def reserveEdge (before after : State) : List Notice :=
  if reserveHolds after.journal && !reserveHolds before.journal then [reserveNotice after] else []

/-! ## Value on a card (01) -/

/-- 01 R6: whether the list has the bucket of a pool and expiry day. -/
def hasBucket (p d : Nat) (bs : List Bucket) : Bool := bs.any (fun b => b.pool == p && b.expiry == d)

/-- 01 R6: adds an amount to the bucket of a pool and expiry day. -/
def mergeBucket (p d a : Nat) (bs : List Bucket) : List Bucket :=
  bs.map (fun b => if b.pool = p ∧ b.expiry = d then { b with amount := b.amount + a } else b)

/-- 01 R6: inserts a bucket in order of expiry day, then pool number. -/
def insertBucket (x : Bucket) : List Bucket → List Bucket
  | [] => [x]
  | b :: bs =>
    if x.expiry < b.expiry || (x.expiry = b.expiry && x.pool < b.pool) then x :: b :: bs else b :: insertBucket x bs

/-- 01 R6: crediting an amount to the bucket of a pool and expiry day; `none` where the credit is not made. -/
def credit (p d a : Nat) (bs : List Bucket) : Option (List Bucket) :=
  if hasBucket p d bs then some (mergeBucket p d a bs)
  else if bs.length < Config.bucketLimit then some (insertBucket ⟨p, d, a⟩ bs)
  else none

/-- 01 R10: the walk of the bucket list for an amount: the promotional parts taken, the part still uncovered, and the list with
the parts taken out of their buckets. -/
def walkSplit (s : State) (shop : Nat) : Nat → List Bucket → List PromoPart × Nat × List Bucket
  | a, [] => ([], a, [])
  | a, b :: bs =>
    if eligible s shop b && b.amount ≠ 0 && a ≠ 0 then
      let t := min b.amount a
      let r := walkSplit s shop (a - t) bs
      (⟨b.pool, b.expiry, t⟩ :: r.1, r.2.1, { b with amount := b.amount - t } :: r.2.2)
    else
      let r := walkSplit s shop a bs
      (r.1, r.2.1, b :: r.2.2)

/-- 01 R10: the split of an amount at a shop. -/
def splitOf (s : State) (shop a : Nat) (c : Card) : Split :=
  let r := walkSplit s shop a c.buckets
  { promo := r.1, base := r.2.1 }

/-- 01 R10: the card with a split of an amount taken from it, its emptied buckets still in the list. -/
def afterSplit (s : State) (shop a : Nat) (c : Card) : Card :=
  let r := walkSplit s shop a c.buckets
  { c with buckets := r.2.2, base := c.base - r.2.1 }

/-- 01 R7: the card with its unreferenced empty buckets removed. -/
def tidyCard (s : State) (c : Card) : Card := { c with buckets := tidy (heldParts s c) c.buckets }

/-- 01 R11: the amount a split is made for, and whether it is PARTIAL; `none` where the request is INSUFFICIENT. -/
def splitAmount (s : State) (shop a : Nat) (allowed : Bool) (c : Card) : Option (Nat × Bool) :=
  let v := spendable s shop c
  if a ≤ v then some (a, false) else if allowed && v ≠ 0 then some (v, true) else none

/-- 01 R11: the check of a split; INSUFFICIENT carries the spendable value. -/
def splitCheck (s : State) (shop a : Nat) (allowed : Bool) (c : Card) : Check :=
  require (splitAmount s shop a allowed c).isSome .insufficient [.u32 (spendable s shop c)]

/-! ## Holds (02) -/

/-- 04 R70: adds to a pool's pending expiry. -/
def addPending (p a : Nat) (s : State) : State := s.setPool p { s.pool p with pending := (s.pool p).pending + a }

/-- Adds a list of amounts to the pools they name. -/
def addPendings (ps : List (Nat × Nat)) (s : State) : State := ps.foldl (fun s p => addPending p.1 p.2 s) s

/-- 02 R34: the return of promotional parts to a card's buckets, in part order: the buckets, and the amounts sent to pending
expiry with their pools. A usable part whose bucket is gone and finds no place also goes to pending (no run reaches it, log 20). -/
def returnPromo (s : State) : List PromoPart → List Bucket → List Bucket × List (Nat × Nat)
  | [], bs => (bs, [])
  | p :: ps, bs =>
    match (if usable s p.pool p.expiry then credit p.pool p.expiry p.amount bs else none) with
    | some bs' => returnPromo s ps bs'
    | none =>
      let r := returnPromo s ps bs
      (r.1, (p.pool, p.amount) :: r.2)

/-- The total of a split. -/
def splitTotal (x : Split) : Nat := (x.promo.map (fun p => p.amount)).sum + x.base

/-- 02 R26: the slot after the end of its hold. -/
def endedSlot (h : HoldSlot) (e : LastEnd) : HoldSlot :=
  { gen := if h.gen = 65535 then 0 else h.gen + 1, lastEnd := e, hold := none }

/-- What a hold's end sent to pending expiry, given what it returns. -/
def pendingOfReturn (s : State) (back : Split) (c : Card) : List (Nat × Nat) := (returnPromo s back.promo c.buckets).2

/-- 02 R34: the card after the return of a split and the loss of a hold reference, before empty buckets are removed. -/
def cardAfterReturn (s : State) (ref : HoldRef) (back : Split) (c : Card) : Card :=
  { c with
    base := c.base + back.base
    buckets := (returnPromo s back.promo c.buckets).1
    holds := c.holds.filter (fun r => r ≠ ref) }

/-- 02 R26, R34: ends the PLACED hold of a slot: `back` returns to the card part by part, the reference leaves the card's hold list,
empty unreferenced buckets go, the slot becomes FREE. A FREE slot stays as it is. -/
def endHold (n : Nat) (back : Split) (e : LastEnd) (s : State) : State :=
  match (s.holdSlot n).hold with
  | none => s
  | some h =>
    let freed := s.setHoldSlot n (endedSlot (s.holdSlot n) e)
    match s.card? h.card with
    | none => freed
    | some c =>
      let c' := tidyCard freed (cardAfterReturn s ⟨n, (s.holdSlot n).gen⟩ back c)
      addPendings (pendingOfReturn s back c) (freed.setCard h.card c')

/-! ## Journal entries (05) -/

/-- 05 R86: an entry of a kind, stamped with the next sequence number, the live period, the business day and the clock. -/
def newEntry (s : State) (k : EntryKind) : Entry :=
  { seq := s.journal.next, kind := k, period := s.period.live, day := s.time.day, clock := s.time.clock, card := none,
    shop := none, ref := none, amount := 0, base := none, parts := [], original := none, target := none, forfeited := [],
    refunded := none, voided := none, swept := none }

/-- The sum of an entry's promotional parts. -/
def partsSum (e : Entry) : Nat := (e.parts.map (fun p => p.amount)).sum

/-- The base part of an entry, 0 where its kind has none. -/
def basePart (e : Entry) : Int := e.base.getD 0

/-- A counter moved by an amount, upwards or, for a negative base share, downwards; it counts modulo 2^64 (log 12). -/
def countBy (c : BitVec 64) (z : Int) : BitVec 64 := c + BitVec.ofInt 64 z

/-- 05 R94: the counters moved by an entry. -/
def moveCounters (e : Entry) (c : Counters) : Counters :=
  match e.kind with
  | .sale => { c with issuedBase := countBy c.issuedBase (basePart e).toNat, grantedPromo := countBy c.grantedPromo (partsSum e) }
  | .reload => { c with issuedBase := countBy c.issuedBase (basePart e).toNat, grantedPromo := countBy c.grantedPromo (partsSum e) }
  | .grant => { c with grantedPromo := countBy c.grantedPromo e.amount.toNat }
  | .redeem => { c with redeemedBase := countBy c.redeemedBase (basePart e).toNat, redeemedPromo := countBy c.redeemedPromo (partsSum e) }
  | .capture => { c with redeemedBase := countBy c.redeemedBase (basePart e).toNat, redeemedPromo := countBy c.redeemedPromo (partsSum e) }
  | .refund => { c with refundedBase := countBy c.refundedBase (basePart e), refundedPromo := countBy c.refundedPromo (partsSum e) }
  | .void => { c with voidedBase := countBy c.voidedBase (basePart e).toNat, ungrantedPromo := countBy c.ungrantedPromo (partsSum e) }
  | .expire => { c with expiredPromo := countBy c.expiredPromo e.amount.toNat }
  | .adjust => c

/-- 05 R86, R89, R93, R94: the journal with an entry written at the write position; a full ring loses its oldest entry. -/
def pushEntry (e : Entry) (j : Journal) : Journal :=
  { j with
    entries := (if Config.journalSlots ≤ j.entries.length then j.entries.tail else j.entries) ++ [e]
    writePos := if j.writePos = Config.journalSlots - 1 then 0 else j.writePos + 1
    next := numberAfter j.next
    wraps := if j.writePos = Config.journalSlots - 1 then (j.wraps + 1) % 2 ^ 32 else j.wraps
    counters := moveCounters e j.counters }

/-- 05 R88: the present entry of a sequence number changed. -/
def amendEntry (seq : Nat) (f : Entry → Entry) (s : State) : State :=
  { s with journal := { s.journal with entries := s.journal.entries.map (fun e => if e.seq = seq then f e else e) } }

/-! ## Postings (06 R105 to R107, 04 R70) -/

/-- 06 R107: the nearest value within the position limit. -/
def clampMoney (z : Int) : Int := max (-Config.positionLimit) (min z Config.positionLimit)

/-- What an entry adds to the fields of a live position. -/
structure Posting where
  sold : Int := 0
  voided : Int := 0
  redeemedBase : Int := 0
  redeemedPromo : Int := 0
  refundedBase : Int := 0
  refundedPromo : Int := 0
  count : Nat := 0
  sponsor : Int := 0
  deriving DecidableEq, Repr

/-- 06 R107: a posting, each field clamped separately; the mark is set when any field would pass its limit. -/
def post (d : Posting) (p : Position) : Position :=
  { sold := clampMoney (p.sold + d.sold)
    voided := clampMoney (p.voided + d.voided)
    redeemedBase := clampMoney (p.redeemedBase + d.redeemedBase)
    redeemedPromo := clampMoney (p.redeemedPromo + d.redeemedPromo)
    refundedBase := clampMoney (p.refundedBase + d.refundedBase)
    refundedPromo := clampMoney (p.refundedPromo + d.refundedPromo)
    count := min (p.count + d.count) Config.countLimit
    sponsor := clampMoney (p.sponsor + d.sponsor)
    saturated := p.saturated || !(withinLimit (p.sold + d.sold) && withinLimit (p.voided + d.voided) &&
      withinLimit (p.redeemedBase + d.redeemedBase) && withinLimit (p.redeemedPromo + d.redeemedPromo) &&
      withinLimit (p.refundedBase + d.refundedBase) && withinLimit (p.refundedPromo + d.refundedPromo) &&
      withinLimit (p.sponsor + d.sponsor) && decide (p.count + d.count ≤ Config.countLimit)) }

/-- A posting to a shop's live position. -/
def postShop (i : Nat) (d : Posting) (s : State) : State := s.setShop i { s.shop i with live := post d (s.shop i).live }

/-- 06 R105: what an entry posts to the shop it names; `none` where its kind posts no position. -/
def shopPosting (e : Entry) : Option Posting :=
  match e.kind with
  | .sale => some { sold := basePart e }
  | .reload => some { sold := basePart e }
  | .redeem => some { redeemedBase := basePart e, redeemedPromo := partsSum e, count := 1 }
  | .capture => some { redeemedBase := basePart e, redeemedPromo := partsSum e, count := 1 }
  | .refund => some { refundedBase := basePart e, refundedPromo := partsSum e }
  | .void => some { voided := basePart e }
  | .grant => none
  | .expire => none
  | .adjust => none

/-- 06 R106: the sponsor charge of an entry of a kind for one part: raised by a redeemed part, lowered by a refunded share. -/
def sponsorSign : EntryKind → Int
  | .redeem => 1
  | .capture => 1
  | .refund => -1
  | _ => 0

/-- 06 R106: the sponsor charge of one part, posted to the funder of its pool when that is a shop. -/
def postSponsor (k : EntryKind) (s : State) (p : EntryPart) : State :=
  match (s.pool p.pool).funder with
  | some i => if sponsorSign k = 0 then s else postShop i { sponsor := sponsorSign k * p.amount } s
  | none => s

/-- 06 R105, R106: the postings of an entry to live positions. -/
def postPositions (e : Entry) (s : State) : State :=
  let s1 := match e.shop, shopPosting e with
    | some i, some d => postShop i d s
    | _, _ => s
  e.parts.foldl (postSponsor e.kind) s1

/-- 04 R70: the pool totals moved by one promotional part of an entry. -/
def movePool (k : EntryKind) (a : Nat) (p : Pool) : Pool :=
  match k with
  | .sale => { p with granted := p.granted + a }
  | .reload => { p with granted := p.granted + a }
  | .grant => { p with granted := p.granted + a }
  | .void => { p with ungranted := p.ungranted + a }
  | .redeem => { p with redeemed := p.redeemed + a }
  | .capture => { p with redeemed := p.redeemed + a }
  | .refund => { p with returned := p.returned + a }
  | .expire =>
    { p with pending := p.pending - a, expired := p.expired + a, recycled := if p.recycle then p.recycled + a else p.recycled }
  | .adjust => p

/-- 04 R70: the postings of an entry to pool totals; a forfeited share also grows its pool's pending expiry. -/
def postPools (e : Entry) (s : State) : State :=
  let s1 := e.parts.foldl (fun s p => s.setPool p.pool (movePool e.kind p.amount (s.pool p.pool))) s
  addPendings (e.forfeited.map (fun p => (p.pool, p.amount))) s1

/-- 05 R87: the writing of an entry, in one action: the journal takes it and moves the counters, the Shop Table posts positions and
sponsor charges, the Pool Table posts totals, POOL_LOW and JOURNAL_RESERVE are tested (order of the two notices: log 15). -/
def writeEntry (e : Entry) (s : State) : State :=
  let s1 := { s with journal := pushEntry e s.journal }
  let s2 := postPools e (postPositions e s1)
  giveNotices (poolLowEdges s s2 ++ reserveEdge s s2) s2

end Sys2Proof.Machine
end

