-- ==== Sys2Proof/Machine/Close.lean ====
section
/-! DEFINITION. The Period Controller, the Settlement Arithmetic Unit and the Payout Channels: taking a close, computing it, assigning
payouts, runs and offers, and the release (07, 08). -/

namespace Sys2Proof.Machine

/-! ## Taking a close (07 R123, R127) -/

/-- 07 R127: a shop that is not UNUSED at the taking of a close. -/
def closeShop (x : Shop) : Shop :=
  { x with
    closing := x.live
    closingSchedule := x.schedule
    live := zeroPosition
    schedule := x.staged.getD x.schedule
    staged := none
    result := { zeroResult with computed := false }
    payout := noPayout }

/-- 07 R120: the live period number after `n`; after the highest it is open (log 11). -/
def periodAfter (n : Nat) : Nat := if n = Config.topNumber then Config.periodAfterTop else n + 1

/-- 07 R125, R127: the countdown loaded with the interval × 60. -/
def loadCountdown (p : PeriodController) : PeriodController :=
  if p.mode = .interval then { p with countdown := p.interval * 60 } else p

/-- 07 R127, R135: a new summary added; of eight held, the one of the lowest period number is dropped. -/
def addSummary (m : Summary) (ms : List Summary) : List Summary := (if 8 ≤ ms.length then ms.tail else ms) ++ [m]

/-- The shops that are not UNUSED, in ascending index. -/
def definedShops (s : State) : List Nat := (s.shops.filter (fun e => e.2.state ≠ .unused)).map (fun e => e.1)

/-- 07 R127: the taking of a close, in one action. -/
def takeClose (cause : CloseCause) (s : State) : State :=
  let roster := definedShops s
  let summary : Summary :=
    { period := s.period.live, cause := cause, day := s.time.day, clock := s.time.clock, firstSeq := s.journal.next,
      rosterCount := roster.length, computation := none, release := none }
  { s with
    shops := s.shops.map (fun e => if e.2.state = .unused then e else (e.1, closeShop e.2))
    period := loadCountdown
      { s.period with
        closing := s.period.live
        live := periodAfter s.period.live
        state := .closing
        cursor := 0
        roster := roster
        summaries := addSummary summary s.period.summaries } }

/-- 07 R123: a scheduler request for a close: taken when the record is RELEASED, else pending with the first cause. -/
def scheduleClose (cause : CloseCause) (s : State) : State :=
  if s.period.state = .released then takeClose cause s
  else { s with period := { s.period with closePending := some (s.period.closePending.getD cause) } }

/-! ## The close computation (07 R128 to R132) -/

/-- 07 R130: round-half-even of n ÷ d. -/
def roundHalfEven (n d : Nat) : Nat :=
  let q := n / d
  let r := n % d
  if d < 2 * r then q + 1 else if 2 * r < d then q else if q % 2 = 0 then q else q + 1

/-- 07 R129: S, the net value the shop sold into the scheme. -/
def netSold (p : Position) : Int := p.sold - p.voided

/-- 07 R129: B, the net value the shop took from cards. -/
def netTaken (p : Position) : Int := (p.redeemedBase - p.refundedBase) + (p.redeemedPromo - p.refundedPromo)

/-- 07 R130: the redemption fee before its clamp. -/
def exactFee (p : Position) (c : Schedule) : Int :=
  (roundHalfEven ((netTaken p).toNat * c.redemptionRate) 1000000 : Int) + ((p.count * c.fixedFee : Nat) : Int)

/-- 07 R130: the commission before its clamp. -/
def exactCommission (p : Position) (c : Schedule) : Int :=
  (roundHalfEven ((netSold p).toNat * c.commissionRate) 1000000 : Int)

/-- 07 R131: the net before its clamp, from the clamped fee and commission. -/
def exactNet (x : Shop) : Int :=
  netTaken x.closing - netSold x.closing - clampMoney (exactFee x.closing x.closingSchedule) +
    clampMoney (exactCommission x.closing x.closingSchedule) - x.closing.sponsor + x.carry

/-- 07 R131: the unit's saturation mark after the computation of a shop: a clamp of F, K or T acted. -/
def clampActs (x : Shop) : Bool :=
  !(withinLimit (exactFee x.closing x.closingSchedule) && withinLimit (exactCommission x.closing x.closingSchedule) &&
    withinLimit (exactNet x))

/-- 07 R131: the shop is held. -/
def isHeld (x : Shop) : Bool := clampActs x || x.closing.saturated || x.attention

/-- 07 R132: the payout due: T where the shop is not held, T > 0 and T ≥ m. -/
def payoutDue (x : Shop) : Int :=
  let t := clampMoney (exactNet x)
  if !isHeld x && 0 < t && (x.closingSchedule.minPayout : Int) ≤ t then t else 0

/-- 07 R130 to R132: the closing result of a shop. -/
def computeResult (x : Shop) : ClosingResult :=
  { fee := clampMoney (exactFee x.closing x.closingSchedule)
    commission := clampMoney (exactCommission x.closing x.closingSchedule)
    net := clampMoney (exactNet x)
    due := payoutDue x
    newCarry := clampMoney (exactNet x) - payoutDue x
    computed := true
    held := isHeld x }

/-- 07 R128: the lowest roster shop at or above the cursor. -/
def nextToCompute (s : State) : Option Nat := s.period.roster.find? (fun i => s.period.cursor ≤ i)

/-- 07 R128: whether the walk and its end advance. -/
def walkAdvances (s : State) : Bool := s.period.state = .closing && s.ctrl.mode = .opened

/-- 07 R128: one action of the walk: the next roster shop is computed; when none remains the cursor is 512. -/
def computeStep (s : State) : State :=
  if walkAdvances s then
    match nextToCompute s with
    | some i =>
      let x := s.shop i
      let s1 := s.setShop i { x with result := computeResult x }
      { s1 with
        period := { s.period with cursor := i + 1 }
        sau := { accumulator := exactNet x, saturated := clampActs x } }
    | none => { s with period := { s.period with cursor := 512 } }
  else s

/-! ## Channels (08) -/

/-- 08 R145: the channel as a run begins. -/
def beginRun (c : Channel) : Channel := { c with state := .running, cursor := none, totals := zeroTotals, timedOut := false }

/-- 08 R161, R177: the channel's run state cleared, its configuration kept. -/
def clearRun (c : Channel) : Channel :=
  { c with state := .idle, cursor := none, offer := none, remaining := 0, timedOut := false, totals := zeroTotals }

/-- 08 R150: the RUN_DONE notice of a channel. -/
def runDoneNotice (s : State) (n : Nat) (c : Channel) (period : Nat) : Notice :=
  { cls := .runDone
    payload := [.u8 n, .u32 period] ++ totalsFlds c.totals ++ [.u32 (rangeIn s c .uncertain).length] }

/-- 08 R150: the end of a run. -/
def endRun (n period : Nat) (s : State) : State :=
  let c := s.channel n
  giveNotice (runDoneNotice s n c period) (s.setChannel n { c with state := .idle, cursor := none })

/-- 07 R138, 08 R150: every RUNNING channel ends its run. -/
def endRuns (period : Nat) (s : State) : State :=
  (List.range Config.channelCount).foldl (fun s n => if (s.channel n).state = .running then endRun n period s else s) s

/-- 08 R146: an enabled IDLE channel with auto-start set begins a run. -/
def autoStart (s : State) : State :=
  (List.range Config.channelCount).foldl
    (fun s n =>
      let c := s.channel n
      if c.enabled && c.autoStart && c.state = .idle then s.setChannel n (beginRun c) else s) s

/-- A shop's payout record in another state, its amount and serial kept. -/
def setPayoutState (i : Nat) (x : PayoutState) (s : State) : State :=
  s.setShop i { s.shop i with payout := { (s.shop i).payout with state := x } }

/-- The payout records of several shops in another state. -/
def setPayoutStates (is : List Nat) (x : PayoutState) (s : State) : State := is.foldl (fun s i => setPayoutState i x s) s

/-- The sum of the payout amounts of several shops. -/
def payoutSum (s : State) (is : List Nat) : Nat := (is.map (fun i => (s.shop i).payout.amount)).sum

/-! ## The release (07 R137, R138) -/

/-- 07 R138: the carry a shop takes at the release. -/
def carryAfter (x : Shop) : Int :=
  match x.payout.state with
  | .paid => x.result.newCarry
  | .none => x.result.newCarry
  | .failed => x.result.newCarry + x.payout.amount
  | .deferred => x.result.newCarry + x.payout.amount
  | .held => x.result.net
  | .due => x.result.newCarry
  | .offered => x.result.newCarry
  | .uncertain => x.result.newCarry

/-- 07 R138: a roster shop at the release; the attention mark of a HELD shop is set (06 R108). -/
def releaseShop (x : Shop) : Shop :=
  { x with carry := carryAfter x, attention := x.attention || x.payout.state = .held }

/-- 01 R5: whether the release of a period purges a card. -/
def purgedBy (period : Nat) (c : Card) : Bool :=
  c.state = .closed && (match c.closedPeriod with
    | some n => n < period
    | none => false)

/-- 05 R90: whether an entry becomes releasable at the release of a period. -/
def becomesReleasable (j : Journal) (period : Nat) (e : Entry) : Bool := j.released < e.period && e.period ≤ period

/-- 07 R135: the release part of the summary. -/
def releasePart (s : State) : SummaryRelease :=
  { day := s.time.day
    clock := s.time.clock
    paidCount := (rosterIn s .paid).length
    paidTotal := payoutSum s (rosterIn s .paid)
    failedCount := (rosterIn s .failed).length
    failedTotal := payoutSum s (rosterIn s .failed)
    deferredCount := (rosterIn s .deferred).length
    deferredTotal := payoutSum s (rosterIn s .deferred)
    heldCount := (rosterIn s .held).length
    heldTotal := payoutSum s (rosterIn s .held)
    carrySum := (s.period.roster.map (fun i => carryAfter (s.shop i))).sum
    madeReleasable := s.journal.entries.countP (becomesReleasable s.journal s.period.closing)
    purged := s.cards.countP (fun e => purgedBy s.period.closing e.2) }

/-- A summary of the closing period changed. -/
def amendSummary (f : Summary → Summary) (p : PeriodController) : PeriodController :=
  { p with summaries := p.summaries.map (fun m => if m.period = p.closing then f m else m) }

/-- 07 R138: the PERIOD_RELEASED notice (log 36). -/
def releasedNotice (period : Nat) (r : SummaryRelease) : Notice :=
  { cls := .periodReleased, payload := [.u32 period] ++ releaseFlds r ++ [.u32 r.madeReleasable, .u32 r.purged] }

/-- 07 R138: the roster shops at the release. -/
def releaseShops (s : State) : State :=
  s.period.roster.foldl (fun s i => s.setShop i (releaseShop (s.shop i))) s

/-- 07 R138: the pending close, when there is one, is taken with its recorded cause and close pending is cleared. -/
def takePending (s : State) : State :=
  match s.period.closePending with
  | some cause =>
    let s1 := takeClose cause s
    { s1 with period := { s1.period with closePending := none } }
  | none => s

/-- 07 R138: the release, in one action. -/
def release (s : State) : State :=
  let r := releasePart s
  let s1 := releaseShops s
  let s2 :=
    { s1 with
      period := { amendSummary (fun m => { m with release := some r }) s1.period with state := .released }
      journal := { s1.journal with released := s.period.closing }
      cards := s1.cards.filter (fun e => !purgedBy s.period.closing e.2) }
  takePending (endRuns s.period.closing (giveNotices (reserveEdge s s2) s2))

/-- 07 R137: the release when its condition holds, and the notice to be given after it. -/
def testRelease (s : State) : State × List Notice :=
  if releaseHolds s then (release s, [releasedNotice s.period.closing (releasePart s)]) else (s, [])

/-! ## The end of the computation (07 R134) -/

/-- 07 R134: whether a shop lies within the range of an enabled channel. -/
def served (s : State) (i : Nat) : Bool :=
  (List.range Config.channelCount).any (fun n => (s.channel n).enabled && inRange i (s.channel n).range)

/-- 07 R134: the payout record assigned to a roster shop. -/
def assignedPayout (s : State) (i : Nat) (x : Shop) : Payout :=
  if x.result.held then { state := .held, amount := 0, serial := 0 }
  else if 0 < x.result.due then
    { state := if served s i then .due else .deferred, amount := x.result.due.toNat, serial := 0 }
  else noPayout

/-- 07 R134: the assignment of payout records. -/
def assignPayouts (s : State) : State :=
  s.period.roster.foldl (fun t i => t.setShop i { t.shop i with payout := assignedPayout s i (t.shop i) }) s

/-- A sum over the roster. -/
def rosterSum (s : State) (f : Shop → Int) : Int := (s.period.roster.map (fun i => f (s.shop i))).sum

/-- The number of roster shops held by a clamp or a saturated position (07 R134). -/
def heldByClamp (s : State) : Nat :=
  s.period.roster.countP (fun i => (s.shop i).result.held && ((s.shop i).closing.saturated || clampActs (s.shop i)))

/-- 07 R135: the computation part of the summary, from the records as assigned. -/
def computationPart (s : State) : SummaryComputation :=
  { day := s.time.day
    clock := s.time.clock
    sumS := rosterSum s (fun x => netSold x.closing)
    sumB := rosterSum s (fun x => netTaken x.closing)
    sumF := rosterSum s (fun x => x.result.fee)
    sumK := rosterSum s (fun x => x.result.commission)
    sumP := rosterSum s (fun x => x.closing.sponsor)
    sumC := rosterSum s (fun x => x.carry)
    sumT := rosterSum s (fun x => x.result.net)
    noneCount := (rosterIn s .none).length
    dueCount := (rosterIn s .due).length
    deferredCount := (rosterIn s .deferred).length
    heldCount := (rosterIn s .held).length
    dueTotal := payoutSum s (rosterIn s .due)
    deferredTotal := payoutSum s (rosterIn s .deferred)
    heldShops := s.period.roster.countP (fun i => (s.shop i).result.held)
    heldByClamp := heldByClamp s }

/-- 07 R134: the CLOSE_DONE notice. -/
def closeDoneNotice (s : State) (c : SummaryComputation) : Notice :=
  { cls := .closeDone
    payload := [.u32 s.period.closing, .u32 s.period.live, .u32 s.period.roster.length, .u32 c.dueCount, .u32 c.deferredCount,
                .u32 c.heldCount, .u32 c.noneCount, .u64 c.dueTotal, .u64 c.deferredTotal, .u32 c.heldShops,
                .u32 c.heldByClamp] }

/-- 08 R146: the cursor of every channel without an outstanding offer becomes START. -/
def startCursors (s : State) : State :=
  (List.range Config.channelCount).foldl
    (fun s n =>
      let c := s.channel n
      if c.offer.isSome then s else s.setChannel n { c with cursor := none }) s

/-- 07 R134, R137, 08 R146: the end of the computation: payout records assigned, SETTLING, CLOSE_DONE, auto-start runs, and the
release where no record is DUE. -/
def endComputation (s : State) : State :=
  if walkAdvances s && (nextToCompute s).isNone then
    let s1 := assignPayouts s
    let c := computationPart s1
    let s2 := startCursors
      { s1 with
        period := { amendSummary (fun m => { m with computation := some c }) s1.period with state := .settling, cursor := 512 } }
    let s3 := giveNotice (closeDoneNotice s2 c) s2
    let s4 := if c.dueCount ≠ 0 then autoStart s3 else s3
    let r := testRelease s4
    giveNotices r.2 r.1
  else s

/-! ## Offers (08 R147 to R149, R153) -/

/-- 08 R147: the lowest shop of a channel's range above its cursor whose payout record is DUE. -/
def nextDue (s : State) (c : Channel) : Option Nat :=
  (rangeIn s c .due).find? (fun i =>
    match c.cursor with
    | none => true
    | some k => k < i)

/-- 08 R148: the offer for a shop. -/
def makeOffer (n i : Nat) (s : State) : State :=
  let serial := numberAfter s.serial
  let s1 := s.setShop i { s.shop i with payout := { (s.shop i).payout with state := .offered, serial := serial } }
  { s1.setChannel n { s1.channel n with
      offer := some { shop := i, serial := serial, queued := false, reoffer := false }
      cursor := some i } with serial := serial }

/-- 08 R147: one walk step of a RUNNING channel without an outstanding offer; the channel of a run may be disabled (log 39). -/
def walkStep (n : Nat) (s : State) : State :=
  let c := s.channel n
  if c.state = .running && c.offer.isNone then
    match nextDue s c with
    | some i => makeOffer n i s
    | none => endRun n s.period.closing s
  else s

/-- 08 R149: the PAYOUT_OFFER frame of a channel's offer, with the account reference as it stands. -/
def offerFrame (s : State) (n : Nat) (o : Offer) : TxFrame :=
  .notice payoutOfferCode
    [.u8 n, .u32 o.serial, .u32 s.period.closing, .u16 o.shop, .u64 (s.shop o.shop).payout.amount, .u64 (s.shop o.shop).account,
     .flag o.reoffer]

/-- 11 R189: whether a channel's offer waits and the A-link has room for it; a draining RESTART sends none (10 R180). -/
def offerMayEnter (s : State) (n : Nat) : Bool :=
  offerWaits (s.channel n) && 2 ≤ freePlaces s.aLink && !s.ctrl.draining

/-- 08 R149: a waiting offer enters the A-link queue. -/
def enterOffer (n : Nat) (s : State) : State :=
  match (s.channel n).offer with
  | none => s
  | some o =>
    let c := s.channel n
    { s.setChannel n { c with
        offer := some { o with queued := true }
        remaining := c.timeout
        state := if c.state = .running then .offerWait else c.state } with
      aLink := { s.aLink with tx := s.aLink.tx ++ [offerFrame s n o] } }

/-- 11 R189: waiting offers enter one at a time in ascending channel number, each while 2 places remain free. -/
def enterOffers (s : State) : State :=
  (List.range Config.channelCount).foldl (fun s n => if offerMayEnter s n then enterOffer n s else s) s

/-- 08 R153: the CHANNEL_FAULT notice of a channel: channel, cause TIMEOUT, serial, shop, amount, closing period. -/
def channelFaultNotice (s : State) (n : Nat) (o : Offer) : Notice :=
  { cls := .channelFault
    payload := [.u8 n, .u8 1, .u32 o.serial, .u16 o.shop, .u64 (s.shop o.shop).payout.amount, .u32 s.period.closing] }

/-- 08 R153: whether a channel's confirm timer has run out. -/
def timeoutDue (c : Channel) : Bool := c.state = .offerWait && c.remaining = 0

/-- 08 R153: the timeout of a channel. -/
def timeOut (n : Nat) (s : State) : State :=
  let c := s.channel n
  let s1 := s.setChannel n { c with state := .fault, timedOut := true }
  match c.offer with
  | some o => giveNotice (channelFaultNotice s n o) s1
  | none => s1

end Sys2Proof.Machine
end

