-- ==== Sys2Proof/Machine/Life.lean ====
section
/-! DEFINITION. What the part does of its own accord: hold expiry, the tick, the day rollover, the expiry sweep, the restart, and the
order in which due events act before a request is taken (02, 04, 09, 10). -/

namespace Sys2Proof.Machine

/-! ## Hold expiry (02 R32, R33) -/

/-- 02 R33: the HOLD_EXPIRED notice. -/
def holdExpiredNotice (n gen : Nat) (h : Hold) : Notice :=
  { cls := .holdExpired, payload := holdRefFlds n gen ++ [.u64 h.card, .u16 h.shop, .u32 h.total, .u32 h.ref] }

/-- 02 R33: the expiry of a PLACED slot whose remaining seconds are 0. -/
def expireHold (n : Nat) (s : State) : State :=
  match (s.holdSlot n).hold with
  | some h =>
    if h.remaining = 0 then giveNotice (holdExpiredNotice n (s.holdSlot n).gen h) (endHold n h.parts .expired s) else s
  | none => s

/-! ## The expiry sweep (01 R9, 04 R78 to R82) -/

/-- 04 R78: the walk removes the value of a bucket whose expiry day is below the sweep day or whose pool is CLOSED. -/
def sweeps (s : State) (b : Bucket) : Bool :=
  b.amount ≠ 0 && (b.expiry < s.sweep.day || (s.pool b.pool).state = .closed)

/-- 04 R78: the figures of a pool. -/
def sweptFigures (s : State) (p : Nat) : Swept := tableRead ⟨0, 0⟩ p s.sweep.swept

/-- 04 R78: one bucket's value counted in its pool's swept figures. -/
def countSwept (b : Bucket) (s : State) : State :=
  let f := sweptFigures s b.pool
  { s with
    sweep := { s.sweep with swept := tableWrite ⟨0, 0⟩ b.pool ⟨f.value + b.amount, f.buckets + 1⟩ s.sweep.swept } }

/-- 01 R9, 04 R78: the visit of one card. -/
def visitCard (id : Nat) (c : Card) (s : State) : State :=
  let gone := c.buckets.filter (sweeps s)
  let c1 := { c with buckets := c.buckets.map (fun b => if sweeps s b then { b with amount := 0 } else b) }
  let s1 := s.setCard id (tidyCard s c1)
  gone.foldl (fun s b => countSwept b (addPending b.pool b.amount s)) s1

/-- 04 R78: the occupied slot at or above the cursor that the walk visits next, with the id of its card. -/
def nextVisit (s : State) : Option (Nat × Nat) :=
  (s.cards.map (fun e => (e.2.slot, e.1))).foldl
    (fun best e =>
      if s.sweep.cursor ≤ e.1 then
        match best with
        | some b => if e.1 < b.1 then some e else best
        | none => some e
      else best) none

/-- 04 R78: one visit of the walk: the next occupied slot; when none remains the cursor passes slot 262,143. -/
def sweepStep (s : State) : State :=
  if s.sweep.inFlight then
    match nextVisit s with
    | some v =>
      let s1 := visitCard v.2 (s.card v.2) s
      { s1 with sweep := { s1.sweep with cursor := v.1 + 1 } }
    | none => { s with sweep := { s.sweep with cursor := Config.cardSlots } }
  else s

/-- 04 R81: the EXPIRE entry of a pool's whole pending expiry. -/
def expireEntry (s : State) (p : Nat) : Entry :=
  { newEntry s .expire with
    amount := (s.pool p).pending
    parts := [{ pool := p, amount := (s.pool p).pending, expiry := none }]
    swept := some (sweptFigures s p).buckets }

/-- 04 R81: one pool at the sweep end: its entry is written when its pending expiry is above 0 and the writable count at least 1. -/
def expirePool (s : State) (p : Nat) : State :=
  if (s.pool p).pending ≠ 0 && 1 ≤ writable s.journal then writeEntry (expireEntry s p) s else s

/-- 04 R82: the figures of one pool: pool, swept value, buckets, EXPIRE amount or 0, pending left. -/
def sweptFlds (before after : State) (p : Nat) : List Fld :=
  [.u8 p, .u64 (sweptFigures before p).value, .u32 (sweptFigures before p).buckets,
   .u64 ((before.pool p).pending - (after.pool p).pending), .u64 (after.pool p).pending]

/-- 04 R82: a PROMO_SWEPT notice. -/
def promoSweptNotice (before after : State) (ps : List Nat) (more : Bool) : Notice :=
  { cls := .promoSwept
    payload := [.u16 before.sweep.day] ++ listFlds (ps.map (sweptFlds before after)) ++ [.flag more] }

/-- 04 R82: the notices of a sweep end: at most eight pools each. -/
def promoSweptNotices (before after : State) : List Notice :=
  let ps := (List.range Config.poolCount).filter
    (fun p => (sweptFigures before p).value ≠ 0 || (before.pool p).pending ≠ 0)
  if 8 < ps.length then
    [promoSweptNotice before after (ps.take 8) true, promoSweptNotice before after (ps.drop 8) false]
  else [promoSweptNotice before after ps false]

/-- 04 R81, R82: the end of the walk, in pool order, once no occupied slot remains at or above the cursor. -/
def sweepFinish (s : State) : State :=
  if s.sweep.inFlight && (nextVisit s).isNone then
    let s1 := (List.range Config.poolCount).foldl expirePool s
    let s2 := { s1 with sweep := { s1.sweep with inFlight := false, cursor := Config.cardSlots } }
    giveNotices (promoSweptNotices s s2) s2
  else s

/-- 04 R78, R80: a rollover starts the sweep, or restarts a walk in flight, keeping its figures. -/
def startSweep (s : State) : State :=
  { s with
    sweep := { inFlight := true, day := s.time.day, cursor := 0, swept := if s.sweep.inFlight then s.sweep.swept else [] } }

/-! ## The day rollover (09 R164) -/

/-- 09 R164: the DAY_ROLLED notice; cause TICK 0, ADVANCE 1. -/
def dayRolledNotice (before after : State) (cause : Nat) : Notice :=
  { cls := .dayRolled, payload := [.u16 after.time.day, .u16 before.time.day, .u32 after.time.clock, .u8 cause] }

/-- 09 R164: the blocks that react, as the rule's table lists them; their order means nothing (log 29). -/
def reactors : List Reactor := [.poolTable, .periodController, .journal]

/-- 09 R164: the rollover's one action in the Time Base: the new day, its handing to the blocks that react, and DAY_ROLLED. -/
def rollDay (cause : Nat) (s : State) : State :=
  let s1 :=
    { s with
      time := { s.time with
        day := if s.time.day = 65535 then 0 else s.time.day + 1
        handed := s.time.handed ++ reactors } }
  giveNotice (dayRolledNotice s s1 cause) s1

/-- 09 R164: the reaction of one block, against its own state, reading the business day as the new day (04 R78, R80, R83; 07 R126; 05
R92). -/
def react (b : Reactor) (s : State) : State :=
  match b with
  | .poolTable => giveNotices (poolLowNow (startSweep s)) (startSweep s)
  | .periodController => if s.period.mode = .daily then scheduleClose .daily s else s
  | .journal => if reserveHolds s.journal then giveNotice (reserveNotice s) s else s

/-- 09 R164: the block that reacts next: of those that have yet to react, the one that the free choice names (log 29). -/
def nextReactor (s : State) : Option Reactor :=
  match s.time.handed with
  | [] => none
  | [b] => some b
  | bs => bs[Config.reactionChoice s.time.turn % bs.length]?

/-- 09 R164: a block that has yet to react takes its reaction. -/
def takeReaction (b : Reactor) (s : State) : State :=
  react b { s with time := { s.time with handed := s.time.handed.erase b, turn := s.time.turn + 1 } }

/-- 09 R164: one of the blocks that have yet to react reacts. -/
def nextReaction (s : State) : State :=
  match nextReactor s with
  | none => s
  | some b => takeReaction b s

/-! ## The tick (09 R163) -/

/-- 02 R32: a PLACED slot loses a second. -/
def tickHold (h : HoldSlot) : HoldSlot := { h with hold := h.hold.map (fun x => { x with remaining := x.remaining - 1 }) }

/-- 08 R153: a channel in OFFER_WAIT loses a confirm second. -/
def tickChannel (c : Channel) : Channel := if c.state = .offerWait then { c with remaining := c.remaining - 1 } else c

/-- 09 R163: the clock after a tick. -/
def tickClock (clock : Nat) : Nat := (clock + 1) % 2 ^ 32

/-- 09 R163: the tick at the Time Base and at every timer. What reaches 0, and a rollover raised, act as events of their own. -/
def tickState (s : State) : State :=
  let clock := tickClock s.time.clock
  { s with
    time := { s.time with
      clock := clock
      rolloverDue := s.time.rolloverDue || (s.time.timeSet && secondOfDay clock = s.time.rolloverSecond) }
    holds := s.holds.map (fun e => (e.1, tickHold e.2))
    channels := s.channels.map (fun e => (e.1, tickChannel e.2))
    period := if countdownRuns s then { s.period with countdown := s.period.countdown - 1 } else s.period }

/-- 07 R125: the interval countdown has reached 0. -/
def intervalDue (s : State) : Bool := s.period.mode = .interval && s.period.countdown = 0

/-- 07 R125: the scheduler requests a close and the countdown is loaded again. -/
def intervalExpiry (s : State) : State :=
  if intervalDue s then
    let s1 := scheduleClose .interval s
    { s1 with period := loadCountdown s1.period }
  else s

/-- 09 R164: a rollover raised by the tick is taken in the Time Base. -/
def takeRollover (s : State) : State :=
  if s.time.rolloverDue then rollDay 0 { s with time := { s.time with rolloverDue := false } } else s

/-- 09 R164: one action of a rollover: the action in the Time Base of one that the tick has raised, or, where none is raised, the
reaction of a block that has yet to react (log 29). -/
def rolloverAction (s : State) : State := if s.time.rolloverDue then takeRollover s else nextReaction s

/-! ## Restart (10 R176 to R180) -/

/-- 08 R161, R177: every channel's run state cleared. -/
def clearRuns (s : State) : State :=
  (List.range Config.channelCount).foldl (fun s n => s.setChannel n (clearRun (s.channel n))) s

/-- 02 R46: each PLACED hold released with last end RESTART. -/
def releaseHolds46 (s : State) : State := s.placedHolds.foldl (fun s e => endHold e.1 e.2.parts .restart s) s

/-- 06 R119, 08 R159: every OFFERED payout record becomes UNCERTAIN. -/
def makeUncertain (s : State) : State :=
  setPayoutStates ((s.shops.filter (fun e => e.2.payout.state = .offered)).map (fun e => e.1)) .uncertain s

/-- 07 R140: a CLOSING computation starts again from shop 0; the INTERVAL countdown is reloaded. -/
def restartPeriod (s : State) : State :=
  if s.period.state = .closing then
    let s1 := s.period.roster.foldl
      (fun s i => s.setShop i { s.shop i with result := { (s.shop i).result with computed := false } }) s
    { s1 with period := loadCountdown { s.period with cursor := 0 } }
  else { s with period := loadCountdown s.period }

/-- 11 R192: a link after a restart; its receiver hunts for sync (log 24), and a break that lasts goes on (log 26). -/
def restartLink (k : LinkState) : LinkState := { idleLink with inBreak := k.inBreak }

/-- 10 R179: the restart of every block with a VALID store. The Time Base's own changes are its caller's. The level notices come before
the release that the restart makes (log 37); reactions to a rollover that wait stay untaken (log 29). -/
def restartBlocks (cause : RestartCause) (s : State) : State :=
  let s1 :=
    { s with
      ctrl := { s.ctrl with mode := .config, initInFlight := false, lastRestart := cause, draining := false }
      time := { s.time with trading := false, rolloverDue := false, handed := [] }
      tLink := restartLink s.tLink
      aLink := restartLink s.aLink
      sweep := idleSweep
      sau := { accumulator := 0, saturated := false } }
  let s2 := restartPeriod (makeUncertain (releaseHolds46 (clearRuns s1)))
  let s3 := giveNotices (poolLowNow s2 ++ (if reserveHolds s2.journal then [reserveNotice s2] else [])) s2
  let r := testRelease s3
  giveNotices r.2 r.1

/-- 10 R176: the blocks take the values their STORE_INITIALISE rows give; the clock, the links and Mode Control are the caller's. -/
def initialBlocks (s : State) : State :=
  { s with
    time := { s.time with
      timeSet := false, day := 0, rolloverSecond := 14400, trading := false, rolloverDue := false, handed := [] }
    routes := defaultRoutes
    cards := []
    holds := []
    pools := []
    sweep := idleSweep
    journal := emptyJournal
    shops := []
    period := initialPeriod
    sau := { accumulator := 0, saturated := false }
    channels := []
    serial := 0 }

/-- 10 R180: both transmit queues are empty, no request is in progress, and a RESTART waits. -/
def drained (s : State) : Bool :=
  s.ctrl.draining && s.tLink.tx.isEmpty && s.aLink.tx.isEmpty && s.tLink.busy.isNone && s.aLink.busy.isNone

/-- 10 R179, R180: the restart with cause REQUEST, once the queues have drained. -/
def restartDrained (s : State) : State := if drained s then restartBlocks .request s else s

/-! ## Due events (log 3) -/

/-- The slots whose hold has run out. -/
def expiredSlots (s : State) : List Nat := (s.placedHolds.filter (fun e => e.2.remaining = 0)).map (fun e => e.1)

/-- 08 R153: every channel whose confirm timer has run out times out. -/
def timeOuts (s : State) : State :=
  (List.range Config.channelCount).foldl (fun s n => if timeoutDue (s.channel n) then timeOut n s else s) s

/-- The events that are due act: offers for which there is room (11 R189), holds that have run out (02 R33), confirm timers that
have run out (08 R153), the interval countdown (07 R125), the rollover raised by the tick (09 R164), the drained restart (10 R180).
The reactions of the blocks that a rollover was handed to wait for their own command (09 R164).
Every command but the due events' own, and but those of the supply and the receivers, is taken after this. -/
def settle (s : State) : State :=
  let s1 := enterOffers s
  let s2 := (expiredSlots s1).foldl (fun s n => expireHold n s) s1
  restartDrained (takeRollover (intervalExpiry (timeOuts s2)))

end Sys2Proof.Machine
end

