-- ==== Sys2Proof/Machine/Requests.lean ====
section
/-! DEFINITION. How a request comes to be taken and answered (11 R184 to R187), and how an event of the part comes about: the shared
operations that every meaning calls. -/

namespace Sys2Proof.Machine

/-! ## Receiving and taking (11 R184, R185) -/

/-- 11 R184, R190: a checked frame at a link: it joins the receive queue, or sets the overrun mark when 8 frames wait; while a
break lasts nothing is received. -/
def arriveAt (k : LinkState) (f : RxFrame) : LinkState :=
  if k.inBreak then k
  else if k.rx.length < Config.rxPlaces then { k with rx := k.rx ++ [f] }
  else { k with marks := { k.marks with overrun := true } }

/-- A checked frame arrives on link `l`. -/
def arrive (l : Link) (f : RxFrame) (s : State) : State := s.setLink l (arriveAt (s.link l) f)

/-- 11 R185, 10 R180: whether a link takes a request now: none in progress on it, a free transmit place, no RESTART draining. -/
def mayTake (l : Link) (s : State) : Bool := !s.ctrl.draining && (s.link l).busy.isNone && 1 ≤ freePlaces (s.link l)

/-- The link with its head frame removed from the receive queue; an arriving frame that found the queue empty was never in it. -/
def withoutHead (k : LinkState) : LinkState := { k with rx := k.rx.tail }

/-- Whether the next frame to be taken on the request's link is the request's: the head of the receive queue, or, when the queue
is empty and no break lasts, the frame that arrives with the command (log 2). -/
def isNext (c : Instr) (s : State) : Bool :=
  match (s.link (requestLink c)).rx with
  | f :: _ => decodeRequest (requestLink c) f = c
  | [] => !(s.link (requestLink c)).inBreak

/-- 11 R185: a request in progress, its reply's place reserved. -/
def inProgress (f : RxFrame) : InProgress := { kind := f.kind, tag := f.tag, discard := false }

/-- 11 R185: the taking of a request: its frame leaves the receive queue and a place is reserved for its reply; `none` where the
request is not taken now. -/
def takeFrame (c : Instr) (s : State) : Option State :=
  let l := requestLink c
  if mayTake l s && isNext c s then
    some (s.setLink l { withoutHead (s.link l) with busy := some (inProgress (requestFrame c)) })
  else none

/-- The state in which a request that is taken meets its checks: the supply is on, what is due has acted (log 3), the frame has been
taken. `none` where the request is not taken. -/
def taken (c : Instr) (s : State) : Option State := if s.power then takeFrame c (settle s) else none

/-- What is left of a request that is not taken: its frame arrives and waits. Without supply nothing is received. -/
def untaken (c : Instr) (s : State) : State :=
  if s.power then arrive (requestLink c) (requestFrame c) (settle s) else s

/-! ## Carrying out (11 R185 to R187, 10 R175) -/

/-- What a request's own rule does: the state it leaves, its answer (`none` where the reply is withheld, 10 R177), and the notices
given after the reply (log 16). -/
structure Done where
  state : State
  answer : Option Answer
  after : List Notice := []
  deriving DecidableEq, Repr

/-- A request answered OK with a payload. -/
def okay (s : State) (payload : List Fld := []) : Done := { state := s, answer := some { code := .ok, payload := payload } }

/-- A request refused, or answered with nothing changed. -/
def answered (s : State) (a : Answer) : Done := { state := s, answer := some a }

/-- A rule: its checks in their order, the first failing one giving the reply and changing nothing, then its effect. -/
def ruled (checks : List Check) (effect : Done) (s : State) : Done :=
  match firstFailing checks with
  | some a => answered s a
  | none => effect

/-- The reply placed and the notices that follow it. -/
def finish (l : Link) (d : Done) : State :=
  giveNotices d.after (match d.answer with
    | some a => placeReply l a d.state
    | none => d.state)

/-- A taken request: the permission and mode checks (11 R185, 10 R172), then its own rule, then its reply. -/
def carryOut (c : Instr) (rule : State → Done) (t : State) : State :=
  finish (requestLink c)
    (match linkAndModeCheck (requestLink c) (requestFrame c).kind t with
     | some a => answered t a
     | none => rule t)

/-- The meaning of a request command (log 2): taken and carried out where it can be taken now, else its frame arrives and waits. -/
def takeRequest (c : Instr) (rule : State → Done) (s : State) : Host.Outcome State Fault Refusal :=
  .next (match taken c s with
    | some t => carryOut c rule t
    | none => untaken c s)

/-! ## Events -/

/-- An event that comes after whatever is due (log 3); without supply nothing happens (log 6). -/
def event (f : State → State) (s : State) : Host.Outcome State Fault Refusal := .next (if s.power then f (settle s) else s)

/-- The own command of a due event: only the offers for which there is room act before it (11 R189, log 3). -/
def dueEvent (f : State → State) (s : State) : Host.Outcome State Fault Refusal := .next (if s.power then f (enterOffers s) else s)

/-- An event of a receiver, which nothing due affects. -/
def lineEvent (f : State → State) (s : State) : Host.Outcome State Fault Refusal := .next (if s.power then f s else s)

end Sys2Proof.Machine
end

