-- ==== Sys2Proof/Machine/Channels.lean ====
section
/-! DEFINITION. The requests of the Payout Channels (08 R143 to R158). -/

namespace Sys2Proof.Machine

/-! ## SET_CHANNEL -/

/-- 08 R143: the other enabled channel whose range meets the one given; of several, that of the lowest number (log 38). -/
def overlapping (s : State) (n : Nat) (cfg : ChannelArg) : Option Nat :=
  if cfg.enabled then
    (List.range Config.channelCount).find? (fun m => m ≠ n && (s.channel m).enabled && rangesMeet (s.channel m).range cfg.range)
  else none

/-- 08 R143: the checks, in order. -/
def setChannelChecks (n : Nat) (cfg : ChannelArg) (s : State) : List Check :=
  let c := s.channel n
  [ require (channelOk n && rangeOk cfg.range) .badField,
    require (c.range = cfg.range || s.ctrl.mode = .config) .configOnly,
    require ((c.enabled = cfg.enabled && c.range = cfg.range) || c.state = .idle) .runActive,
    require (overlapping s n cfg).isNone .overlap [Fld.u8 ((overlapping s n cfg).getD 0)] ]

/-- 08 R143: the channel with its configuration written, the timeout clamped. -/
def configured (cfg : ChannelArg) (c : Channel) : Channel :=
  { c with enabled := cfg.enabled, range := cfg.range, autoStart := cfg.autoStart, timeout := min (max cfg.timeout 5) 600 }

/-- 08 R144: whether a SET_CHANNEL defers DUE records: it disables an enabled channel or moves its range, in SETTLING. -/
def defers (s : State) (cfg : ChannelArg) (c : Channel) : Bool :=
  s.period.state = .settling && c.enabled && (!cfg.enabled || c.range ≠ cfg.range)

/-- 08 R144: the shops whose DUE records are deferred: those of the old range, or, where the channel stays enabled, those of the old
range outside the new (log 17). -/
def deferredShops (s : State) (cfg : ChannelArg) (c : Channel) : List Nat :=
  (rangeIn s c .due).filter (fun i => !cfg.enabled || !inRange i cfg.range)

/-- 08 R143, R144: the effect of a SET_CHANNEL. -/
def setChannelEffect (n : Nat) (cfg : ChannelArg) (s : State) : Done :=
  let c := s.channel n
  let s1 := s.setChannel n (configured cfg c)
  let r := if defers s cfg c then testRelease (setPayoutStates (deferredShops s cfg c) .deferred s1) else (s1, [])
  { state := r.1, answer := some { code := .ok, payload := channelConfigFlds (configured cfg c) }, after := r.2 }

/-- 08 R143, R144: SET_CHANNEL. -/
def setChannelRule (n : Nat) (cfg : ChannelArg) (s : State) : Done := ruled (setChannelChecks n cfg s) (setChannelEffect n cfg s) s

/-- SET_CHANNEL (08 R143, R144). -/
def execSetChannel (l : Link) (tag channel : Nat) (cfg : ChannelArg) (s : State) : Host.Outcome State Fault Refusal :=
  takeRequest (.setChannel l tag channel cfg) (setChannelRule channel cfg) s

/-! ## START_RUN -/

/-- 08 R145: the checks, in order. -/
def startRunChecks (n : Nat) (s : State) : List Check :=
  [ require (channelOk n) .badField,
    require ((s.channel n).state = .idle) .runActive [Fld.u8 (channelStateCode (s.channel n).state)],
    require (s.period.state = .settling) .noPeriod ]

/-- 08 R145: START_RUN. -/
def startRunRule (n : Nat) (s : State) : Done :=
  ruled (startRunChecks n s)
    (okay (s.setChannel n (beginRun (s.channel n))) [Fld.u32 (rangeIn s (s.channel n) .due).length]) s

/-- START_RUN (08 R145). -/
def execStartRun (l : Link) (tag channel : Nat) (s : State) : Host.Outcome State Fault Refusal :=
  takeRequest (.startRun l tag channel) (startRunRule channel) s

/-! ## PAYOUT_RESULT -/

/-- 08 R151: the outstanding offer of a channel that a result names. -/
def offerNamed (c : Channel) (serial : Nat) : Option Offer :=
  if c.state = .offerWait || c.state = .suspended || c.state = .fault then
    c.offer.filter (fun o => o.queued && o.serial == serial)
  else none

/-- 08 R151: the shop whose UNCERTAIN record carries a serial. -/
def uncertainShop (s : State) (serial : Nat) : Option Nat :=
  (s.shops.find? (fun e => e.2.payout.state = .uncertain && e.2.payout.serial == serial)).map (fun e => e.1)

/-- 08 R151: the shop a result concerns, by its channel's offer or by an UNCERTAIN record. -/
def resultShop (s : State) (n serial : Nat) : Option Nat :=
  match offerNamed (s.channel n) serial with
  | some o => some o.shop
  | none => uncertainShop s serial

/-- 08 R151: what STALE_RESULT carries: the serial, and the roster shop whose record has it with the record's state. -/
def staleFlds (s : State) (serial : Nat) : List Fld :=
  let i := s.period.roster.find? (fun i => (s.shop i).payout.serial = serial)
  [Fld.u32 serial] ++ optFld .u16 i ++ optFld .u8 (i.map (fun i => payoutStateCode (s.shop i).payout.state))

/-- 08 R151: the checks, in order. -/
def resultChecks (n serial outcome : Nat) (s : State) : List Check :=
  [ require (channelOk n && serial ≠ 0 && (outcomeOf outcome).isSome) .badField,
    require (resultShop s n serial).isSome .staleResult (staleFlds s serial) ]

/-- 08 R152: a record of an amount with an outcome counted in run totals. -/
def countResult (x : PayoutState) (count amount : Nat) (t : RunTotals) : RunTotals :=
  match x with
  | .paid => { t with paidCount := t.paidCount + count, paidAmount := t.paidAmount + amount }
  | .failed => { t with failedCount := t.failedCount + count, failedAmount := t.failedAmount + amount }
  | .deferred => { t with deferredCount := t.deferredCount + count, deferredAmount := t.deferredAmount + amount }
  | .none => t
  | .due => t
  | .offered => t
  | .uncertain => t
  | .held => t

/-- 08 R152: the channel after the result of its offer. The stopped timer keeps its last value, without meaning (log 18). -/
def resolvedChannel (x : PayoutState) (amount : Nat) (c : Channel) : Channel :=
  { c with
    offer := none
    totals := countResult x 1 amount c.totals
    state := if c.state = .offerWait then .running else c.state }

/-- 08 R152: the state after a result, before the release condition is tested. -/
def resolved (n serial i : Nat) (x : PayoutState) (s : State) : State :=
  let s1 := setPayoutState i x s
  if (offerNamed (s.channel n) serial).isSome then
    s1.setChannel n (resolvedChannel x (s.shop i).payout.amount (s.channel n))
  else s1

/-- 08 R152: the effect of a PAYOUT_RESULT. -/
def resultEffect (n serial outcome : Nat) (s : State) : Done :=
  let i := (resultShop s n serial).getD 0
  let x := (outcomeOf outcome).getD .paid
  let s1 := resolved n serial i x s
  let r := testRelease s1
  { state := r.1
    answer := some
      { code := .ok
        payload := [Fld.u16 i, .u64 (s.shop i).payout.amount, .u8 (payoutStateCode x), .flag (releaseHolds s1)] }
    after := r.2 }

/-- 08 R151, R152: PAYOUT_RESULT. -/
def resultRule (n serial outcome : Nat) (s : State) : Done :=
  ruled (resultChecks n serial outcome s) (resultEffect n serial outcome s) s

/-- PAYOUT_RESULT (08 R151, R152). -/
def execPayoutResult (l : Link) (tag channel serial outcome : Nat) (s : State) : Host.Outcome State Fault Refusal :=
  takeRequest (.payoutResult l tag channel serial outcome) (resultRule channel serial outcome) s

/-! ## SUSPEND_CHANNEL and RESUME_CHANNEL -/

/-- 08 R154: the channel after SUSPEND_CHANNEL. -/
def suspendedChannel (c : Channel) : Channel := { c with state := .suspended }

/-- 08 R154: the checks. -/
def suspendChecks (n : Nat) (s : State) : List Check :=
  [ require (channelOk n) .badField,
    require ((s.channel n).state ≠ .idle && (s.channel n).state ≠ .fault) .channelState ]

/-- 08 R154: SUSPEND_CHANNEL. -/
def suspendRule (n : Nat) (s : State) : Done :=
  ruled (suspendChecks n s)
    (okay (s.setChannel n (suspendedChannel (s.channel n)))
      [Fld.u8 (channelStateCode .suspended), .flag (s.channel n).offer.isSome]) s

/-- SUSPEND_CHANNEL (08 R154). -/
def execSuspendChannel (l : Link) (tag channel : Nat) (s : State) : Host.Outcome State Fault Refusal :=
  takeRequest (.suspendChannel l tag channel) (suspendRule channel) s

/-- 08 R155: the channel after RESUME_CHANNEL. -/
def resumedChannel (c : Channel) : Channel :=
  match c.state, c.offer with
  | .suspended, some o => { c with state := if o.queued then .offerWait else .running }
  | .suspended, none => { c with state := .running }
  | .fault, some o => { c with state := .running, timedOut := false, offer := some { o with queued := false, reoffer := true } }
  | .fault, none => { c with state := .running, timedOut := false }
  | .idle, _ => c
  | .running, _ => c
  | .offerWait, _ => c

/-- 08 R155: the serial of a re-offer. -/
def reofferSerial (c : Channel) : Option Nat := if c.state = .fault then c.offer.map (fun o => o.serial) else none

/-- 08 R155: the checks. -/
def resumeChecks (n : Nat) (s : State) : List Check :=
  [require (channelOk n) .badField, require ((s.channel n).state ≠ .idle) .channelState]

/-- 08 R155: RESUME_CHANNEL. -/
def resumeRule (n : Nat) (s : State) : Done :=
  let c := resumedChannel (s.channel n)
  ruled (resumeChecks n s)
    (okay (s.setChannel n c) ([Fld.u8 (channelStateCode c.state)] ++ optFld .u32 (reofferSerial (s.channel n)))) s

/-- RESUME_CHANNEL (08 R155). -/
def execResumeChannel (l : Link) (tag channel : Nat) (s : State) : Host.Outcome State Fault Refusal :=
  takeRequest (.resumeChannel l tag channel) (resumeRule channel) s

/-! ## RESET_CHANNEL -/

/-- 08 R156: the shops whose records a reset defers: the offered shop, then the DUE shops of the range. -/
def resetShops (s : State) (c : Channel) : List Nat :=
  (match c.offer with
    | some o => [o.shop]
    | none => []) ++ rangeIn s c .due

/-- 08 R156: the channel after a reset that deferred records. The stopped timer keeps its last value, without meaning (log 18). -/
def resetChannel (count amount : Nat) (c : Channel) : Channel :=
  { c with
    state := .idle
    cursor := none
    offer := none
    timedOut := false
    totals := countResult .deferred count amount c.totals }

/-- 08 R156: the effect of a RESET_CHANNEL. -/
def resetEffect (n : Nat) (s : State) : Done :=
  let c := s.channel n
  let is := resetShops s c
  let s1 := (setPayoutStates is .deferred s).setChannel n (resetChannel is.length (payoutSum s is) c)
  let r := testRelease s1
  { state := r.1
    answer := some
      { code := .ok, payload := [Fld.u32 is.length, .u64 (payoutSum s is)] ++ optFld .u32 (c.offer.map (fun o => o.serial)) }
    after := r.2 }

/-- 08 R156: RESET_CHANNEL. -/
def resetRule (n : Nat) (s : State) : Done := ruled [require (channelOk n) .badField] (resetEffect n s) s

/-- RESET_CHANNEL (08 R156). -/
def execResetChannel (l : Link) (tag channel : Nat) (s : State) : Host.Outcome State Fault Refusal :=
  takeRequest (.resetChannel l tag channel) (resetRule channel) s

/-! ## CHANNEL_STATUS -/

/-- 08 R158: the outstanding offer: shop, serial, amount, queued flag, and the remaining confirm seconds once queued. -/
def offerFlds (s : State) (c : Channel) (o : Offer) : List Fld :=
  [Fld.u16 o.shop, .u32 o.serial, .u64 (s.shop o.shop).payout.amount, .flag o.queued] ++
    optFld .u16 (if o.queued then some c.remaining else none)

/-- 08 R158: the reply of CHANNEL_STATUS. -/
def channelStatusFlds (s : State) (c : Channel) : List Fld :=
  channelConfigFlds c ++ [Fld.u8 (channelStateCode c.state), .u8 (if c.timedOut then 1 else 0)] ++ optFld .u16 c.cursor ++
    optFlds (c.offer.map (offerFlds s c)) ++ totalsFlds c.totals ++
    [Fld.u32 (rangeIn s c .due).length, .u32 (rangeIn s c .offered).length, .u32 (rangeIn s c .uncertain).length, .u32 s.serial,
     .u32 s.period.closing, .u8 (closingStateCode s.period.state)]

/-- 08 R158: CHANNEL_STATUS. -/
def channelStatusRule (n : Nat) (s : State) : Done :=
  ruled [require (channelOk n) .badField] (okay s (channelStatusFlds s (s.channel n))) s

/-- CHANNEL_STATUS (08 R158). -/
def execChannelStatus (l : Link) (tag channel : Nat) (s : State) : Host.Outcome State Fault Refusal :=
  takeRequest (.channelStatus l tag channel) (channelStatusRule channel) s

end Sys2Proof.Machine
end

