-- ==== Sys2Proof/Machine/Events.lean ====
section
/-! DEFINITION. The events: of the links (11 R183, R186, R190), of the timers (09 R163, 02 R33, 08 R153, 07 R125), of the engines
(04 R78, R81, 07 R128, R134, 08 R147, R149, 10 R178, R179) and of the supply (10 R175, R176). -/

namespace Sys2Proof.Machine

/-! ## Link events -/

/-- 11 R183: a frame ended in error: discarded, the frame-error mark set, hunting again. -/
def frameError (k : LinkState) : LinkState := { k with partialRx := [], marks := { k.marks with frameError := true } }

/-- 11 R183: one byte at a link's receiver; while a break lasts nothing is received (R190). -/
def byteAt (k : LinkState) (b : Byte) : LinkState :=
  if k.inBreak then k
  else
    match receiveByte k.partialRx b with
    | .collecting bs => { k with partialRx := bs }
    | .error => frameError k
    | .frame f => arriveAt { k with partialRx := [] } f

/-- 11 R183: bytes at a link's receiver, in their order. -/
def bytesAt (k : LinkState) (bs : List Byte) : LinkState := bs.foldl byteAt k

/-- FRAME_RECEIVED (11 R183, R184): bytes arrive on the receive line. -/
def execFrameReceived (l : Link) (bytes : List Byte) (s : State) : Host.Outcome State Fault Refusal :=
  lineEvent (fun s => s.setLink l (bytesAt (s.link l) bytes)) s

/-- 11 R183: a gap of 20 ms within a frame ends it. -/
def gapAt (k : LinkState) : LinkState := if k.partialRx.isEmpty || k.inBreak then k else frameError k

/-- FRAME_GAP_TIMEOUT (11 R183). -/
def execFrameGapTimeout (l : Link) (s : State) : Host.Outcome State Fault Refusal :=
  lineEvent (fun s => s.setLink l (gapAt (s.link l))) s

/-- 11 R186: the head frame leaves the transmit queue; while a break lasts nothing is sent (R190). -/
def sentAt (k : LinkState) : LinkState := if k.inBreak then k else { k with tx := k.tx.tail }

/-- 11 R189: an action that may free places of a link's transmit queue; every waiting offer that then fits enters in that action. -/
def freeing (f : LinkState → LinkState) (l : Link) (s : State) : State := enterOffers (s.setLink l (f (s.link l)))

/-- FRAME_SENT (11 R186, R189). -/
def execFrameSent (l : Link) (s : State) : Host.Outcome State Fault Refusal := event (freeing sentAt l) s

/-- 11 R190: the link reset at the recognition of a break. A break that lasts resets the link once. -/
def resetLink (k : LinkState) : LinkState :=
  if k.inBreak then k
  else
    { rx := [], partialRx := [], tx := [], busy := k.busy.map (fun p => { p with discard := true }), marks := clearMarks,
      cursor := .oldest, inBreak := true }

/-- LINK_RESET (11 R190, R189, 08 R160: an offer that waits enters the emptied queue). -/
def execLinkReset (l : Link) (s : State) : Host.Outcome State Fault Refusal := event (freeing resetLink l) s

/-- BREAK_ENDED (11 R190): the line returns to mark and the receiver hunts for sync. -/
def execBreakEnded (l : Link) (s : State) : Host.Outcome State Fault Refusal :=
  lineEvent (fun s => s.setLink l { s.link l with inBreak := false }) s

/-! ## Timer events -/

/-- TICK (09 R163). -/
def execTick (s : State) : Host.Outcome State Fault Refusal := event tickState s

/-- HOLD_EXPIRY (02 R33). -/
def execHoldExpiry (slot : Nat) (s : State) : Host.Outcome State Fault Refusal := dueEvent (expireHold slot) s

/-- 08 R153: the timeout of a channel whose confirm timer has run out. -/
def confirmEnd (n : Nat) (s : State) : State := if timeoutDue (s.channel n) then timeOut n s else s

/-- CONFIRM_TIMEOUT (08 R153). -/
def execConfirmTimeout (channel : Nat) (s : State) : Host.Outcome State Fault Refusal := dueEvent (confirmEnd channel) s

/-- INTERVAL_COUNTDOWN_EXPIRY (07 R125). -/
def execIntervalCountdownExpiry (s : State) : Host.Outcome State Fault Refusal := dueEvent intervalExpiry s

/-- DAY_ROLLOVER (09 R164): the next action of a rollover: that of the Time Base where the tick has raised one, else the reaction of one
of the blocks it was handed to, a command each, with any request between them. The Time Base's action for ADVANCE_DAY is within that request (R168). -/
def execDayRollover (s : State) : Host.Outcome State Fault Refusal := dueEvent rolloverAction s

/-! ## Engine events -/

/-- SWEEP_VISIT (04 R78). -/
def execSweepVisit (s : State) : Host.Outcome State Fault Refusal := event sweepStep s

/-- SWEEP_END (04 R81, R82). -/
def execSweepEnd (s : State) : Host.Outcome State Fault Refusal := event sweepFinish s

/-- CLOSE_COMPUTE_STEP (07 R128). -/
def execCloseComputeStep (s : State) : Host.Outcome State Fault Refusal := event computeStep s

/-- CLOSE_COMPUTATION_END (07 R134). -/
def execCloseComputationEnd (s : State) : Host.Outcome State Fault Refusal := event endComputation s

/-- RUN_WALK_STEP (08 R147). -/
def execRunWalkStep (channel : Nat) (s : State) : Host.Outcome State Fault Refusal := event (walkStep channel) s

/-- 11 R189: the lowest channel whose waiting offer finds room. -/
def nextOffer (s : State) : Option Nat := (List.range Config.channelCount).find? (offerMayEnter s)

/-- 08 R149, 11 R189: that channel's offer enters the A-link queue. -/
def offerEnters (s : State) : State :=
  match nextOffer s with
  | some n => enterOffer n s
  | none => s

/-- PAYOUT_OFFER_ENTERS_QUEUE (08 R149): the entering of an offer that found room as it was made. One that waited for a place enters in
the action that frees it (11 R189). -/
def execPayoutOfferEntersQueue (s : State) : Host.Outcome State Fault Refusal := lineEvent offerEnters s

/-- 10 R178, 11 R192: a link at the completion of STORE_INITIALISE: queues, marks and cursor as after a reset, no request in progress. A
frame being received is not abandoned (log 46), and a break that lasts goes on (log 26). -/
def emptiedLink (k : LinkState) : LinkState := { idleLink with inBreak := k.inBreak, partialRx := k.partialRx }

/-- 10 R178: the completion of STORE_INITIALISE: every block takes its initial state, the mark is written, the reply OK is placed in
the emptied A-link queue. -/
def initialiseDone (s : State) : State :=
  if s.ctrl.initInFlight then
    let s1 := initialBlocks s
    placeReply .a { code := .ok, payload := [] }
      { s1 with
        ctrl := { mode := .config, store := .valid, initInFlight := false, lastRestart := .initialise, formatMark := true,
                  draining := false }
        tLink := emptiedLink s.tLink
        aLink := { emptiedLink s.aLink with busy := s.aLink.busy } }
  else s

/-- STORE_INITIALISE_COMPLETE (10 R178). -/
def execStoreInitialiseComplete (s : State) : Host.Outcome State Fault Refusal := event initialiseDone s

/-- RESTART_AFTER_DRAIN (10 R179, R180). -/
def execRestartAfterDrain (s : State) : Host.Outcome State Fault Refusal := event restartDrained s

/-! ## Supply -/

/-- 10 R175: what a loss of power leaves: the kept fields of every block; the volatile state is gone (log 6), and a reaction to a
rollover not yet taken stays untaken (09 R164). A hold keeps no remaining seconds and no extensions used (02 R45). -/
def unpowered (s : State) : State :=
  let s1 := clearRuns s
  { s1 with
    power := false
    ctrl := { s.ctrl with mode := .config, initInFlight := false, draining := false }
    time := { s.time with clock := 0, timeSet := false, trading := false, rolloverDue := false, handed := [] }
    tLink := { idleLink with inBreak := s.tLink.inBreak }
    aLink := { idleLink with inBreak := s.aLink.inBreak }
    holds := s1.holds.map (fun e =>
      (e.1, { e.2 with hold := e.2.hold.map (fun h => { h with remaining := 0, extensions := 0 }) }))
    sweep := idleSweep
    sau := { accumulator := 0, saturated := false }
    period := { s.period with countdown := 0 } }

/-- LOSS_OF_POWER (10 R175). -/
def execLossOfPower (s : State) : Host.Outcome State Fault Refusal := .next (if s.power then unpowered s else s)

/-- 10 R176: the format mark read at power-on. -/
def markRead (s : State) : State :=
  if s.ctrl.formatMark then restartBlocks .powerOn { s with ctrl := { s.ctrl with store := .valid } }
  else
    { initialBlocks s with
      ctrl := { mode := .config, store := .blank, initInFlight := false, lastRestart := .powerOn, formatMark := false,
                draining := false }
      tLink := restartLink s.tLink
      aLink := restartLink s.aLink }

/-- 10 R176, R179, 09 R171: a power-on. The supply that comes while it is present has gone first (log 23). -/
def powered (s : State) : State := markRead { unpowered s with power := true }

/-- POWER_ON (10 R176, R179). -/
def execPowerOn (s : State) : Host.Outcome State Fault Refusal := .next (powered s)

end Sys2Proof.Machine
end

