-- ==== Sys2Proof/Machine/Part.lean ====
section
/-! DEFINITION. The requests of Mode Control and of the routing table, and the answer to a frame that spells no request (10 R173 to
R182, 11 R185, R191). -/

namespace Sys2Proof.Machine

/-! ## IDENTIFY and PART_STATUS -/

/-- 10 R181: the names, the request set version (free value, log 10), the capacities, the largest payload; the version and the largest
payload take 4 bytes (log 43). -/
def identityFlds : List Fld :=
  textFlds "Wiljapor" ++ textFlds "Zohrin" ++ textFlds "ZHS-24" ++
    [Fld.u32 Config.requestSetVersion, .u32 Config.cardSlots, .u32 Config.holdSlots, .u32 Config.journalSlots,
     .u32 Config.journalReserve, .u32 Config.poolCount, .u32 Config.shopCount, .u32 Config.channelCount, .u32 Config.bucketLimit,
     .u32 Config.cardHoldLimit, .u32 Config.maxPayload]

/-- 10 R181: IDENTIFY. -/
def identifyRule (s : State) : Done := okay s identityFlds

/-- IDENTIFY (10 R181). -/
def execIdentify (l : Link) (tag : Nat) (s : State) : Host.Outcome State Fault Refusal :=
  takeRequest (.identify l tag) identifyRule s

/-- The states of the four channels, a byte each in channel order (log 44). -/
def channelStateFlds (s : State) : List Fld :=
  (List.range Config.channelCount).map (fun n => .u8 (channelStateCode (s.channel n).state))

/-- 10 R174, R182: the number of PLACED holds, the closing state, the state of each channel. -/
def busyFlds (s : State) : List Fld :=
  [Fld.u32 s.placedHolds.length, .u8 (closingStateCode s.period.state)] ++ channelStateFlds s

/-- 10 R182: the pools whose POOL_LOW condition holds. -/
def lowPools (s : State) : List Nat := (List.range Config.poolCount).filter (fun p => poolLow (s.pool p))

/-- 10 R182: the reply of PART_STATUS. -/
def partStatusFlds (s : State) : List Fld :=
  [Fld.u8 (modeCode s.ctrl.mode), .u8 (storeStateCode s.ctrl.store), .u8 (restartCauseCode s.ctrl.lastRestart),
   .flag s.time.timeSet, .u16 s.time.day, .flag s.time.trading] ++ busyFlds s ++ [Fld.flag s.sweep.inFlight] ++
    listFlds ((lowPools s).map (fun p => [Fld.u8 p])) ++
    [Fld.flag (reserveHolds s.journal), .u32 (rosterIn s .uncertain).length]

/-- 10 R182: PART_STATUS. -/
def partStatusRule (s : State) : Done := okay s (partStatusFlds s)

/-- PART_STATUS (10 R182). -/
def execPartStatus (l : Link) (tag : Nat) (s : State) : Host.Outcome State Fault Refusal :=
  takeRequest (.partStatus l tag) partStatusRule s

/-! ## ENTER_CONFIG and OPEN_PART -/

/-- The operating mode changed. -/
def inMode (x : Mode) (s : State) : State := { s with ctrl := { s.ctrl with mode := x } }

/-- 10 R174: nothing stands in the way of CONFIG: no PLACED hold, not CLOSING, every channel IDLE. -/
def mayLeaveOpen (s : State) : Bool :=
  s.placedHolds.isEmpty && s.period.state ≠ .closing &&
    (List.range Config.channelCount).all (fun n => (s.channel n).state = .idle)

/-- 10 R174: ENTER_CONFIG; in CONFIG it is answered OK and changes nothing. -/
def enterConfigRule (s : State) : Done :=
  ruled [require (s.ctrl.mode = .config || mayLeaveOpen s) .busy (busyFlds s)] (okay (inMode .config s)) s

/-- ENTER_CONFIG (10 R174). -/
def execEnterConfig (l : Link) (tag : Nat) (s : State) : Host.Outcome State Fault Refusal :=
  takeRequest (.enterConfig l tag) enterConfigRule s

/-- 10 R173: the checks, in order. -/
def openChecks (s : State) : List Check :=
  [require (s.ctrl.store = .valid) .storeBlank, require s.time.timeSet .timeNotSet]

/-- 10 R173: OPEN_PART. -/
def openPartRule (s : State) : Done :=
  ruled (openChecks s) (okay (inMode .opened s) [Fld.u8 (modeCode .opened), .u16 s.time.day, .flag s.time.trading]) s

/-- OPEN_PART (10 R173). -/
def execOpenPart (l : Link) (tag : Nat) (s : State) : Host.Outcome State Fault Refusal :=
  takeRequest (.openPart l tag) openPartRule s

/-! ## RESTART and STORE_INITIALISE -/

/-- 10 R180: the taking of RESTART: no further request is taken, the frames waiting in both receive queues are discarded. -/
def restartTaken (s : State) : State :=
  { s with
    ctrl := { s.ctrl with draining := true }
    tLink := { s.tLink with rx := [] }
    aLink := { s.aLink with rx := [] } }

/-- 10 R180: RESTART. -/
def restartRule (s : State) : Done := okay (restartTaken s)

/-- RESTART (10 R180). -/
def execRestart (l : Link) (tag : Nat) (s : State) : Host.Outcome State Fault Refusal :=
  takeRequest (.restart l tag) restartRule s

/-- 10 R177: the taking of STORE_INITIALISE. Reactions to a rollover that wait are dropped with the sweep (log 29). -/
def initialiseTaken (s : State) : State :=
  clearRuns
    { s with
      ctrl := { s.ctrl with formatMark := false, store := .blank, initInFlight := true }
      time := { s.time with timeSet := false, rolloverDue := false, handed := [] }
      sweep := idleSweep }

/-- 10 R177: STORE_INITIALISE; its reply is sent at its completion. -/
def storeInitialiseRule (s : State) : Done := { state := initialiseTaken s, answer := none }

/-- STORE_INITIALISE (10 R177). -/
def execStoreInitialise (l : Link) (tag : Nat) (s : State) : Host.Outcome State Fault Refusal :=
  takeRequest (.storeInitialise l tag) storeInitialiseRule s

/-! ## SET_ROUTE -/

/-- 11 R191: the checks, in order. -/
def routeChecks (sel : Option (Nat × Nat)) (s : State) : List Check :=
  match sel with
  | some x => [require ((noticeClassOf x.1).isSome && (routeOf x.2).isSome) .badField]
  | none => [require (s.ctrl.mode = .config) .configOnly]

/-- 11 R191: the routing table after SET_ROUTE. -/
def routed (sel : Option (Nat × Nat)) (r : Routes) : Routes :=
  match sel with
  | some x => setRouteFor r ((routeOf x.2).getD .none) ((noticeClassOf x.1).getD .holdExpired)
  | none => defaultRoutes

/-- 11 R191: SET_ROUTE. -/
def setRouteRule (sel : Option (Nat × Nat)) (s : State) : Done :=
  ruled (routeChecks sel s) (okay { s with routes := routed sel s.routes } (routesFlds (routed sel s.routes))) s

/-- SET_ROUTE (11 R191). -/
def execSetRoute (l : Link) (tag : Nat) (sel : Option (Nat × Nat)) (s : State) : Host.Outcome State Fault Refusal :=
  takeRequest (.setRoute l tag sel) (setRouteRule sel) s

/-! ## UNKNOWN_REQUEST -/

/-- 11 R185: the answer to a taken frame that spells no request: by its kind, then by permission, then by its shape. -/
def strangerAnswer (l : Link) (kind : Nat) : Answer :=
  if !listedKind kind then { code := .unknownRequest, payload := [] }
  else if l = .t && !terminalKind kind then { code := .notPermitted, payload := [] }
  else { code := .badField, payload := [] }

/-- UNKNOWN_REQUEST (11 R185, log 27): a frame that spells no request is taken and refused; a frame that spells one is not this
command's to take, and waits. -/
def execUnknownRequest (l : Link) (tag kind : Nat) (payload : List Byte) (s : State) : Host.Outcome State Fault Refusal :=
  let c := Instr.unknownRequest l tag kind payload
  .next (match (if decodeRequest l (requestFrame c) = c then taken c s else none) with
    | some t => finish l (answered t (strangerAnswer l kind))
    | none => untaken c s)

end Sys2Proof.Machine
end

