-- ==== Sys2Proof/Machine/Periods.lean ====
section
/-! DEFINITION. The requests of the Period Controller: CLOSE_PERIOD, SET_SCHEDULER, PERIOD_STATUS and PERIOD_SUMMARY (07 R122 to R139). -/

namespace Sys2Proof.Machine

/-! ## CLOSE_PERIOD -/

/-- 07 R122: the check; CLOSE_BUSY carries the closing period number and the closing state. -/
def closePeriodChecks (s : State) : List Check :=
  [ require (s.period.state = .released) .closeBusy [Fld.u32 s.period.closing, .u8 (closingStateCode s.period.state)] ]

/-- 07 R122: CLOSE_PERIOD. -/
def closePeriodRule (s : State) : Done :=
  let s1 := takeClose .request s
  ruled (closePeriodChecks s) (okay s1 [Fld.u32 s1.period.closing, .u32 s1.period.live, .u32 s1.period.roster.length]) s

/-- CLOSE_PERIOD (07 R122, R127). -/
def execClosePeriod (l : Link) (tag : Nat) (s : State) : Host.Outcome State Fault Refusal :=
  takeRequest (.closePeriod l tag) closePeriodRule s

/-! ## SET_SCHEDULER -/

/-- 07 R124: the interval as stored. -/
def storedInterval (n : Nat) : Nat := min (max n 15) 10080

/-- 07 R124: the Period Controller after SET_SCHEDULER; a stopped countdown is held as 0 (log 18). -/
def scheduled (x : SchedulerMode) (n : Nat) (p : PeriodController) : PeriodController :=
  match x with
  | .manual => { p with mode := .manual, interval := storedInterval n, countdown := 0, closePending := none }
  | .daily => { p with mode := .daily, interval := storedInterval n, countdown := 0 }
  | .interval =>
    { p with
      mode := .interval
      interval := storedInterval n
      countdown := if p.mode = .interval then p.countdown else storedInterval n * 60 }

/-- 07 R124, R139: the countdown, in INTERVAL only. -/
def countdownFlds (p : PeriodController) : List Fld := optFld .u32 (if p.mode = .interval then some p.countdown else none)

/-- 07 R124: SET_SCHEDULER. -/
def setSchedulerRule (mode interval : Nat) (s : State) : Done :=
  let p := scheduled ((schedulerModeOf mode).getD .manual) interval s.period
  ruled [require (schedulerModeOf mode).isSome .badField]
    (okay { s with period := p } ([Fld.u8 (schedulerModeCode p.mode), .u16 p.interval] ++ countdownFlds p)) s

/-- SET_SCHEDULER (07 R124). -/
def execSetScheduler (l : Link) (tag mode interval : Nat) (s : State) : Host.Outcome State Fault Refusal :=
  takeRequest (.setScheduler l tag mode interval) (setSchedulerRule mode interval) s

/-! ## PERIOD_STATUS -/

/-- 07 R139: while CLOSING, the number of shops computed and the cursor. -/
def walkFlds (s : State) : List Fld :=
  optFlds (if s.period.state = .closing then
      some [Fld.u32 (s.period.roster.countP (fun i => (s.shop i).result.computed)), .u16 s.period.cursor]
    else none)

/-- The payout record states, in the order of 06 R102. -/
def payoutStates : List PayoutState := [.none, .due, .offered, .uncertain, .paid, .failed, .deferred, .held]

/-- 07 R139: while SETTLING, the number of roster records in each state: eight counts in the order of 06 R102 (log 49). -/
def settlingFlds (s : State) : List Fld :=
  optFlds (if s.period.state = .settling then some (payoutStates.map (fun x => .u32 (rosterIn s x).length)) else none)

/-- 07 R139: the reply of PERIOD_STATUS. The close pending flag is the presence byte of its cause (log 49). -/
def periodStatusFlds (s : State) : List Fld :=
  [Fld.u32 s.period.live, .u32 s.period.closing, .u8 (closingStateCode s.period.state), .u32 s.period.roster.length] ++ walkFlds s ++
    settlingFlds s ++ optFld .u8 (s.period.closePending.map pendingCauseCode) ++
    [Fld.u8 (schedulerModeCode s.period.mode), .u16 s.period.interval] ++ countdownFlds s.period ++
    [Fld.u8 (modeCode s.ctrl.mode), .flag s.time.trading]

/-- 07 R139: PERIOD_STATUS. -/
def periodStatusRule (s : State) : Done := okay s (periodStatusFlds s)

/-- PERIOD_STATUS (07 R139). -/
def execPeriodStatus (l : Link) (tag : Nat) (s : State) : Host.Outcome State Fault Refusal :=
  takeRequest (.periodStatus l tag) periodStatusRule s

/-! ## PERIOD_SUMMARY -/

/-- 07 R136: the summary of a period, LATEST being that of the closing period. -/
def summaryOf (period : Option Nat) (s : State) : Option Summary :=
  s.period.summaries.find? (fun m => m.period == period.getD s.period.closing)

/-- 07 R136: the lowest and highest period numbers held, for a numbered period. -/
def heldFlds (period : Option Nat) (ms : List Summary) : List Fld :=
  match period with
  | some _ => optFld .u32 (ms.head?.map (fun m => m.period)) ++ optFld .u32 (ms.getLast?.map (fun m => m.period))
  | none => []

/-- 07 R136: the checks. -/
def summaryChecks (period : Option Nat) (s : State) : List Check :=
  [ require (period ≠ some 0) .badField,
    require (summaryOf period s).isSome .notFound (heldFlds period s.period.summaries) ]

/-- 07 R136: PERIOD_SUMMARY. -/
def summaryRule (period : Option Nat) (s : State) : Done :=
  ruled (summaryChecks period s) (okay s (((summaryOf period s).map summaryFlds).getD [])) s

/-- PERIOD_SUMMARY (07 R136). -/
def execPeriodSummary (l : Link) (tag : Nat) (period : Option Nat) (s : State) : Host.Outcome State Fault Refusal :=
  takeRequest (.periodSummary l tag period) (summaryRule period) s

end Sys2Proof.Machine
end

