-- ==== Sys2Proof/Machine/Cards.lean ====
section
/-! DEFINITION. The requests of the Card Store: sale and reload with the bonus grant, balance, detail, freeze, unfreeze and close
(01 R12 to R21). -/

namespace Sys2Proof.Machine

/-! ## The bonus grant (01 R15 to R17) -/

/-- 01 R16, R17: a bonus: its amount and its grant reason (11: FULL 0, CAPPED 1, BUDGET 2, LIMIT 3, NO_BUCKET 4, INELIGIBLE 5,
POOL_STATE 6). -/
structure Bonus where
  amount : Nat
  reason : Nat
  deriving DecidableEq, Repr

/-- 01 R16: the computed bonus g₀. -/
def computedBonus (b : Nat) (p : Pool) : Nat := b * p.rate / 10000

/-- 01 R16: the limits of a bonus from an OPEN pool that apply, in the order of R17, each with its reason; `c` is the card with the
base amount added. -/
def bonusLimits (s : State) (p shop : Nat) (c : Card) : List (Nat × Nat) :=
  [((s.pool p).cap, 1), (available (s.pool p), 2), (Config.cardLimit - cardValue s c, 3)] ++
    (if !hasBucket p (grantExpiry s p) c.buckets && Config.bucketLimit ≤ c.buckets.length then [(0, 4)] else []) ++
    (if maskHas (s.pool p).mask (s.shop shop).category then [] else [(0, 5)])

/-- 01 R16, R17: the bonus at a sale or reload of base amount `b`. -/
def bonusOf (s : State) (p shop b : Nat) (c : Card) : Bonus :=
  if (s.pool p).state = .opened then
    let g0 := computedBonus b (s.pool p)
    let limits := bonusLimits s p shop c
    let g := limits.foldl (fun m x => min m x.1) g0
    { amount := g, reason := if g = g0 then 0 else ((limits.find? (fun x => x.1 = g)).map (fun x => x.2)).getD 0 }
  else { amount := 0, reason := 6 }

/-- 01 R16: the card with the bonus credited; a bonus of 0 credits no bucket. -/
def creditBonus (s : State) (p : Nat) (g : Bonus) (c : Card) : Card :=
  if g.amount = 0 then c else { c with buckets := (credit p (grantExpiry s p) g.amount c.buckets).getD c.buckets }

/-- 01 R13: the promotional parts of a SALE or RELOAD entry: one of the bonus pool and its amount, or none when it is 0. -/
def bonusParts (s : State) (p : Nat) (g : Bonus) : List EntryPart :=
  if g.amount = 0 then [] else [{ pool := p, amount := g.amount, expiry := some (grantExpiry s p) }]

/-- 01 R13, R17: the bonus fields of the reply: bonus, reason and, when the bonus is above 0, the expiry day. -/
def bonusFlds (s : State) (p : Nat) (g : Bonus) : List Fld :=
  optFld .u32 (some g.amount) ++ optFld .u8 (some g.reason) ++
    optFld .u16 (if g.amount = 0 then none else some (grantExpiry s p))

/-- 01 R13: the reply when no pool was named has no bonus fields. -/
def noBonusFlds : List Fld := optFld .u32 none ++ optFld .u8 none ++ optFld .u16 none

/-- 01 R13, R14: the SALE or RELOAD entry. -/
def purchaseEntry (s : State) (k : EntryKind) (id shop amount ref : Nat) (parts : List EntryPart) : Entry :=
  { newEntry s k with
    card := some id
    shop := some shop
    ref := some ref
    amount := amount
    base := some (amount : Int)
    parts := parts
    voided := some false }

/-- 01 R13, R14: what a sale and a reload share: the card, with the base amount added, takes the bonus of the named pool, and the
entry is written. -/
def purchase (k : EntryKind) (id shop amount : Nat) (pool : Option Nat) (ref : Nat) (c : Card) (s : State) : Done :=
  let seq := s.journal.next
  match pool with
  | some p =>
    let g := bonusOf s p shop amount c
    let c1 := creditBonus s p g c
    okay (writeEntry (purchaseEntry s k id shop amount ref (bonusParts s p g)) (s.setCard id c1))
      ([Fld.u32 seq, .u32 c1.base, .u32 (cardValue s c1)] ++ bonusFlds s p g)
  | none =>
    okay (writeEntry (purchaseEntry s k id shop amount ref []) (s.setCard id c))
      ([Fld.u32 seq, .u32 c.base, .u32 (cardValue s c)] ++ noBonusFlds)

/-- 01 R12, R14: the field ranges of a sale or reload. -/
def purchaseFields (id shop amount : Nat) (pool : Option Nat) : Check :=
  require (cardIdOk id && shopOk shop && amountOk amount && pool.all poolOk) .badField

/-! ## SELL_CARD -/

/-- 01 R12: the checks, in order. -/
def sellChecks (id shop amount : Nat) (pool : Option Nat) (s : State) : List Check :=
  [ purchaseFields id shop amount pool,
    mustTrade s shop,
    require (s.card? id).isNone .cardExists,
    require (s.cards.length < Config.cardSlots) .cardStoreFull,
    journalRoom s ]

/-- 01 R13: the new card. -/
def soldCard (s : State) (shop amount : Nat) (reloadable : Bool) : Card :=
  { slot := s.freeCardSlot, state := .active, reloadable := reloadable, base := amount, buckets := [], holds := [], issuer := shop,
    saleDay := s.time.day, closedPeriod := none }

/-- 01 R12, R13: SELL_CARD. -/
def sellRule (id shop amount : Nat) (reloadable : Bool) (pool : Option Nat) (ref : Nat) (s : State) : Done :=
  ruled (sellChecks id shop amount pool s) (purchase .sale id shop amount pool ref (soldCard s shop amount reloadable) s) s

/-- SELL_CARD (01 R12, R13). -/
def execSellCard (l : Link) (tag card shop amount : Nat) (reloadable : Bool) (bonusPool : Option Nat) (ref : Nat) (s : State) :
    Host.Outcome State Fault Refusal :=
  takeRequest (.sellCard l tag card shop amount reloadable bonusPool ref) (sellRule card shop amount reloadable bonusPool ref) s

/-! ## RELOAD_CARD -/

/-- 01 R14: the checks, in order. -/
def reloadChecks (id shop amount : Nat) (pool : Option Nat) (s : State) : List Check :=
  [ purchaseFields id shop amount pool,
    mustTrade s shop,
    require (s.card? id).isSome .noCard,
    mustBeActive (s.card id),
    require (s.card id).reloadable .notReloadable,
    require (cardValue s (s.card id) + amount ≤ Config.cardLimit) .limit,
    journalRoom s ]

/-- 01 R14: RELOAD_CARD. -/
def reloadRule (id shop amount : Nat) (pool : Option Nat) (ref : Nat) (s : State) : Done :=
  ruled (reloadChecks id shop amount pool s)
    (purchase .reload id shop amount pool ref { s.card id with base := (s.card id).base + amount } s) s

/-- RELOAD_CARD (01 R14). -/
def execReloadCard (l : Link) (tag card shop amount : Nat) (bonusPool : Option Nat) (ref : Nat) (s : State) :
    Host.Outcome State Fault Refusal :=
  takeRequest (.reloadCard l tag card shop amount bonusPool ref) (reloadRule card shop amount bonusPool ref) s

/-! ## BALANCE and CARD_DETAIL -/

/-- 01 R18, R2: the checks (order of field and presence checks: log 13). -/
def balanceChecks (id : Nat) (shop : Option Nat) (s : State) : List Check :=
  [ require (cardIdOk id && shop.all shopOk) .badField,
    require (s.card? id).isSome .noCard,
    match shop with
    | some i => mustBeDefined s i
    | none => none ]

/-- 01 R18: the reply of BALANCE. -/
def balanceFlds (s : State) (shop : Option Nat) (c : Card) : List Fld :=
  [Fld.u8 (cardStateCode c.state), .u32 c.base, .u32 (heldTotal s c)] ++ listFlds (c.buckets.map (bucketFlds s shop)) ++
    optFld .u32 (shop.map (fun i => spendable s i c))

/-- 01 R18: BALANCE. -/
def balanceRule (id : Nat) (shop : Option Nat) (s : State) : Done :=
  ruled (balanceChecks id shop s) (okay s (balanceFlds s shop (s.card id))) s

/-- BALANCE (01 R18). -/
def execBalance (l : Link) (tag card : Nat) (shop : Option Nat) (s : State) : Host.Outcome State Fault Refusal :=
  takeRequest (.balance l tag card shop) (balanceRule card shop) s

/-- 01 R2: the checks of a request that names only a card. -/
def cardChecks (id : Nat) (s : State) : List Check :=
  [ require (cardIdOk id) .badField, require (s.card? id).isSome .noCard ]

/-- 01 R19: the whole record, with the bucket statuses without a shop, the value and the slot. -/
def cardDetailFlds (s : State) (c : Card) : List Fld :=
  [Fld.u8 (cardStateCode c.state), .flag c.reloadable, .u32 c.base] ++ listFlds (c.buckets.map (bucketFlds s none)) ++
    listFlds (c.holds.map (fun r => holdRefFlds r.slot r.gen)) ++ [Fld.u16 c.issuer, .u16 c.saleDay] ++
    optFld .u32 c.closedPeriod ++ [Fld.u32 (cardValue s c), .u32 c.slot]

/-- 01 R19: CARD_DETAIL. -/
def cardDetailRule (id : Nat) (s : State) : Done := ruled (cardChecks id s) (okay s (cardDetailFlds s (s.card id))) s

/-- CARD_DETAIL (01 R19). -/
def execCardDetail (l : Link) (tag card : Nat) (s : State) : Host.Outcome State Fault Refusal :=
  takeRequest (.cardDetail l tag card) (cardDetailRule card) s

/-! ## FREEZE_CARD, UNFREEZE_CARD and CLOSE_CARD -/

/-- 01 R20: the checks of FREEZE_CARD and UNFREEZE_CARD. -/
def freezeChecks (id : Nat) (s : State) : List Check := cardChecks id s ++ [require ((s.card id).state ≠ .closed) .cardClosed]

/-- 01 R20: a card made FROZEN or ACTIVE; the reply carries its state. -/
def frozenAs (id : Nat) (x : CardState) (s : State) : Done :=
  okay (s.setCard id { s.card id with state := x }) [Fld.u8 (cardStateCode x)]

/-- 01 R20: FREEZE_CARD. -/
def freezeRule (id : Nat) (s : State) : Done := ruled (freezeChecks id s) (frozenAs id .frozen s) s

/-- FREEZE_CARD (01 R20). -/
def execFreezeCard (l : Link) (tag card : Nat) (s : State) : Host.Outcome State Fault Refusal :=
  takeRequest (.freezeCard l tag card) (freezeRule card) s

/-- 01 R20: UNFREEZE_CARD. -/
def unfreezeRule (id : Nat) (s : State) : Done := ruled (freezeChecks id s) (frozenAs id .active s) s

/-- UNFREEZE_CARD (01 R20). -/
def execUnfreezeCard (l : Link) (tag card : Nat) (s : State) : Host.Outcome State Fault Refusal :=
  takeRequest (.unfreezeCard l tag card) (unfreezeRule card) s

/-- 01 R21: the checks of CLOSE_CARD; NOT_EMPTY carries the value and the number of holds. -/
def closeChecks (id : Nat) (s : State) : List Check :=
  cardChecks id s ++
    [ require ((s.card id).state ≠ .closed) .cardClosed,
      require (cardValue s (s.card id) = 0 && (s.card id).holds.isEmpty) .notEmpty
        [Fld.u32 (cardValue s (s.card id)), .u32 (s.card id).holds.length] ]

/-- 01 R4: a card made CLOSED. -/
def closedCard (s : State) (c : Card) : Card := { c with state := .closed, closedPeriod := some s.period.live }

/-- 01 R21: CLOSE_CARD. -/
def closeRule (id : Nat) (s : State) : Done :=
  ruled (closeChecks id s) (okay (s.setCard id (closedCard s (s.card id))) [Fld.u32 s.period.live]) s

/-- CLOSE_CARD (01 R21). -/
def execCloseCard (l : Link) (tag card : Nat) (s : State) : Host.Outcome State Fault Refusal :=
  takeRequest (.closeCard l tag card) (closeRule card) s

end Sys2Proof.Machine
end

