-- ==== Sys2Proof/Machine/Pools.lean ====
section
/-! DEFINITION. The requests of the Pool Table: GRANT_PROMO, DEFINE_POOL, ADD_BUDGET, SET_POOL_STATE and POOL_STATUS (04 R71 to R77). -/

namespace Sys2Proof.Machine

/-! ## GRANT_PROMO -/

/-- 04 R74: the checks, in order. -/
def grantChecks (id pool amount : Nat) (s : State) : List Check :=
  [ require (cardIdOk id && poolOk pool && amountOk amount) .badField,
    require (s.card? id).isSome .noCard,
    mustBeActive (s.card id),
    require ((s.pool pool).state = .opened) .poolState,
    require (amount ≤ available (s.pool pool)) .budget [Fld.u64 (available (s.pool pool))],
    require (cardValue s (s.card id) + amount ≤ Config.cardLimit) .limit,
    require (credit pool (grantExpiry s pool) amount (s.card id).buckets).isSome .bucketLimit,
    journalRoom s ]

/-- 04 R75: the GRANT entry. -/
def grantEntry (s : State) (id pool amount : Nat) : Entry :=
  { newEntry s .grant with
    card := some id
    amount := amount
    parts := [{ pool := pool, amount := amount, expiry := some (grantExpiry s pool) }] }

/-- 04 R75: the card with the amount credited to the bucket of the pool and the grant's expiry day. -/
def grantedCard (s : State) (pool amount : Nat) (c : Card) : Card :=
  { c with buckets := (credit pool (grantExpiry s pool) amount c.buckets).getD c.buckets }

/-- 04 R75: the effect of a GRANT_PROMO. -/
def grantEffect (id pool amount : Nat) (s : State) : Done :=
  let c1 := grantedCard s pool amount (s.card id)
  let s1 := writeEntry (grantEntry s id pool amount) (s.setCard id c1)
  okay s1 [Fld.u32 s.journal.next, .u16 (grantExpiry s pool), .u32 (cardValue s c1), .u64 (available (s1.pool pool))]

/-- 04 R74, R75: GRANT_PROMO. -/
def grantRule (id pool amount : Nat) (s : State) : Done := ruled (grantChecks id pool amount s) (grantEffect id pool amount s) s

/-- GRANT_PROMO (04 R74, R75). -/
def execGrantPromo (l : Link) (tag card pool amount : Nat) (s : State) : Host.Outcome State Fault Refusal :=
  takeRequest (.grantPromo l tag card pool amount) (grantRule card pool amount) s

/-! ## DEFINE_POOL -/

/-- 04 R83: a pool record changed, and POOL_LOW given where its condition has just come to hold. -/
def changePool (p : Nat) (x : Pool) (s : State) : State := giveNotices (poolLowEdges s (s.setPool p x)) (s.setPool p x)

/-- 04 R77: an outstanding value as its 8 bytes carry it (log 21). -/
def outstandingFld (p : Pool) : Fld := .u64 (poolOutstanding p % 2 ^ 64).toNat

/-- 04 R71: a funder that is a shop is neither UNUSED nor DEPARTED. -/
def funderCheck (s : State) (funder : Option Nat) : Check :=
  match funder with
  | none => none
  | some i =>
    match (s.shop i).state with
    | .unused => some ⟨.noShop, []⟩
    | .departed => some ⟨.shopDeparted, []⟩
    | .trading => none
    | .barred => none

/-- 04 R71: the pool may be defined: EMPTY, or CLOSED with outstanding value and pending expiry 0. -/
def mayDefine (p : Pool) : Bool := p.state = .empty || (p.state = .closed && poolOutstanding p = 0 && p.pending = 0)

/-- 04 R71: the checks, in order; for a CLOSED pool POOL_STATE carries its outstanding value and pending expiry. -/
def definePoolChecks (pool : Nat) (cfg : PoolArg) (s : State) : List Check :=
  [ require (poolOk pool && cfg.funder.all shopOk && cfg.rate ≤ 10000 && cfg.cap ≤ Config.cardLimit && 1 ≤ cfg.validity) .badField,
    funderCheck s cfg.funder,
    require (mayDefine (s.pool pool)) .poolState
      (if (s.pool pool).state = .closed then [outstandingFld (s.pool pool), .u64 (s.pool pool).pending] else []) ]

/-- 04 R71: the pool as defined: OPEN, clamped, every total and pending expiry 0. -/
def definedPool (cfg : PoolArg) : Pool :=
  { emptyPool with
    state := .opened
    funder := cfg.funder
    mask := cfg.mask
    rate := cfg.rate
    cap := cfg.cap
    validity := min cfg.validity 3650
    budget := min cfg.budget Config.budgetLimit
    recycle := cfg.recycle
    low := min cfg.low Config.budgetLimit }

/-- 04 R71: DEFINE_POOL. -/
def definePoolRule (pool : Nat) (cfg : PoolArg) (s : State) : Done :=
  ruled (definePoolChecks pool cfg s) (okay (changePool pool (definedPool cfg) s) (poolConfigFlds (definedPool cfg))) s

/-- DEFINE_POOL (04 R71). -/
def execDefinePool (l : Link) (tag pool : Nat) (cfg : PoolArg) (s : State) : Host.Outcome State Fault Refusal :=
  takeRequest (.definePool l tag pool cfg) (definePoolRule pool cfg) s

/-! ## ADD_BUDGET -/

/-- 04 R72: the checks, BAD_FIELD before POOL_STATE (log 14). -/
def addBudgetChecks (pool amount : Nat) (s : State) : List Check :=
  [ require (poolOk pool && 1 ≤ amount && amount ≤ Config.budgetLimit) .badField,
    require ((s.pool pool).state = .opened || (s.pool pool).state = .suspended) .poolState ]

/-- 04 R72: the pool with its budget raised, at most to the limit. -/
def raisedPool (amount : Nat) (p : Pool) : Pool := { p with budget := min (p.budget + amount) Config.budgetLimit }

/-- 04 R72: ADD_BUDGET. -/
def addBudgetRule (pool amount : Nat) (s : State) : Done :=
  let p := raisedPool amount (s.pool pool)
  ruled (addBudgetChecks pool amount s) (okay (changePool pool p s) [Fld.u64 p.budget, .u64 (available p)]) s

/-- ADD_BUDGET (04 R72). -/
def execAddBudget (l : Link) (tag pool amount : Nat) (s : State) : Host.Outcome State Fault Refusal :=
  takeRequest (.addBudget l tag pool amount) (addBudgetRule pool amount) s

/-! ## SET_POOL_STATE -/

/-- 04 R73: the transitions taken. -/
def poolMoves (present target : PoolState) : Bool :=
  match present, target with
  | .opened, .suspended => true
  | .suspended, .opened => true
  | .opened, .closed => true
  | .suspended, .closed => true
  | _, _ => false

/-- 04 R73: the checks; a pool number or a target code that names no state is BAD_FIELD, before POOL_STATE (log 14). -/
def setPoolStateChecks (pool target : Nat) (s : State) : List Check :=
  [ require (poolOk pool && (poolStateOf target).isSome) .badField,
    require ((poolStateOf target).any (poolMoves (s.pool pool).state)) .poolState ]

/-- 04 R73: SET_POOL_STATE. -/
def setPoolStateRule (pool target : Nat) (s : State) : Done :=
  let x := (poolStateOf target).getD .empty
  ruled (setPoolStateChecks pool target s)
    (okay (changePool pool { s.pool pool with state := x } s) [Fld.u8 (poolStateCode x)]) s

/-- SET_POOL_STATE (04 R73). -/
def execSetPoolState (l : Link) (tag pool target : Nat) (s : State) : Host.Outcome State Fault Refusal :=
  takeRequest (.setPoolState l tag pool target) (setPoolStateRule pool target) s

/-! ## POOL_STATUS -/

/-- 04 R77: the reply of POOL_STATUS. -/
def poolStatusFlds (s : State) (n : Nat) : List Fld :=
  let p := s.pool n
  [Fld.u8 (poolStateCode p.state)] ++ poolConfigFlds p ++
    [Fld.u64 p.granted, .u64 p.ungranted, .u64 p.redeemed, .u64 p.returned, .u64 p.expired, .u64 p.recycled, .u64 p.pending,
     .u64 (available p), outstandingFld p, .flag (poolLow p),
     .u64 (if s.sweep.inFlight then (sweptFigures s n).value else 0)]

/-- 04 R77: POOL_STATUS. -/
def poolStatusRule (pool : Nat) (s : State) : Done :=
  ruled [require (poolOk pool) .badField] (okay s (poolStatusFlds s pool)) s

/-- POOL_STATUS (04 R77). -/
def execPoolStatus (l : Link) (tag pool : Nat) (s : State) : Host.Outcome State Fault Refusal :=
  takeRequest (.poolStatus l tag pool) (poolStatusRule pool) s

end Sys2Proof.Machine
end

