-- ==== Sys2Proof/Machine/Reading.lean ====
section
/-! DEFINITION. The requests that read the journal: LOOKUP_REFERENCE, JOURNAL_SEEK, JOURNAL_READ and VALUE_SUMMARY (05 R96 to R100). -/

namespace Sys2Proof.Machine

/-! ## LOOKUP_REFERENCE -/

/-- 05 R99: the entries of a shop that carry a terminal reference, newest first. -/
def matching (s : State) (shop ref : Nat) : List Entry :=
  (s.journal.entries.filter (fun e => e.shop = some shop && e.ref = some ref)).reverse

/-- 05 R99: the stamp of the oldest present entry: sequence number, business day, clock second; absent when there is none. -/
def oldestStampFlds (j : Journal) : List Fld :=
  optFld .u32 (oldestSeq j) ++ optFld .u16 (j.entries.head?.map (fun e => e.day)) ++
    optFld .u32 (j.entries.head?.map (fun e => e.clock))

/-- 05 R99: the answer of a search. -/
def lookupAnswer (s : State) (shop ref : Nat) : Answer :=
  match matching s shop ref with
  | e :: es => { code := .ok, payload := entryFlds e ++ [Fld.flag !es.isEmpty] }
  | [] => { code := .notFound, payload := oldestStampFlds s.journal }

/-- 05 R99: LOOKUP_REFERENCE. -/
def lookupRule (shop ref : Nat) (s : State) : Done :=
  ruled [require (shopOk shop) .badField] (answered s (lookupAnswer s shop ref)) s

/-- LOOKUP_REFERENCE (05 R99). -/
def execLookupReference (l : Link) (tag shop ref : Nat) (s : State) : Host.Outcome State Fault Refusal :=
  takeRequest (.lookupReference l tag shop ref) (lookupRule shop ref) s

/-! ## JOURNAL_SEEK -/

/-- The cursor of a link written. -/
def setCursor (l : Link) (x : Cursor) (s : State) : State := s.setLink l { s.link l with cursor := x }

/-- 05 R96: the oldest and newest present sequence numbers, absent in an empty journal, and the next. -/
def seekFlds (j : Journal) : List Fld := optFld .u32 (oldestSeq j) ++ optFld .u32 (newestSeq j) ++ [Fld.u32 j.next]

/-- 05 R96: the checks. Every reply carries the sequence numbers, a refusal's among them. -/
def seekChecks (pos : SeekPos) (s : State) : List Check :=
  match pos with
  | .seq n =>
    [ require (seqOk n) .badField (seekFlds s.journal),
      require ((s.entry? n).isSome || n = s.journal.next) .notFound (seekFlds s.journal) ]
  | .oldest => []
  | .next => []

/-- 05 R96: the cursor a position gives. -/
def seekCursor (pos : SeekPos) (s : State) : Cursor :=
  match pos with
  | .seq n => .at n
  | .oldest => .oldest
  | .next => .at s.journal.next

/-- 05 R96: JOURNAL_SEEK. -/
def seekRule (l : Link) (pos : SeekPos) (s : State) : Done :=
  ruled (seekChecks pos s) (okay (setCursor l (seekCursor pos s) s) (seekFlds s.journal)) s

/-- JOURNAL_SEEK (05 R96). -/
def execJournalSeek (l : Link) (tag : Nat) (pos : SeekPos) (s : State) : Host.Outcome State Fault Refusal :=
  takeRequest (.journalSeek l tag pos) (seekRule l pos) s

/-! ## JOURNAL_READ -/

/-- 05 R97: the entries from the cursor's to the newest; `none` where the cursor is lost (R98). -/
def entriesFrom (s : State) : Cursor → Option (List Entry)
  | .oldest => some s.journal.entries
  | .at n =>
    if n = s.journal.next then some []
    else if (s.entry? n).isSome then some (s.journal.entries.dropWhile (fun e => e.seq ≠ n))
    else none

/-- 05 R97: the bytes of an entry in a reply. -/
def entryBytes (e : Entry) : Nat := (payloadBytes (entryFlds e)).length

/-- 05 R97: the entries that fit: at most `n`, each while `room` bytes hold it. -/
def fitting : Nat → Nat → List Entry → List Entry
  | 0, _, _ => []
  | _, _, [] => []
  | n + 1, room, e :: es => if entryBytes e ≤ room then e :: fitting n (room - entryBytes e) es else []

/-- 05 R97: the room for entries in one reply: 240 bytes less the count, the cursor and the next sequence number (log 8). -/
def readRoom : Nat := Config.maxPayload - 10

/-- 05 R97: the entries of a reply. One is always returned when one is available (the largest entry fits the room). -/
def readEntries (n : Nat) (es : List Entry) : List Entry := if (fitting n readRoom es).isEmpty then es.take 1 else fitting n readRoom es

/-- 05 R97: the cursor after the entries returned. -/
def cursorAfter (x : Cursor) (es : List Entry) : Cursor :=
  match es.getLast? with
  | some e => .at (numberAfter e.seq)
  | none => x

/-- 05 R98: sequence numbers from `a` up to `b`, with 1 following the top value. -/
def seqDistance (a b : Nat) : Nat := if a ≤ b then b - a else b + Config.topNumber - a

/-- 05 R98: the cursor a lost cursor becomes; in an empty journal it becomes OLDEST (log 25). -/
def foundCursor (j : Journal) : Cursor :=
  match oldestSeq j with
  | some n => .at n
  | none => .oldest

/-- 05 R98: the reply to a read with a lost cursor: the oldest sequence number and the number of entries skipped (an empty journal,
in which no run loses a cursor, shows the next sequence number: log 25). -/
def lostFlds (j : Journal) (x : Cursor) : List Fld :=
  let oldest := (oldestSeq j).getD j.next
  [Fld.u32 oldest,
   .u32 (match x with
     | .at n => seqDistance n oldest
     | .oldest => 0)]

/-- 05 R97, R98: the effect of a read. -/
def readEffect (l : Link) (count : Nat) (s : State) : Done :=
  let x := (s.link l).cursor
  match entriesFrom s x with
  | some es =>
    let out := readEntries count es
    let x1 := cursorAfter x out
    okay (setCursor l x1 s) (listFlds (out.map entryFlds) ++ cursorFlds x1 ++ [Fld.u32 s.journal.next])
  | none =>
    { state := setCursor l (foundCursor s.journal) s
      answer := some { code := .cursorLost, payload := lostFlds s.journal x } }

/-- 05 R97, R98: JOURNAL_READ. -/
def readRule (l : Link) (count : Nat) (s : State) : Done :=
  ruled [require (1 ≤ count && count ≤ 4) .badField] (readEffect l count s) s

/-- JOURNAL_READ (05 R97, R98). -/
def execJournalRead (l : Link) (tag count : Nat) (s : State) : Host.Outcome State Fault Refusal :=
  takeRequest (.journalRead l tag count) (readRule l count) s

/-! ## VALUE_SUMMARY -/

/-- 05 R94, R100: the nine value counters, in the order in which the table of R94 names them (log 40). -/
def counterFlds (c : Counters) : List Fld :=
  [c.issuedBase, c.grantedPromo, c.redeemedBase, c.redeemedPromo, c.refundedBase, c.refundedPromo, c.voidedBase, c.ungrantedPromo,
   c.expiredPromo].map (fun x => .u64 x.toNat)

/-- 05 R100: the reply of VALUE_SUMMARY. -/
def valueSummaryFlds (s : State) : List Fld :=
  counterFlds s.journal.counters ++
    [Fld.u64 (outstandingValue s.journal.counters).toNat, .u64 (allHeld s), .u64 (allPending s), .u32 s.journal.next] ++
    optFld .u32 (oldestSeq s.journal) ++ optFld .u32 (newestSeq s.journal) ++
    [Fld.u32 s.journal.entries.length, .u32 (releasableCount s.journal), .u32 (writable s.journal), .u32 s.journal.released,
     .u32 s.period.live, .u32 s.journal.wraps, .flag (reserveHolds s.journal)]

/-- 05 R100: VALUE_SUMMARY; it changes nothing (that its sum passes through the wide accumulator is not held: log 22). -/
def valueSummaryRule (s : State) : Done := okay s (valueSummaryFlds s)

/-- VALUE_SUMMARY (05 R100). -/
def execValueSummary (l : Link) (tag : Nat) (s : State) : Host.Outcome State Fault Refusal :=
  takeRequest (.valueSummary l tag) valueSummaryRule s

end Sys2Proof.Machine
end

