-- ==== Sys2Proof/Machine/Holds.lean ====
section
/-! DEFINITION. Direct redemption and the requests of the Hold Table (02 R23 to R44). -/

namespace Sys2Proof.Machine

/-! ## REDEEM -/

/-- 02 R23, R29: the checks that REDEEM and PLACE_HOLD share, up to the card's state. -/
def takingChecks (id shop amount : Nat) (s : State) : List Check :=
  [ require (cardIdOk id && shopOk shop && amountOk amount) .badField,
    mustTrade s shop,
    require (s.card? id).isSome .noCard,
    mustBeActive (s.card id) ]

/-- 02 R23: the checks, in order. -/
def redeemChecks (id shop amount : Nat) (part : Bool) (s : State) : List Check :=
  takingChecks id shop amount s ++ [journalRoom s, splitCheck s shop amount part (s.card id)]

/-- 01 R11: the amount taken: the requested amount, or the spendable value where that is less. -/
def takenAmount (s : State) (shop amount : Nat) (c : Card) : Nat := min amount (spendable s shop c)

/-- 01 R11: OK, or PARTIAL where less than the requested amount is taken. -/
def takenCode (s : State) (shop amount : Nat) (c : Card) : Result :=
  if amount ≤ spendable s shop c then .ok else .partialTaken

/-- 02 R24, R39: the promotional parts of an entry, with the expiry day of the bucket each came from. -/
def entryParts (ps : List PromoPart) : List EntryPart :=
  ps.map (fun p => { pool := p.pool, amount := p.amount, expiry := some p.expiry })

/-- 02 R24, R39: a REDEEM or CAPTURE entry for a split, with its refunded-so-far fields at zero. -/
def redemptionEntry (s : State) (k : EntryKind) (id shop ref : Nat) (x : Split) : Entry :=
  { newEntry s k with
    card := some id
    shop := some shop
    ref := some ref
    amount := (splitTotal x : Nat)
    base := some (x.base : Int)
    parts := entryParts x.promo
    refunded := some { base := 0, promo := x.promo.map (fun _ => 0) } }

/-- 02 R24: the effect of a REDEEM. -/
def redeemEffect (id shop amount ref : Nat) (s : State) : Done :=
  let c := s.card id
  let a := takenAmount s shop amount c
  let x := splitOf s shop a c
  let c1 := tidyCard s (afterSplit s shop a c)
  { state := writeEntry (redemptionEntry s .redeem id shop ref x) (s.setCard id c1)
    answer := some
      { code := takenCode s shop amount c
        payload := [Fld.u32 s.journal.next, .u32 a] ++ splitFlds x ++ [Fld.u32 c1.base, .u32 (cardValue s c1)] } }

/-- 02 R23, R24: REDEEM. -/
def redeemRule (id shop amount : Nat) (part : Bool) (ref : Nat) (s : State) : Done :=
  ruled (redeemChecks id shop amount part s) (redeemEffect id shop amount ref s) s

/-- REDEEM (02 R23, R24). -/
def execRedeem (l : Link) (tag card shop amount : Nat) (part : Bool) (ref : Nat) (s : State) : Host.Outcome State Fault Refusal :=
  takeRequest (.redeem l tag card shop amount part ref) (redeemRule card shop amount part ref) s

/-! ## PLACE_HOLD -/

/-- 02 R29: the checks, in order. -/
def placeChecks (id shop amount : Nat) (part : Bool) (s : State) : List Check :=
  takingChecks id shop amount s ++
    [ require ((s.card id).holds.length < Config.cardHoldLimit) .holdLimit,
      require (s.lowestFreeHoldSlot < Config.holdSlots) .holdTableFull,
      splitCheck s shop amount part (s.card id) ]

/-- 02 R30: the hold placed. -/
def placedHold (s : State) (id shop ref : Nat) (x : Split) : Hold :=
  { card := id, shop := shop, total := splitTotal x, parts := x, remaining := (s.shop shop).schedule.lifetime, extensions := 0,
    ref := ref }

/-- 02 R30: the effect of a PLACE_HOLD. -/
def placeEffect (id shop amount ref : Nat) (s : State) : Done :=
  let c := s.card id
  let a := takenAmount s shop amount c
  let x := splitOf s shop a c
  let n := s.lowestFreeHoldSlot
  let slot := s.holdSlot n
  let h := placedHold s id shop ref x
  let taken := afterSplit s shop a c
  let c1 := { taken with holds := taken.holds ++ [⟨n, slot.gen⟩] }
  { state := (s.setCard id c1).setHoldSlot n { slot with hold := some h }
    answer := some
      { code := takenCode s shop amount c
        payload := holdRefFlds n slot.gen ++ [Fld.u32 h.total] ++ splitFlds x ++ [Fld.u16 h.remaining, .u32 (spendable s shop c1)] } }

/-- 02 R29, R30: PLACE_HOLD. -/
def placeRule (id shop amount : Nat) (part : Bool) (ref : Nat) (s : State) : Done :=
  ruled (placeChecks id shop amount part s) (placeEffect id shop amount ref s) s

/-- PLACE_HOLD (02 R29, R30). -/
def execPlaceHold (l : Link) (tag card shop amount : Nat) (part : Bool) (ref : Nat) (s : State) :
    Host.Outcome State Fault Refusal :=
  takeRequest (.placeHold l tag card shop amount part ref) (placeRule card shop amount part ref) s

/-! ## Hold references (02 R27) -/

/-- 02 R27: the answer to a reference one generation behind. -/
def behindAnswer (e : LastEnd) : Result :=
  match e with
  | .expired => .holdExpired
  | .restart => .holdDropped
  | .captured => .unknownHold
  | .released => .unknownHold

/-- 02 R27: a reference resolved at its slot; it passes when it names the current hold. -/
def resolveHold (s : State) (n gen : Nat) : Check :=
  if n < Config.holdSlots then
    if gen = (s.holdSlot n).gen then require (s.holdSlot n).hold.isSome .unknownHold
    else if (s.holdSlot n).gen = (if gen = 65535 then 0 else gen + 1) then
      some { code := behindAnswer (s.holdSlot n).lastEnd, payload := [] }
    else some { code := .unknownHold, payload := [] }
  else some { code := .badField, payload := [] }

/-- The hold read from a FREE slot; only unguarded reads in states that no run reaches see it (log 20). -/
def absentHold : Hold :=
  { card := 0, shop := 0, total := 0, parts := { promo := [], base := 0 }, remaining := 0, extensions := 0, ref := 0 }

/-- The hold of a slot whose reference has been resolved. -/
def State.hold (s : State) (n : Nat) : Hold := ((s.holdSlot n).hold).getD absentHold

/-- 02 R35, R37, R40, 06 R104: the shop of the request is the hold's shop; an UNUSED shop is never that. -/
def sameShop (s : State) (n shop : Nat) : Check :=
  require (shop = (s.hold n).shop && (s.shop shop).state ≠ .unused) .wrongShop

/-! ## RELEASE_HOLD -/

/-- 02 R35: the checks, in order. -/
def releaseChecks (n gen shop : Nat) (s : State) : List Check :=
  [ require (shopOk shop) .badField, resolveHold s n gen, sameShop s n shop ]

/-- The amounts of a list of pending parts. -/
def pendingSum (ps : List (Nat × Nat)) : Nat := (ps.map (fun p => p.2)).sum

/-- 02 R36: the effect of a RELEASE_HOLD. -/
def releaseEffect (n shop : Nat) (s : State) : Done :=
  let h := s.hold n
  let s1 := endHold n h.parts .released s
  let gone := pendingOfReturn s h.parts (s.card h.card)
  okay s1 ([Fld.u32 (h.total - pendingSum gone)] ++ pendingFlds gone ++ [Fld.u32 (spendable s1 shop (s1.card h.card))])

/-- 02 R35, R36: RELEASE_HOLD. -/
def releaseRule (n gen shop : Nat) (s : State) : Done := ruled (releaseChecks n gen shop s) (releaseEffect n shop s) s

/-- RELEASE_HOLD (02 R35, R36). -/
def execReleaseHold (l : Link) (tag slot gen shop : Nat) (s : State) : Host.Outcome State Fault Refusal :=
  takeRequest (.releaseHold l tag slot gen shop) (releaseRule slot gen shop) s

/-! ## CAPTURE_HOLD -/

/-- 02 R37: the shop of a capture is TRADING or BARRED. -/
def mustCapture (s : State) (shop : Nat) : Check :=
  match (s.shop shop).state with
  | .trading => none
  | .barred => none
  | .unused => some ⟨.wrongShop, []⟩
  | .departed => some ⟨.shopDeparted, []⟩

/-- 02 R37: the checks, in order. -/
def captureChecks (n gen shop amount : Nat) (s : State) : List Check :=
  [ require (shopOk shop && amountOk amount) .badField,
    resolveHold s n gen,
    sameShop s n shop,
    mustCapture s shop,
    require (amount ≤ (s.hold n).total) .overHold [Fld.u32 (s.hold n).total],
    journalRoom s ]

/-- 02 R38: the promotional parts consumed for an amount, what is left of them, and the amount still uncovered. -/
def consumePromo : Nat → List PromoPart → List PromoPart × List PromoPart × Nat
  | a, [] => ([], [], a)
  | a, p :: ps =>
    let t := min p.amount a
    let r := consumePromo (a - t) ps
    (if t = 0 then r.1 else { p with amount := t } :: r.1,
     if p.amount = t then r.2.1 else { p with amount := p.amount - t } :: r.2.1, r.2.2)

/-- 02 R38: the consumed parts of a hold for an amount. -/
def consumed (a : Nat) (x : Split) : Split :=
  let r := consumePromo a x.promo
  { promo := r.1, base := min x.base r.2.2 }

/-- 02 R38: the remainder of a hold after an amount is consumed. -/
def remainder (a : Nat) (x : Split) : Split :=
  let r := consumePromo a x.promo
  { promo := r.2.1, base := x.base - min x.base r.2.2 }

/-- 02 R38, R39: the effect of a CAPTURE_HOLD. -/
def captureEffect (n shop amount : Nat) (ref : Option Nat) (s : State) : Done :=
  let h := s.hold n
  let used := consumed amount h.parts
  let back := remainder amount h.parts
  let gone := pendingOfReturn s back (s.card h.card)
  let s1 := endHold n back .captured s
  let c1 := s1.card h.card
  okay (writeEntry (redemptionEntry s .capture h.card shop (ref.getD h.ref) used) s1)
    ([Fld.u32 s.journal.next] ++ splitFlds used ++ [Fld.u32 (splitTotal back - pendingSum gone)] ++ pendingFlds gone ++
      [Fld.u32 c1.base, .u32 (cardValue s1 c1)])

/-- 02 R37 to R39: CAPTURE_HOLD. -/
def captureRule (n gen shop amount : Nat) (ref : Option Nat) (s : State) : Done :=
  ruled (captureChecks n gen shop amount s) (captureEffect n shop amount ref s) s

/-- CAPTURE_HOLD (02 R37 to R39). -/
def execCaptureHold (l : Link) (tag slot gen shop amount : Nat) (ref : Option Nat) (s : State) :
    Host.Outcome State Fault Refusal :=
  takeRequest (.captureHold l tag slot gen shop amount ref) (captureRule slot gen shop amount ref) s

/-! ## EXTEND_HOLD -/

/-- 02 R40: the checks, in order. -/
def extendChecks (n gen shop : Nat) (s : State) : List Check :=
  [ require (shopOk shop) .badField,
    resolveHold s n gen,
    sameShop s n shop,
    mustTrade s shop,
    mustBeActive (s.card (s.hold n).card),
    require ((s.hold n).extensions < 3) .extendLimit [Fld.u16 (s.hold n).remaining] ]

/-- 02 R41: the hold extended by the live lifetime of its shop, at most 3,600 seconds. -/
def extendedHold (s : State) (shop : Nat) (h : Hold) : Hold :=
  { h with remaining := min (h.remaining + (s.shop shop).schedule.lifetime) 3600, extensions := h.extensions + 1 }

/-- 02 R41: the effect of an EXTEND_HOLD. -/
def extendEffect (n shop : Nat) (s : State) : Done :=
  let h := extendedHold s shop (s.hold n)
  okay (s.setHoldSlot n { s.holdSlot n with hold := some h }) [Fld.u16 h.remaining, .u8 h.extensions]

/-- 02 R40, R41: EXTEND_HOLD. -/
def extendRule (n gen shop : Nat) (s : State) : Done := ruled (extendChecks n gen shop s) (extendEffect n shop s) s

/-- EXTEND_HOLD (02 R40, R41). -/
def execExtendHold (l : Link) (tag slot gen shop : Nat) (s : State) : Host.Outcome State Fault Refusal :=
  takeRequest (.extendHold l tag slot gen shop) (extendRule slot gen shop) s

/-! ## HOLD_DETAIL -/

/-- 02 R44: a promotional part with its status without a shop. -/
def partDetailFlds (s : State) (p : PromoPart) : List Fld :=
  [Fld.u8 p.pool, .u16 p.expiry, .u32 p.amount, .u8 (valueStatus s p.pool p.expiry)]

/-- 02 R44: the fields shown for a PLACED slot; the base part after the promotional parts, 0 where there is none (log 30). -/
def holdFlds (s : State) (h : Hold) : List Fld :=
  [Fld.u64 h.card, .u16 h.shop, .u32 h.total] ++ listFlds (h.parts.promo.map (partDetailFlds s)) ++
    [Fld.u32 h.parts.base, .u16 h.remaining, .u8 h.extensions, .u32 h.ref]

/-- 02 R44: the reply of HOLD_DETAIL: state (FREE 0, PLACED 1), generation, last end, and the hold of a PLACED slot. -/
def holdDetailFlds (s : State) (x : HoldSlot) : List Fld :=
  [Fld.u8 (if x.hold.isSome then 1 else 0), .u16 x.gen, .u8 (lastEndCode x.lastEnd)] ++ optFlds (x.hold.map (holdFlds s))

/-- 02 R44: HOLD_DETAIL. -/
def holdDetailRule (n : Nat) (s : State) : Done :=
  ruled [require (n < Config.holdSlots) .badField] (okay s (holdDetailFlds s (s.holdSlot n))) s

/-- HOLD_DETAIL (02 R44). -/
def execHoldDetail (l : Link) (tag slot : Nat) (s : State) : Host.Outcome State Fault Refusal :=
  takeRequest (.holdDetail l tag slot) (holdDetailRule slot) s

end Sys2Proof.Machine
end

