-- ==== Sys2Proof/Machine/Refunds.lean ====
section
/-! DEFINITION. Refunds and voids: the original, the apportionment, the placement of shares, and the two requests (03). -/

namespace Sys2Proof.Machine

/-! ## The original (03 R48, R62) -/

/-- The entry read for a sequence number that names none; only unguarded reads in states that no run reaches see it (log 20). -/
def absentEntry : Entry :=
  { seq := 0, kind := .adjust, period := 0, day := 0, clock := 0, card := none, shop := none, ref := none, amount := 0, base := none,
    parts := [], original := none, target := none, forfeited := [], refunded := none, voided := none, swept := none }

/-- The present entry of a sequence number whose presence has been checked. -/
def State.entry (s : State) (seq : Nat) : Entry := (s.entry? seq).getD absentEntry

/-- The card of an entry; every kind that is refunded or voided has one. -/
def entryCard (e : Entry) : Nat := e.card.getD 0

/-- 03 R48: what has been refunded of an original, base and promotional together. -/
def refundedOf (e : Entry) : Int :=
  match e.refunded with
  | some r => r.base + (r.promo.sum : Nat)
  | none => 0

/-- 03 R48: the refundable remainder. -/
def refundRemainder (e : Entry) : Int := e.amount - refundedOf e

/-! ## Apportioning (03 R52, R53) -/

/-- 03 R52: the share of one part `p` of an original of amount `a` when the amount refunded goes from `r0` to `r1`. -/
def partShare (a r0 r1 p : Nat) : Nat := r1 * p / a - r0 * p / a

/-- 03 R52: the promotional shares of a refund of `r`, in the original's part order, zero shares among them. -/
def refundShares (e : Entry) (r : Nat) : List Nat :=
  e.parts.map (fun p => partShare e.amount.toNat (refundedOf e).toNat ((refundedOf e).toNat + r) p.amount)

/-- 03 R52, R53: the base share, negative where the cumulative base comes back. -/
def baseShare (e : Entry) (r : Nat) : Int := (r : Int) - ((refundShares e r).sum : Nat)

/-! ## Placing (03 R54, R55) -/

/-- 03 R54: a share of a refund: its pool, its amount, and the expiry day of the bucket it was placed in (`none`: forfeited). -/
structure Share where
  pool : Nat
  amount : Nat
  placedAt : Option Nat
  deriving DecidableEq, Repr

/-- 03 R54 step 4: the bucket of a pool whose expiry day has not passed, the earliest first. -/
def laterBucket (s : State) (q : Nat) (bs : List Bucket) : Option Bucket :=
  bs.find? (fun b => b.pool == q && decide (s.time.day ≤ b.expiry))

/-- 03 R54: where one share goes: the expiry day of its bucket and the list after, or `none` where it is forfeited. -/
def placeShare (s : State) (q d a : Nat) (bs : List Bucket) : Option (Nat × List Bucket) :=
  if usable s q d then
    match credit q d a bs with
    | some bs' => some (d, bs')
    | none => (laterBucket s q bs).map (fun b => (b.expiry, mergeBucket q b.expiry a bs))
  else none

/-- 03 R54: the shares placed in the original's part order; a share of 0 is no part of the refund (R52). -/
def placeShares (s : State) : List (EntryPart × Nat) → List Bucket → List Share × List Bucket
  | [], bs => ([], bs)
  | (p, a) :: ps, bs =>
    if a = 0 then placeShares s ps bs
    else
      match placeShare s p.pool (p.expiry.getD 0) a bs with
      | some x =>
        let r := placeShares s ps x.2
        (⟨p.pool, a, some x.1⟩ :: r.1, r.2)
      | none =>
        let r := placeShares s ps bs
        (⟨p.pool, a, none⟩ :: r.1, r.2)

/-- 03 R54: the placement of a refund's shares on a destination. -/
def placement (s : State) (e : Entry) (r : Nat) (dest : Card) : List Share × List Bucket :=
  placeShares s (e.parts.zip (refundShares e r)) dest.buckets

/-- 03 R55: the value of the shares placed on the destination. -/
def placedValue (xs : List Share) : Nat := ((xs.filter (fun x => x.placedAt.isSome)).map (fun x => x.amount)).sum

/-- 03 R55: the returned value of a refund. -/
def returnedValue (s : State) (e : Entry) (r : Nat) (dest : Card) : Int :=
  baseShare e r + (placedValue (placement s e r dest).1 : Nat)

/-! ## The destination (03 R50, R51) -/

/-- 03 R50: a target equal to the original's card is no target. -/
def realTarget (e : Entry) (target : Option Nat) : Option Nat := if target = e.card then none else target

/-- 03 R50: the destination card's id. -/
def destination (e : Entry) (target : Option Nat) : Nat := (realTarget e target).getD (entryCard e)

/-- 03 R51: the card that a refund creates for an absent target. -/
def targetCard (s : State) (shop : Nat) : Card :=
  { slot := s.freeCardSlot, state := .active, reloadable := false, base := 0, buckets := [], holds := [], issuer := shop,
    saleDay := s.time.day, closedPeriod := none }

/-- 03 R50, R51: the destination as it stands, or as it is created. -/
def destCard (s : State) (id shop : Nat) : Card := (s.card? id).getD (targetCard s shop)

/-- 03 R49: a refunding shop is TRADING or BARRED. -/
def mustTakeBack (s : State) (shop : Nat) : Check :=
  match (s.shop shop).state with
  | .trading => none
  | .barred => none
  | .unused => some ⟨.noShop, []⟩
  | .departed => some ⟨.shopDeparted, []⟩

/-! ## REFUND -/

/-- 03 R47 to R55: the checks, in order. The deficit of INSUFFICIENT (R53) is sent as its magnitude, 4 bytes unsigned (log 47). -/
def refundChecks (original shop amount : Nat) (target : Option Nat) (s : State) : List Check :=
  let e := s.entry original
  let id := destination e target
  let dest := destCard s id shop
  [ require (seqOk original && shopOk shop && amountOk amount && target.all cardIdOk) .badField,
    require (s.entry? original).isSome .originalGone,
    require (e.kind = .redeem || e.kind = .capture) .notRefundable,
    require (e.shop = some shop) .wrongShop,
    require ((amount : Int) ≤ refundRemainder e) .overRefund [Fld.u32 (refundRemainder e).toNat],
    mustTakeBack s shop,
    require ((realTarget e target).isSome || (s.card? id).isSome) .noCard,
    mustBeActive dest,
    require ((s.card? id).isSome || s.cards.length < Config.cardSlots) .cardStoreFull,
    journalRoom s,
    require (0 ≤ (dest.base : Int) + baseShare e amount) .insufficient [Fld.u32 (-(baseShare e amount)).toNat],
    require ((cardValue s dest : Int) + returnedValue s e amount dest ≤ Config.cardLimit) .limit
      [Fld.u32 (cardValue s dest), .u32 (returnedValue s e amount dest).toNat] ]

/-- 03 R56: the destination after the refund. -/
def refundedCard (s : State) (e : Entry) (r : Nat) (dest : Card) : Card :=
  { dest with base := ((dest.base : Int) + baseShare e r).toNat, buckets := (placement s e r dest).2 }

/-- 03 R57: the original with its refunded-so-far fields grown. -/
def grownOriginal (r : Nat) (e : Entry) : Entry :=
  { e with
    refunded := e.refunded.map (fun x =>
      { base := x.base + baseShare e r, promo := List.zipWith (· + ·) x.promo (refundShares e r) }) }

/-- 03 R56: the REFUND entry. -/
def refundEntry (s : State) (original shop amount : Nat) (target : Option Nat) (ref : Nat) (dest : Card) : Entry :=
  let e := s.entry original
  let xs := (placement s e amount dest).1
  { newEntry s .refund with
    card := e.card
    shop := some shop
    ref := some ref
    amount := amount
    base := some (baseShare e amount)
    parts := xs.map (fun x => { pool := x.pool, amount := x.amount, expiry := none })
    original := some original
    target := realTarget e target
    forfeited := (xs.filter (fun x => x.placedAt.isNone)).map (fun x => { pool := x.pool, amount := x.amount, expiry := none }) }

/-- 03 R59: a share in the reply: pool, amount, and the expiry day of its bucket, whose absence is the mark "forfeited" (log 31). -/
def shareFlds (x : Share) : List Fld := [Fld.u8 x.pool, .u32 x.amount] ++ optFld .u16 x.placedAt

/-- 03 R56 to R59: the effect of a REFUND. -/
def refundEffect (original shop amount : Nat) (target : Option Nat) (ref : Nat) (s : State) : Done :=
  let e := s.entry original
  let id := destination e target
  let dest := destCard s id shop
  let c1 := refundedCard s e amount dest
  let s1 := amendEntry original (grownOriginal amount) (s.setCard id c1)
  okay (writeEntry (refundEntry s original shop amount target ref dest) s1)
    ([Fld.u32 s.journal.next, .u64 id, .flag (s.card? id).isNone, .i64 (baseShare e amount)] ++
      listFlds ((placement s e amount dest).1.map shareFlds) ++
      [Fld.u32 c1.base, .u32 (cardValue s c1), .u32 (refundRemainder e - amount).toNat])

/-- 03 R47 to R59: REFUND. -/
def refundRule (original shop amount : Nat) (target : Option Nat) (ref : Nat) (s : State) : Done :=
  ruled (refundChecks original shop amount target s) (refundEffect original shop amount target ref s) s

/-- REFUND (03 R47 to R59). -/
def execRefund (l : Link) (tag original shop amount : Nat) (target : Option Nat) (ref : Nat) (s : State) :
    Host.Outcome State Fault Refusal :=
  takeRequest (.refund l tag original shop amount target ref) (refundRule original shop amount target ref) s

/-! ## VOID_SALE -/

/-- 03 R63: the bonus part of a SALE or RELOAD, if it has one. -/
def bonusPart (e : Entry) : Option EntryPart := e.parts.head?

/-- 03 R63: the bucket a bonus part was credited to. -/
def isBonusBucket (p : EntryPart) (b : Bucket) : Bool := b.pool == p.pool && b.expiry == p.expiry.getD 0

/-- 03 R63: the value of a void is still on the card. -/
def valueLeft (e : Entry) (c : Card) : Bool :=
  decide (basePart e ≤ c.base) &&
    match bonusPart e with
    | some p => c.buckets.any (fun b => isBonusBucket p b && decide (p.amount ≤ b.amount))
    | none => true

/-- 03 R62: the checks, in order. -/
def voidChecks (original shop : Nat) (s : State) : List Check :=
  let e := s.entry original
  [ require (seqOk original && shopOk shop) .badField,
    require (s.entry? original).isSome .originalGone,
    require (e.kind = .sale || e.kind = .reload) .notVoidable,
    require (e.voided ≠ some true) .alreadyVoided,
    require (e.day = s.time.day) .voidWindow,
    require (e.shop = some shop) .wrongShop,
    mustTrade s shop,
    require (s.card? (entryCard e)).isSome .noCard,
    require ((s.card (entryCard e)).state ≠ .closed) .cardClosed,
    require (s.card (entryCard e)).holds.isEmpty .cardHeld,
    require (valueLeft e (s.card (entryCard e))) .valueUsed,
    journalRoom s ]

/-- 03 R64: the bonus taken out of its bucket. -/
def withoutBonus (e : Entry) (bs : List Bucket) : List Bucket :=
  match bonusPart e with
  | some p => bs.map (fun b => if isBonusBucket p b then { b with amount := b.amount - p.amount } else b)
  | none => bs

/-- 03 R64: the card after the void; emptied by the void of a SALE it becomes CLOSED. -/
def voidedCard (s : State) (e : Entry) (c : Card) : Card :=
  let c1 := tidyCard s { c with base := c.base - (basePart e).toNat, buckets := withoutBonus e c.buckets }
  if e.kind = .sale && cardValue s c1 = 0 then closedCard s c1 else c1

/-- 03 R64: the VOID entry. -/
def voidEntry (s : State) (original shop ref : Nat) : Entry :=
  let e := s.entry original
  { newEntry s .void with
    card := e.card
    shop := some shop
    ref := some ref
    amount := basePart e
    base := some (basePart e)
    parts := e.parts.map (fun p => { p with expiry := none })
    original := some original }

/-- 03 R64: the effect of a VOID_SALE. The bonus removed is sent as a plain amount, 0 where there was none (log 41). -/
def voidEffect (original shop ref : Nat) (s : State) : Done :=
  let e := s.entry original
  let c1 := voidedCard s e (s.card (entryCard e))
  let s1 := amendEntry original (fun x => { x with voided := some true }) (s.setCard (entryCard e) c1)
  okay (writeEntry (voidEntry s original shop ref) s1)
    [Fld.u32 s.journal.next, .u32 (basePart e).toNat, .u32 (partsSum e), .u8 (cardStateCode c1.state), .u32 (cardValue s c1)]

/-- 03 R62 to R64: VOID_SALE. -/
def voidRule (original shop ref : Nat) (s : State) : Done :=
  ruled (voidChecks original shop s) (voidEffect original shop ref s) s

/-- VOID_SALE (03 R62 to R64). -/
def execVoidSale (l : Link) (tag original shop ref : Nat) (s : State) : Host.Outcome State Fault Refusal :=
  takeRequest (.voidSale l tag original shop ref) (voidRule original shop ref) s

end Sys2Proof.Machine
end

