-- ==== Sys2Proof/Machine/Shops.lean ====
section
/-! DEFINITION. The requests of the Shop Table (06 R110 to R117). -/

namespace Sys2Proof.Machine

/-- 06 R102: the checks of a request that names only a shop. -/
def shopChecks (shop : Nat) (s : State) : List Check := [require (shopOk shop) .badField, mustBeDefined s shop]

/-! ## DEFINE_SHOP -/

/-- 06 R110: the checks, in order. -/
def defineShopChecks (shop category : Nat) (sched : ScheduleArg) (s : State) : List Check :=
  [ require (shopOk shop && category < 16 && scheduleOk sched) .badField,
    require (s.ctrl.mode = .config || (s.shop shop).state = .unused) .configOnly ]

/-- 06 R110: a fresh tenancy. -/
def freshShop (category account : Nat) (c : Schedule) : Shop :=
  { unusedShop with state := .trading, category := category, account := account, schedule := c, closingSchedule := c }

/-- 06 R110: the record after DEFINE_SHOP. -/
def definedShop (category account : Nat) (c : Schedule) (x : Shop) : Shop :=
  if x.state = .unused then freshShop category account c else { x with category := category, account := account, schedule := c }

/-- 06 R110: DEFINE_SHOP. -/
def defineShopRule (shop category account : Nat) (sched : ScheduleArg) (s : State) : Done :=
  let x := definedShop category account (storedSchedule sched) (s.shop shop)
  ruled (defineShopChecks shop category sched s) (okay (s.setShop shop x) (shopFlds x)) s

/-- DEFINE_SHOP (06 R110). -/
def execDefineShop (l : Link) (tag shop category account : Nat) (sched : ScheduleArg) (s : State) :
    Host.Outcome State Fault Refusal :=
  takeRequest (.defineShop l tag shop category account sched) (defineShopRule shop category account sched) s

/-! ## STAGE_SCHEDULE -/

/-- 06 R111: the checks, in order. -/
def stageChecks (shop : Nat) (sched : ScheduleArg) (s : State) : List Check :=
  [require (shopOk shop && scheduleOk sched) .badField, mustBeDefined s shop]

/-- 06 R111: STAGE_SCHEDULE. -/
def stageRule (shop : Nat) (sched : ScheduleArg) (s : State) : Done :=
  ruled (stageChecks shop sched s)
    (okay (s.setShop shop { s.shop shop with staged := some (storedSchedule sched) }) (storedScheduleFlds (storedSchedule sched))) s

/-- STAGE_SCHEDULE (06 R111). -/
def execStageSchedule (l : Link) (tag shop : Nat) (sched : ScheduleArg) (s : State) : Host.Outcome State Fault Refusal :=
  takeRequest (.stageSchedule l tag shop sched) (stageRule shop sched) s

/-! ## SET_SHOP_STATE -/

/-- 06 R112: the target states: TRADING, BARRED, DEPARTED. -/
def targetState (target : Nat) : Option ShopState := (shopStateOf target).filter (fun x => x ≠ .unused)

/-- 06 R112: the checks, in order. A target code that names no state is BAD_FIELD (log 48). -/
def setShopStateChecks (shop target : Nat) (s : State) : List Check :=
  [require (shopOk shop && (targetState target).isSome) .badField, mustBeDefined s shop]

/-- 06 R112: SET_SHOP_STATE. -/
def setShopStateRule (shop target : Nat) (s : State) : Done :=
  let x := (targetState target).getD .trading
  ruled (setShopStateChecks shop target s) (okay (s.setShop shop { s.shop shop with state := x }) [Fld.u8 (shopStateCode x)]) s

/-- SET_SHOP_STATE (06 R112). -/
def execSetShopState (l : Link) (tag shop target : Nat) (s : State) : Host.Outcome State Fault Refusal :=
  takeRequest (.setShopState l tag shop target) (setShopStateRule shop target) s

/-! ## REMOVE_SHOP -/

/-- 06 R113: the closing record allows the removal. -/
def closeAllows (s : State) (x : Shop) : Bool :=
  s.period.state = .released ||
    (s.period.state = .settling && x.result.computed && x.result.newCarry = 0 &&
      (x.payout.state = .none || x.payout.state = .paid || x.payout.state = .held))

/-- 06 R113: the conditions of a removal, in the order of its list. -/
def settledConditions (s : State) (shop : Nat) : List Bool :=
  let x := s.shop shop
  [ decide (x.carry = 0),
    decide (x.live = zeroPosition),
    s.placedHolds.all (fun e => e.2.shop ≠ shop),
    (List.range Config.poolCount).all (fun p => (s.pool p).state = .empty || (s.pool p).funder ≠ some shop),
    closeAllows s x ]

/-- 06 R113: the checks, in order; NOT_SETTLED names the first failing condition by its position (11). -/
def removeChecks (shop : Nat) (s : State) : List Check :=
  shopChecks shop s ++
    [ require ((s.shop shop).state = .departed) .shopState,
      require ((settledConditions s shop).all id) .notSettled [Fld.u8 ((settledConditions s shop).idxOf false)] ]

/-- 06 R113, 07 R137: the shop becomes UNUSED and leaves the roster, whatever the closing state (log 33). -/
def removedShop (shop : Nat) (s : State) : State :=
  let s1 := s.setShop shop unusedShop
  { s1 with period := { s1.period with roster := s1.period.roster.filter (fun i => i ≠ shop) } }

/-- 06 R113, 07 R137: the effect of a REMOVE_SHOP, with the test of the release condition. -/
def removeEffect (shop : Nat) (s : State) : Done :=
  let r := testRelease (removedShop shop s)
  { state := r.1, answer := some { code := .ok, payload := [] }, after := r.2 }

/-- 06 R113: REMOVE_SHOP. -/
def removeRule (shop : Nat) (s : State) : Done := ruled (removeChecks shop s) (removeEffect shop s) s

/-- REMOVE_SHOP (06 R113). -/
def execRemoveShop (l : Link) (tag shop : Nat) (s : State) : Host.Outcome State Fault Refusal :=
  takeRequest (.removeShop l tag shop) (removeRule shop) s

/-! ## SHOP_POSITION -/

/-- 06 R117: the fields of every reply. -/
def positionHeadFlds (x : Shop) : List Fld :=
  [Fld.u8 (shopStateCode x.state), .u8 x.category, .u64 x.account, .i64 x.carry, .flag x.attention] ++
    optFlds (x.staged.map storedScheduleFlds)

/-- 06 R117: the fields of LIVE. -/
def liveFlds (s : State) (x : Shop) : List Fld := positionFlds x.live ++ storedScheduleFlds x.schedule ++ [Fld.u32 s.period.live]

/-- 06 R117: the fields of CLOSING. -/
def closingFlds (s : State) (x : Shop) : List Fld :=
  positionFlds x.closing ++ storedScheduleFlds x.closingSchedule ++
    [Fld.u32 s.period.closing, .u8 (closingStateCode s.period.state)] ++ resultFlds x.result ++ payoutFlds x.payout

/-- 06 R117: the checks; the selectors are LIVE 0 and CLOSING 1. -/
def positionChecks (shop selector : Nat) (s : State) : List Check :=
  [require (shopOk shop && selector < 2) .badField, mustBeDefined s shop]

/-- 06 R117: SHOP_POSITION. -/
def positionRule (shop selector : Nat) (s : State) : Done :=
  let x := s.shop shop
  ruled (positionChecks shop selector s)
    (okay s (positionHeadFlds x ++ (if selector = 0 then liveFlds s x else closingFlds s x))) s

/-- SHOP_POSITION (06 R117). -/
def execShopPosition (l : Link) (tag shop selector : Nat) (s : State) : Host.Outcome State Fault Refusal :=
  takeRequest (.shopPosition l tag shop selector) (positionRule shop selector) s

/-! ## ADJUST_CARRY -/

/-- 06 R115: the checks, in order. -/
def adjustChecks (shop : Nat) (amount : Int) (s : State) : List Check :=
  [ require (shopOk shop && amount ≠ 0 && withinLimit amount) .badField,
    mustBeDefined s shop,
    require (s.period.state = .released) .closeBusy,
    journalRoom s ]

/-- 06 R115: the shop with its carry adjusted; a clamp sets the live saturation mark. -/
def adjustedShop (amount : Int) (x : Shop) : Shop :=
  { x with
    carry := clampMoney (x.carry + amount)
    live := { x.live with saturated := x.live.saturated || !withinLimit (x.carry + amount) } }

/-- 06 R115: the ADJUST entry, with the change actually made. -/
def adjustEntry (s : State) (shop : Nat) (amount : Int) (ref : Option Nat) : Entry :=
  { newEntry s .adjust with
    shop := some shop
    ref := ref
    amount := clampMoney ((s.shop shop).carry + amount) - (s.shop shop).carry }

/-- 06 R115: the effect of an ADJUST_CARRY. -/
def adjustEffect (shop : Nat) (amount : Int) (ref : Option Nat) (s : State) : Done :=
  let x := adjustedShop amount (s.shop shop)
  okay (writeEntry (adjustEntry s shop amount ref) (s.setShop shop x))
    [Fld.u32 s.journal.next, .i64 x.carry, .flag (!withinLimit ((s.shop shop).carry + amount))]

/-- 06 R115: ADJUST_CARRY. -/
def adjustRule (shop : Nat) (amount : Int) (ref : Option Nat) (s : State) : Done :=
  ruled (adjustChecks shop amount s) (adjustEffect shop amount ref s) s

/-- ADJUST_CARRY (06 R115). -/
def execAdjustCarry (l : Link) (tag shop : Nat) (amount : Int) (ref : Option Nat) (s : State) :
    Host.Outcome State Fault Refusal :=
  takeRequest (.adjustCarry l tag shop amount ref) (adjustRule shop amount ref) s

/-! ## CLEAR_ATTENTION and SET_PAYOUT_ACCOUNT -/

/-- 06 R116: the checks, in order. -/
def clearChecks (shop : Nat) (s : State) : List Check :=
  shopChecks shop s ++ [require (s.period.state ≠ .closing) .closeBusy]

/-- 06 R116: CLEAR_ATTENTION. -/
def clearRule (shop : Nat) (s : State) : Done :=
  ruled (clearChecks shop s) (okay (s.setShop shop { s.shop shop with attention := false }) [Fld.flag false]) s

/-- CLEAR_ATTENTION (06 R116). -/
def execClearAttention (l : Link) (tag shop : Nat) (s : State) : Host.Outcome State Fault Refusal :=
  takeRequest (.clearAttention l tag shop) (clearRule shop) s

/-- 06 R114: SET_PAYOUT_ACCOUNT. -/
def setAccountRule (shop account : Nat) (s : State) : Done :=
  ruled (shopChecks shop s) (okay (s.setShop shop { s.shop shop with account := account })) s

/-- SET_PAYOUT_ACCOUNT (06 R114). -/
def execSetPayoutAccount (l : Link) (tag shop account : Nat) (s : State) : Host.Outcome State Fault Refusal :=
  takeRequest (.setPayoutAccount l tag shop account) (setAccountRule shop account) s

end Sys2Proof.Machine
end

