-- ==== Sys2Proof/Machine/Times.lean ====
section
/-! DEFINITION. The requests of the Time Base (09 R165 to R170). -/

namespace Sys2Proof.Machine

/-! ## SET_TIME, SET_DAY and SET_ROLLOVER -/

/-- 09 R165: the Time Base after SET_TIME. -/
def timeSetTo (clock : Nat) (s : State) : State := { s with time := { s.time with clock := clock, timeSet := true } }

/-- 09 R165: SET_TIME. -/
def setTimeRule (clock : Nat) (s : State) : Done :=
  let s1 := timeSetTo clock s
  okay s1 [Fld.u32 clock, .u32 (secondOfDay clock), .u16 s.time.day, .u32 (untilRollover s1)]

/-- SET_TIME (09 R165). -/
def execSetTime (l : Link) (tag clock : Nat) (s : State) : Host.Outcome State Fault Refusal :=
  takeRequest (.setTime l tag clock) (setTimeRule clock) s

/-- 09 R167: SET_DAY. -/
def setDayRule (day : Nat) (s : State) : Done := okay { s with time := { s.time with day := day } } [Fld.u16 day]

/-- SET_DAY (09 R167). -/
def execSetDay (l : Link) (tag day : Nat) (s : State) : Host.Outcome State Fault Refusal :=
  takeRequest (.setDay l tag day) (setDayRule day) s

/-- 09 R166: SET_ROLLOVER. -/
def setRolloverRule (second : Nat) (s : State) : Done :=
  let s1 := { s with time := { s.time with rolloverSecond := second } }
  ruled [require (second < Config.daySeconds) .badField] (okay s1 [Fld.u32 second, .u32 (untilRollover s1)]) s

/-- SET_ROLLOVER (09 R166). -/
def execSetRollover (l : Link) (tag second : Nat) (s : State) : Host.Outcome State Fault Refusal :=
  takeRequest (.setRollover l tag second) (setRolloverRule second) s

/-! ## SET_TRADING, ADVANCE_DAY and TIME_STATUS -/

/-- 09 R169: SET_TRADING. The gate travels as a flag, 1 for on (log 42). -/
def setTradingRule (on : Bool) (s : State) : Done := okay { s with time := { s.time with trading := on } } [Fld.flag on]

/-- SET_TRADING (09 R169). -/
def execSetTrading (l : Link) (tag : Nat) (on : Bool) (s : State) : Host.Outcome State Fault Refusal :=
  takeRequest (.setTrading l tag on) (setTradingRule on) s

/-- 09 R168: ADVANCE_DAY; the cause ADVANCE is 1. -/
def advanceDayRule (s : State) : Done :=
  let s1 := rollDay 1 s
  okay s1 [Fld.u16 s1.time.day]

/-- ADVANCE_DAY (09 R168). -/
def execAdvanceDay (l : Link) (tag : Nat) (s : State) : Host.Outcome State Fault Refusal :=
  takeRequest (.advanceDay l tag) advanceDayRule s

/-- 09 R170: the reply of TIME_STATUS. -/
def timeStatusFlds (s : State) : List Fld :=
  [Fld.u32 s.time.clock, .u32 (secondOfDay s.time.clock), .flag s.time.timeSet, .u16 s.time.day, .u32 s.time.rolloverSecond] ++
    optFld .u32 (if s.time.timeSet then some (untilRollover s) else none) ++ [Fld.flag s.time.trading, .flag (countdownRuns s)]

/-- 09 R170: TIME_STATUS. -/
def timeStatusRule (s : State) : Done := okay s (timeStatusFlds s)

/-- TIME_STATUS (09 R170). -/
def execTimeStatus (l : Link) (tag : Nat) (s : State) : Host.Outcome State Fault Refusal :=
  takeRequest (.timeStatus l tag) timeStatusRule s

end Sys2Proof.Machine
end

