-- ==== Sys2Proof/Machine/Dispatch.lean ====
section
/-! DEFINITION. The meaning of every command: one arm per constructor, each one call. -/

namespace Sys2Proof.Machine

/-- The effect of a command on everything but the queue of waiting commands. -/
def exec (i : Instr) (s : State) : Host.Outcome State Fault Refusal :=
  match i with
  | .sellCard l tag card shop amount reloadable bonusPool ref => Sys2Proof.Machine.execSellCard l tag card shop amount reloadable bonusPool ref s
  | .reloadCard l tag card shop amount bonusPool ref => Sys2Proof.Machine.execReloadCard l tag card shop amount bonusPool ref s
  | .balance l tag card shop => Sys2Proof.Machine.execBalance l tag card shop s
  | .redeem l tag card shop amount part ref => Sys2Proof.Machine.execRedeem l tag card shop amount part ref s
  | .placeHold l tag card shop amount part ref => Sys2Proof.Machine.execPlaceHold l tag card shop amount part ref s
  | .captureHold l tag slot gen shop amount ref => Sys2Proof.Machine.execCaptureHold l tag slot gen shop amount ref s
  | .releaseHold l tag slot gen shop => Sys2Proof.Machine.execReleaseHold l tag slot gen shop s
  | .extendHold l tag slot gen shop => Sys2Proof.Machine.execExtendHold l tag slot gen shop s
  | .refund l tag original shop amount target ref => Sys2Proof.Machine.execRefund l tag original shop amount target ref s
  | .voidSale l tag original shop ref => Sys2Proof.Machine.execVoidSale l tag original shop ref s
  | .lookupReference l tag shop ref => Sys2Proof.Machine.execLookupReference l tag shop ref s
  | .cardDetail l tag card => Sys2Proof.Machine.execCardDetail l tag card s
  | .freezeCard l tag card => Sys2Proof.Machine.execFreezeCard l tag card s
  | .unfreezeCard l tag card => Sys2Proof.Machine.execUnfreezeCard l tag card s
  | .closeCard l tag card => Sys2Proof.Machine.execCloseCard l tag card s
  | .holdDetail l tag slot => Sys2Proof.Machine.execHoldDetail l tag slot s
  | .grantPromo l tag card pool amount => Sys2Proof.Machine.execGrantPromo l tag card pool amount s
  | .definePool l tag pool cfg => Sys2Proof.Machine.execDefinePool l tag pool cfg s
  | .addBudget l tag pool amount => Sys2Proof.Machine.execAddBudget l tag pool amount s
  | .setPoolState l tag pool target => Sys2Proof.Machine.execSetPoolState l tag pool target s
  | .poolStatus l tag pool => Sys2Proof.Machine.execPoolStatus l tag pool s
  | .journalSeek l tag pos => Sys2Proof.Machine.execJournalSeek l tag pos s
  | .journalRead l tag count => Sys2Proof.Machine.execJournalRead l tag count s
  | .valueSummary l tag => Sys2Proof.Machine.execValueSummary l tag s
  | .defineShop l tag shop category account sched => Sys2Proof.Machine.execDefineShop l tag shop category account sched s
  | .stageSchedule l tag shop sched => Sys2Proof.Machine.execStageSchedule l tag shop sched s
  | .setShopState l tag shop target => Sys2Proof.Machine.execSetShopState l tag shop target s
  | .removeShop l tag shop => Sys2Proof.Machine.execRemoveShop l tag shop s
  | .shopPosition l tag shop selector => Sys2Proof.Machine.execShopPosition l tag shop selector s
  | .adjustCarry l tag shop amount ref => Sys2Proof.Machine.execAdjustCarry l tag shop amount ref s
  | .clearAttention l tag shop => Sys2Proof.Machine.execClearAttention l tag shop s
  | .setPayoutAccount l tag shop account => Sys2Proof.Machine.execSetPayoutAccount l tag shop account s
  | .closePeriod l tag => Sys2Proof.Machine.execClosePeriod l tag s
  | .setScheduler l tag mode interval => Sys2Proof.Machine.execSetScheduler l tag mode interval s
  | .periodStatus l tag => Sys2Proof.Machine.execPeriodStatus l tag s
  | .periodSummary l tag period => Sys2Proof.Machine.execPeriodSummary l tag period s
  | .setChannel l tag channel cfg => Sys2Proof.Machine.execSetChannel l tag channel cfg s
  | .startRun l tag channel => Sys2Proof.Machine.execStartRun l tag channel s
  | .payoutResult l tag channel serial outcome => Sys2Proof.Machine.execPayoutResult l tag channel serial outcome s
  | .suspendChannel l tag channel => Sys2Proof.Machine.execSuspendChannel l tag channel s
  | .resumeChannel l tag channel => Sys2Proof.Machine.execResumeChannel l tag channel s
  | .resetChannel l tag channel => Sys2Proof.Machine.execResetChannel l tag channel s
  | .channelStatus l tag channel => Sys2Proof.Machine.execChannelStatus l tag channel s
  | .setTime l tag clock => Sys2Proof.Machine.execSetTime l tag clock s
  | .setDay l tag day => Sys2Proof.Machine.execSetDay l tag day s
  | .setRollover l tag second => Sys2Proof.Machine.execSetRollover l tag second s
  | .setTrading l tag on => Sys2Proof.Machine.execSetTrading l tag on s
  | .advanceDay l tag => Sys2Proof.Machine.execAdvanceDay l tag s
  | .timeStatus l tag => Sys2Proof.Machine.execTimeStatus l tag s
  | .identify l tag => Sys2Proof.Machine.execIdentify l tag s
  | .partStatus l tag => Sys2Proof.Machine.execPartStatus l tag s
  | .enterConfig l tag => Sys2Proof.Machine.execEnterConfig l tag s
  | .openPart l tag => Sys2Proof.Machine.execOpenPart l tag s
  | .restart l tag => Sys2Proof.Machine.execRestart l tag s
  | .storeInitialise l tag => Sys2Proof.Machine.execStoreInitialise l tag s
  | .setRoute l tag sel => Sys2Proof.Machine.execSetRoute l tag sel s
  | .unknownRequest l tag kind payload => Sys2Proof.Machine.execUnknownRequest l tag kind payload s
  | .frameReceived l bytes => Sys2Proof.Machine.execFrameReceived l bytes s
  | .frameGapTimeout l => Sys2Proof.Machine.execFrameGapTimeout l s
  | .frameSent l => Sys2Proof.Machine.execFrameSent l s
  | .linkReset l => Sys2Proof.Machine.execLinkReset l s
  | .breakEnded l => Sys2Proof.Machine.execBreakEnded l s
  | .tick => Sys2Proof.Machine.execTick s
  | .holdExpiry slot => Sys2Proof.Machine.execHoldExpiry slot s
  | .confirmTimeout channel => Sys2Proof.Machine.execConfirmTimeout channel s
  | .intervalCountdownExpiry => Sys2Proof.Machine.execIntervalCountdownExpiry s
  | .dayRollover => Sys2Proof.Machine.execDayRollover s
  | .sweepVisit => Sys2Proof.Machine.execSweepVisit s
  | .sweepEnd => Sys2Proof.Machine.execSweepEnd s
  | .closeComputeStep => Sys2Proof.Machine.execCloseComputeStep s
  | .closeComputationEnd => Sys2Proof.Machine.execCloseComputationEnd s
  | .runWalkStep channel => Sys2Proof.Machine.execRunWalkStep channel s
  | .payoutOfferEntersQueue => Sys2Proof.Machine.execPayoutOfferEntersQueue s
  | .storeInitialiseComplete => Sys2Proof.Machine.execStoreInitialiseComplete s
  | .restartAfterDrain => Sys2Proof.Machine.execRestartAfterDrain s
  | .powerOn => Sys2Proof.Machine.execPowerOn s
  | .lossOfPower => Sys2Proof.Machine.execLossOfPower s

end Sys2Proof.Machine
end

