-- ==== Sys2Proof/Safety.lean ====
section
/-! DEFINITION. What claims about runs are stated in: when a request can be taken at once, the state with its reply placed, and the
bounds that every run keeps. -/

namespace Sys2Proof.Machine

/-! ## When a request is taken at once -/

/-- Nothing is due: no offer finds room, no timer has run out, no rollover raised by the tick and no restart waits (log 3). Reactions to a
rollover may wait (09 R164). -/
def quiet (s : State) : Bool :=
  (List.range Config.channelCount).all (fun n => !offerMayEnter s n && !timeoutDue (s.channel n)) && (expiredSlots s).isEmpty &&
    !intervalDue s && !s.time.rolloverDue && !drained s

/-- A request that arrives now on link `l` is taken at once (11 R185): the supply is on, nothing is due, the receive queue is empty, no
request is in progress, a transmit place is free, no break lasts and no RESTART drains. -/
def ready (l : Link) (s : State) : Bool :=
  s.power && quiet s && mayTake l s && (s.link l).rx.isEmpty && !(s.link l).inBreak

/-- The store is VALID and no STORE_INITIALISE is in flight (10 R172). -/
def storeValid (s : State) : Bool := s.ctrl.store = .valid && !s.ctrl.initInFlight

/-- The part trades: OPEN with a VALID store (10 R172). -/
def trades (s : State) : Bool := storeValid s && s.ctrl.mode = .opened

/-- 11 R185 to R187: the state with a reply placed at the tail of link `l`'s transmit queue, carrying the marks as they stand, which
are cleared; no request is in progress on the link. -/
def replied (l : Link) (kind tag : Nat) (a : Answer) (s : State) : State :=
  s.setLink l
    { s.link l with
      busy := none
      marks := clearMarks
      tx := (s.link l).tx ++ [.reply (replyKind kind) tag a.code (s.link l).marks a.payload] }

/-- The state with the request of a frame in progress on link `l` (11 R185). -/
def begun (l : Link) (kind tag : Nat) (s : State) : State :=
  s.setLink l { s.link l with busy := some { kind := kind, tag := tag, discard := false } }

/-! ## Frames of effects -/

/-- What no request that moves value changes: the waiting commands, the supply, Mode Control, the Time Base, the routing table, the
sweep, the Period Controller, the Settlement Arithmetic Unit, the channels and their serial counter. -/
def sameElsewhere (s t : State) : Prop :=
  t.pending = s.pending ∧ t.power = s.power ∧ t.ctrl = s.ctrl ∧ t.time = s.time ∧ t.routes = s.routes ∧ t.sweep = s.sweep ∧
    t.period = s.period ∧ t.sau = s.sau ∧ t.channels = s.channels ∧ t.serial = s.serial

/-- A frame is a notice. -/
def isNotice (f : TxFrame) : Bool :=
  match f with
  | .notice _ _ => true
  | .reply .. => false

/-- 11 R185 to R188: a request of link `l` answered after its action has given the notices `ns`, in their order and while the reply's place
is reserved: what stands on both links. -/
def repliedWith (l : Link) (kind tag : Nat) (a : Answer) (ns : List Notice) (s t : State) : Prop :=
  t.tLink = (replied l kind tag a (giveNotices ns (begun l kind tag s))).tLink ∧
    t.aLink = (replied l kind tag a (giveNotices ns (begun l kind tag s))).aLink

/-- 11 Result codes: OK, PARTIAL and CURSOR_LOST report a request carried out or a cursor moved; every other code is a refusal. -/
def isRefusal (r : Result) : Bool := r ≠ .ok && r ≠ .partialTaken && r ≠ .cursorLost

/-! ## Pieces of statements -/

/-- 01 R16: the bonus amount of a sale or reload, 0 where no pool is named. -/
def grantedAmount (s : State) (pool : Option Nat) (shop b : Nat) (c : Card) : Nat :=
  match pool with
  | some p => (bonusOf s p shop b c).amount
  | none => 0

/-- 01 R13: the promotional parts of the entry of a sale or reload with bonus `g`. -/
def grantedParts (s : State) (pool : Option Nat) (g : Nat) : List EntryPart :=
  match pool with
  | some p => if g = 0 then [] else [{ pool := p, amount := g, expiry := some (grantExpiry s p) }]
  | none => []

/-- 01 R13, R17: the bonus fields of the reply of a sale or reload. -/
def grantedFlds (s : State) (pool : Option Nat) (shop b : Nat) (c : Card) : List Fld :=
  match pool with
  | some p => bonusFlds s p (bonusOf s p shop b c)
  | none => noBonusFlds

/-- 05 R86: the fields that every entry carries, stamped at writing, and every other field absent. -/
def stamped (s : State) (k : EntryKind) (amount : Int) : Entry :=
  { seq := s.journal.next, kind := k, period := s.period.live, day := s.time.day, clock := s.time.clock, card := none,
    shop := none, ref := none, amount := amount, base := none, parts := [], original := none, target := none, forfeited := [],
    refunded := none, voided := none, swept := none }

/-- 06 R106: what a list of parts adds to the sponsor charge of shop `i`: the parts of the pools it funds. -/
def fundedSum (s : State) (i : Nat) (ps : List EntryPart) : Nat :=
  ((ps.filter (fun p => (s.pool p.pool).funder = some i)).map (fun p => p.amount)).sum

/-- The parts of a list that are of one pool, summed. -/
def poolSum (p : Nat) (ps : List EntryPart) : Nat := ((ps.filter (fun x => x.pool = p)).map (fun x => x.amount)).sum

/-- 06 R106, R107: a live position after the parts of an entry whose pools shop `i` funds, each charged (sign 1) or taken back (sign −1)
with its own clamp. -/
def sponsored (sign : Int) (s : State) (i : Nat) (ps : List EntryPart) (q : Position) : Position :=
  (ps.filter (fun p => (s.pool p.pool).funder = some i)).foldl (fun q p => post { sponsor := sign * p.amount } q) q

/-- 01 R7: some PLACED hold of a hold list has a part drawn from the bucket. -/
def referred (s : State) (rs : List HoldRef) (b : Bucket) : Prop :=
  ∃ r ∈ rs, ∃ h, (s.holdSlot r.slot).hold = some h ∧ ∃ p ∈ h.parts.promo, p.pool = b.pool ∧ p.expiry = b.expiry

/-- 01 R6: the amounts of a bucket list under a pool and an expiry day. -/
def amountAt (p d : Nat) (bs : List Bucket) : Nat := ((bs.filter (fun b => b.pool = p ∧ b.expiry = d)).map (fun b => b.amount)).sum

/-- The amounts of a list of parts under a pool and an expiry day. -/
def partsAt (p d : Nat) (ps : List PromoPart) : Nat :=
  ((ps.filter (fun x => x.pool = p ∧ x.expiry = d)).map (fun x => x.amount)).sum

/-- 02 R34: a part whose bucket is unusable on the business day: its expiry day has passed or its pool is CLOSED. -/
def unusable (s : State) (p : PromoPart) : Bool := p.expiry < s.time.day || (s.pool p.pool).state = .closed

/-- 02 R34: what the unusable ones of a list of parts bring to a pool's pending expiry. -/
def pendingFrom (s : State) (p : Nat) (ps : List PromoPart) : Nat :=
  ((ps.filter (fun x => unusable s x && x.pool = p)).map (fun x => x.amount)).sum

/-- 02 R25, R46: the PLACED holds of a card, in slot order. -/
def holdsOf (s : State) (id : Nat) : List Hold := (s.placedHolds.map (fun e => e.2)).filter (fun h => h.card = id)

/-- 04 R67, R71: a pool number of the part whose pool has been defined; a pool once defined is never EMPTY again. -/
def poolUsed (s : State) (p : Nat) : Bool := poolOk p && (s.pool p).state ≠ .empty

/-- 02 R25, 01 R7: a PLACED hold that hangs together with its card and its parts: the card is present, its hold list contains the hold's
reference and its bucket list the bucket of every part; the total is the sum of the parts, and the pools have been defined. -/
def soundHold (s : State) (n : Nat) (h : Hold) : Prop :=
  (∃ c, s.card? h.card = some c ∧ ⟨n, (s.holdSlot n).gen⟩ ∈ c.holds ∧
    h.parts.promo.all (fun p => hasBucket p.pool p.expiry c.buckets) = true) ∧
  h.total = splitTotal h.parts ∧ h.parts.promo.all (fun p => poolUsed s p.pool) = true

/-! ## Notices, as their rules state them -/

/-- 04 R83: the POOL_LOW condition: OPEN, and the available value below the low threshold. -/
def isLow (p : Pool) : Bool := p.state = .opened && p.budget + p.ungranted + p.recycled - p.granted < p.low

/-- 04 R83: POOL_LOW of a pool: its number, its available value and its low threshold. -/
def lowNotice (s : State) (p : Nat) : Notice :=
  { cls := .poolLow, payload := [.u8 p, .u64 (available (s.pool p)), .u64 (s.pool p).low] }

/-- 04 R83: POOL_LOW for every pool whose condition an action from `s` to `t` has brought to hold. -/
def lowNotices (s t : State) : List Notice :=
  ((List.range 16).filter (fun p => isLow (t.pool p) && !isLow (s.pool p))).map (lowNotice t)

/-- 05 R92: JOURNAL_RESERVE: the writable count, the number and period of the oldest entry that is not releasable, the released period,
the live period number. -/
def journalReserveNotice (s : State) : Notice :=
  let e := s.journal.entries.find? (fun e => s.journal.released < e.period)
  { cls := .journalReserve
    payload := [.u32 (writable s.journal), .u32 ((e.map (fun e => e.seq)).getD 0), .u32 ((e.map (fun e => e.period)).getD 0),
                .u32 s.journal.released, .u32 s.period.live] }

/-- 05 R92: JOURNAL_RESERVE where an action from `s` to `t` has brought the writable count to 64 or fewer. -/
def reserveNotices (s t : State) : List Notice :=
  if writable t.journal ≤ 64 ∧ 64 < writable s.journal then [journalReserveNotice t] else []

/-- 05 R87, R92, 04 R83: the notices of an action from `s` to `t` that writes an entry (their order: log 15). -/
def entryNotices (s t : State) : List Notice := lowNotices s t ++ reserveNotices s t

/-- 07 R134, R137: the number of roster records in a payout state. -/
def rosterCount (s : State) (x : PayoutState) : Nat := s.period.roster.countP (fun i => (s.shop i).payout.state = x)

/-- 07 R135: the total amount of the roster records in a payout state. -/
def rosterTotal (s : State) (x : PayoutState) : Nat :=
  ((s.period.roster.filter (fun i => (s.shop i).payout.state = x)).map (fun i => (s.shop i).payout.amount)).sum

/-- 07 R138: the carry a shop takes at the release. -/
def releasedCarry (x : Shop) : Int :=
  match x.payout.state with
  | .failed => x.result.newCarry + x.payout.amount
  | .deferred => x.result.newCarry + x.payout.amount
  | .held => x.result.net
  | _ => x.result.newCarry

/-- 07 R138: the number of journal entries that the release makes releasable. -/
def madeReleasable (s : State) : Nat :=
  s.journal.entries.countP (fun e => s.journal.released < e.period && e.period ≤ s.period.closing)

/-- 01 R5: the number of cards that the release purges. -/
def purgedCards (s : State) : Nat :=
  s.cards.countP (fun e => e.2.state = .closed && e.2.closedPeriod.any (fun n => n < s.period.closing))

/-- 07 R138: PERIOD_RELEASED: the period number, the counts and amounts of PAID, FAILED, DEFERRED and HELD records, the entries made
releasable, the cards purged (log 36). -/
def periodReleased (s : State) : Notice :=
  { cls := .periodReleased
    payload := [.u32 s.period.closing, .u32 (rosterCount s .paid), .u64 (rosterTotal s .paid), .u32 (rosterCount s .failed),
                .u64 (rosterTotal s .failed), .u32 (rosterCount s .deferred), .u64 (rosterTotal s .deferred),
                .u32 (rosterCount s .held), .u64 (rosterTotal s .held), .u32 (madeReleasable s), .u32 (purgedCards s)] }

/-- 08 R150: RUN_DONE of a channel: channel, period, its run totals, and the number of UNCERTAIN records in its range. -/
def runDone (s : State) (n : Nat) : Notice :=
  let t := (s.channel n).totals
  { cls := .runDone
    payload := [.u8 n, .u32 s.period.closing, .u32 t.paidCount, .u64 t.paidAmount, .u32 t.failedCount, .u64 t.failedAmount,
                .u32 t.deferredCount, .u64 t.deferredAmount,
                .u32 (s.shops.countP (fun e => inRange e.1 (s.channel n).range && e.2.payout.state = .uncertain))] }

/-- 07 R137, R138: what an action leaves that tests the release condition: the release, and PERIOD_RELEASED after it, where the condition
holds. -/
def tested (s : State) : State := if releaseHolds s then giveNotice (periodReleased s) (release s) else s

/-- 07 R137, 08 R152: the same for a request, whose reply comes after the release and before PERIOD_RELEASED (log 16). -/
def repliedTested (l : Link) (kind tag : Nat) (a : Answer) (s : State) : State :=
  if releaseHolds s then giveNotice (periodReleased s) (replied l kind tag a (release (begun l kind tag s)))
  else replied l kind tag a s

/-! ## Value -/

/-- 05 R95: the sum of all card base balances and bucket amounts, plus all PLACED hold parts, plus the pending expiry of all pools. -/
def valueInHands (s : State) : Nat :=
  (s.cards.map (fun e => e.2.base + bucketSum e.2.buckets)).sum + allHeld s + allPending s

/-- 05 R95: how far the journal's outstanding value is from the value in hands, counted as the counters are (log 12); 0 in every state
of a run. -/
def surplus (s : State) : BitVec 64 := outstandingValue s.journal.counters - BitVec.ofNat 64 (valueInHands s)

/-! ## Commands by kind -/

/-- The commands that are requests a frame can spell. -/
def isRequest (i : Instr) : Bool :=
  match i with
  | .unknownRequest .. => false
  | .frameReceived .. | .frameGapTimeout .. | .frameSent .. | .linkReset .. | .breakEnded .. | .tick | .holdExpiry ..
  | .confirmTimeout .. | .intervalCountdownExpiry | .dayRollover | .sweepVisit | .sweepEnd | .closeComputeStep
  | .closeComputationEnd | .runWalkStep .. | .payoutOfferEntersQueue | .storeInitialiseComplete | .restartAfterDrain | .powerOn
  | .lossOfPower => false
  | _ => true

/-! ## Bounds that every run keeps -/

/-- The sparse tables have their form: numbers strictly rising, no record equal to the value of an unlisted one. -/
def tablesFormed (s : State) : Prop :=
  tableRising s.cards = true ∧ tableCanonical freeHoldSlot s.holds = true ∧ tableCanonical emptyPool s.pools = true ∧
    tableCanonical unusedShop s.shops = true ∧ tableCanonical idleChannel s.channels = true

/-- 06 R105: every money field within the position limit, the count within its limit. -/
def positionBounded (p : Position) : Bool :=
  withinLimit p.sold && withinLimit p.voided && withinLimit p.redeemedBase && withinLimit p.redeemedPromo &&
    withinLimit p.refundedBase && withinLimit p.refundedPromo && withinLimit p.sponsor && decide (p.count ≤ Config.countLimit)

/-- 06 R105, R107: the live and closing positions of every shop are bounded. -/
def positionsBounded (s : State) : Prop :=
  ∀ i, positionBounded (s.shop i).live = true ∧ positionBounded (s.shop i).closing = true

/-- 11 R184, R186: a receive queue holds at most 8 frames; the frames and the reserved place of a transmit queue are at most 16. -/
def linkBounded (k : LinkState) : Bool :=
  decide (k.rx.length ≤ Config.rxPlaces) && decide (k.tx.length + (if k.busy.isSome then 1 else 0) ≤ Config.txPlaces)

/-- Both links are bounded. -/
def linksBounded (s : State) : Prop := linkBounded s.tLink = true ∧ linkBounded s.aLink = true

/-- 05 R86, R89, R93: the journal has at most 65,536 entries, its write position is a slot, its next sequence number is one, its wrap
count has 32 bits. -/
def journalBounded (s : State) : Prop :=
  s.journal.entries.length ≤ Config.journalSlots ∧ s.journal.writePos < Config.journalSlots ∧
    1 ≤ s.journal.next ∧ s.journal.next ≤ Config.topNumber ∧ s.journal.wraps < 2 ^ 32

/-- 09 R162: the clock, the business day and the rollover second are within their ranges. -/
def timeBounded (s : State) : Prop := s.time.clock < 2 ^ 32 ∧ s.time.day ≤ 65535 ∧ s.time.rolloverSecond < Config.daySeconds

/-- 07 R120, 08 R142: at most 8 summaries are held; the serial counter is within its range. -/
def countersBounded (s : State) : Prop := s.period.summaries.length ≤ 8 ∧ s.serial ≤ Config.topNumber

/-- 10 R172: OPEN only with a VALID store, CONFIG while the store is emptied. -/
def modeLegal (s : State) : Prop :=
  (s.ctrl.mode = .opened → s.ctrl.store = .valid) ∧ (s.ctrl.initInFlight = true → s.ctrl.store = .blank)

/-- 07 R123: a close waits only while the closing record is busy. -/
def pendingCloseBusy (s : State) : Prop := s.period.closePending.isSome = true → s.period.state ≠ .released

/-- 01 R6: a bucket list in order: expiry day ascending, then pool number, no two buckets alike, at most four. -/
def bucketsOrdered (bs : List Bucket) : Prop :=
  bs.Pairwise (fun a b => a.expiry < b.expiry ∨ (a.expiry = b.expiry ∧ a.pool < b.pool)) ∧ bs.length ≤ Config.bucketLimit

/-- Every card's bucket list is in order. -/
def cardsOrdered (s : State) : Prop := ∀ e ∈ s.cards, bucketsOrdered e.2.buckets

/-- 02 R25: every PLACED hold hangs together with its card. -/
def holdsSound (s : State) : Prop := ∀ n h, (s.holdSlot n).hold = some h → soundHold s n h

/-- 05 R85: defined pools in every part, at most one part in a SALE or RELOAD; 01 R1: defined pools in every bucket; 04 R67: no pending
expiry in an EMPTY pool. -/
def partsSound (s : State) : Prop :=
  (∀ e ∈ s.journal.entries, e.parts.all (fun p => poolUsed s p.pool) = true ∧
    ((e.kind = .sale ∨ e.kind = .reload) → e.parts.length ≤ 1)) ∧
  (∀ e ∈ s.cards, e.2.buckets.all (fun b => poolUsed s b.pool) = true) ∧
  ∀ e ∈ s.pools, e.2.state = .empty → e.2.pending = 0

/-- 05 R86, R89, R90: the period numbers of the present entries never fall, none is above the live period's, and the released period is
below the live one. -/
def journalOrdered (s : State) : Prop :=
  s.journal.entries.Pairwise (fun a b => a.period ≤ b.period) ∧ (∀ e ∈ s.journal.entries, e.period ≤ s.period.live) ∧
    s.journal.released < s.period.live

/-- The same, and the closing period is below the live one. -/
def periodsOrdered (s : State) : Prop := journalOrdered s ∧ s.period.closing < s.period.live

/-- 02 R25, 01 R4, R21: a CLOSED card holds no value and has no hold. -/
def closedEmpty (s : State) : Prop :=
  ∀ e ∈ s.cards, e.2.state = .closed → e.2.base = 0 ∧ bucketSum e.2.buckets = 0 ∧ e.2.holds = []

/-- What conservation rests on: the tables' form, the order of the bucket lists, sound holds and parts, empty CLOSED cards. -/
def valueSound (s : State) : Prop := tablesFormed s ∧ cardsOrdered s ∧ holdsSound s ∧ partsSound s ∧ closedEmpty s

/-- Every waiting command is well formed: its fields fit their wire widths (11 R183). -/
def queueFormed (s : State) : Prop := ∀ c ∈ s.pending, c.wf = true

end Sys2Proof.Machine
end

