-- ==== Sys2Proof/Certificates/Slice0/Obligations.lean ====
section
/-! DEFINITION. The statements about the part that are to be proved, in the order of OBLIGATIONS.json. -/

open Sys2Proof Sys2Proof.Machine

/-! ## Steps, reset and invariants -/

/-- A step carries out the command at the front of the queue with the queue's rest; on an empty queue the part idles (log 4).
(The queue and the idle step are the model's (log 4).) -/
def Obligations.StepRunsFrontCommand : Prop :=
  (∀ (c : Instr) (rest : List Instr) (s : State), step (s.withPending (c :: rest)) = exec c (s.withPending rest)) ∧
    ∀ s : State, s.pending = [] → step s = .next s

/-- Every command leads to a next state and leaves the queue of waiting commands as it is: the part answers every failed check
with a result code (95, logs 5, 6). (That an event whose condition does not hold, or that meets an unpowered part, has no effect
is the model's choice (logs 5, 6).) -/
def Obligations.EveryCommandAnswersNext : Prop := ∀ (c : Instr) (s : State), ∃ t, exec c s = .next t ∧ t.pending = s.pending

/-- What the reset rows give the blocks of a part whose store holds no format mark (log 1 says that reset is that power-on); and
every invariant stated below holds at reset. (That reset is a power-on with a blank store is the model's choice (log 1). The model's
choice too, and given by no reset row, are the receivers that hunt for sync on a line without a break (log 24), that no rollover
raised by the tick waits (log 3), and that no reaction to one does (log 29).) -/
def Obligations.ResetLeavesBlocksInitialised : Prop :=
  (State.reset.cards = [] ∧ (∀ n, State.reset.holdSlot n = { gen := 0, lastEnd := .released, hold := none }) ∧
    (∀ p, (State.reset.pool p).state = .empty) ∧ State.reset.sweep.inFlight = false ∧ State.reset.journal.entries = [] ∧
    State.reset.journal.next = 1 ∧ State.reset.journal.released = 0 ∧ writable State.reset.journal = 65536 ∧
    (∀ i, (State.reset.shop i).state = .unused ∧ (State.reset.shop i).schedule.lifetime = 900) ∧ State.reset.period.live = 1 ∧
    State.reset.period.closing = 0 ∧ State.reset.period.state = .released ∧ State.reset.period.interval = 240 ∧
    (∀ n, (State.reset.channel n).state = .idle ∧ (State.reset.channel n).timeout = 120) ∧ State.reset.serial = 0 ∧
    State.reset.time = { clock := 0, timeSet := false, day := 0, rolloverSecond := 14400, trading := false, rolloverDue := false,
                             handed := [], turn := State.reset.time.turn } ∧
    State.reset.ctrl.mode = .config ∧ State.reset.ctrl.store = .blank ∧ State.reset.ctrl.lastRestart = .powerOn ∧
    State.reset.routes = defaultRoutes ∧ State.reset.tLink = idleLink ∧ State.reset.aLink = idleLink ∧
    surplus State.reset = 0) ∧
  (tablesFormed State.reset ∧ positionsBounded State.reset ∧ linksBounded State.reset ∧ journalBounded State.reset ∧
    timeBounded State.reset ∧ countersBounded State.reset ∧ modeLegal State.reset ∧ pendingCloseBusy State.reset ∧
    cardsOrdered State.reset ∧ holdsSound State.reset ∧ partsSound State.reset ∧ closedEmpty State.reset ∧
    periodsOrdered State.reset ∧ queueFormed State.reset)

/-- At every step: the sparse tables keep their form; every card's bucket list keeps its order with no two buckets alike and at most
four (01 R6); and every PLACED hold keeps its card, its reference in the card's hold list and its parts' buckets (02 R25, 01 R7), every
part its pool, every CLOSED card its emptiness (01 R4, R21). (The sparse form of the tables is the model's own.) -/
def Obligations.TablesAndBucketsStayOrdered : Prop :=
  (∀ s t : State, tablesFormed s → step s = .next t → tablesFormed t) ∧
  (∀ s t : State, cardsOrdered s → step s = .next t → cardsOrdered t) ∧
  (∀ s t : State, valueSound s → step s = .next t → valueSound t)

/-- 06 R105, R107: positions stay within their limits at every step. -/
def Obligations.PositionsStayBounded : Prop := ∀ s t : State, positionsBounded s → step s = .next t → positionsBounded t

/-- 11 R184, R186: a receive queue never passes 8 frames, nor a transmit queue with its reserved place 16, at any step. -/
def Obligations.LinksStayBounded : Prop := ∀ s t : State, linksBounded s → step s = .next t → linksBounded t

/-- At every step: the journal's ring and registers (05 R86, R89, R93), the clock, day and rollover second (09 R162), the summaries and
the serial counter (07 R120, 08 R142) stay in range; OPEN only with a VALID store (10 R172); a close waits only while the closing
record is busy (07 R123); the period numbers of the entries never fall, none is above the live period, and the released and the closing
period stay below the live one (05 R86, R90, 07 R120). (The number after the highest live number is log 11.) -/
def Obligations.RegistersStayInRange : Prop :=
  (∀ s t : State, journalBounded s → step s = .next t → journalBounded t) ∧
  (∀ s t : State, timeBounded s → queueFormed s → step s = .next t → timeBounded t ∧ queueFormed t) ∧
  (∀ s t : State, countersBounded s → step s = .next t → countersBounded t) ∧
  (∀ s t : State, modeLegal s → step s = .next t → modeLegal t) ∧
  (∀ s t : State, pendingCloseBusy s → step s = .next t → pendingCloseBusy t) ∧
  (∀ s t : State, periodsOrdered s → s.period.live + 2 ≤ 4294967295 → step s = .next t → periodsOrdered t)

/-- 05 R95: at every step the outstanding value stays equal to the value in hands; and no command but the completion of
STORE_INITIALISE and a power-on changes their difference, whatever else is due and acts before it. (Both sides are counted modulo
2^64, as the counters of R94 are: log 12.) -/
def Obligations.ValueIsConserved : Prop :=
  (∀ s t : State, valueSound s → surplus s = 0 → step s = .next t → surplus t = 0) ∧
  (∀ (c : Instr) (s t : State), valueSound s → c ≠ .storeInitialiseComplete → c ≠ .powerOn → exec c s = .next t →
    surplus t = surplus s)

/-- 05 R89, R91: no entry whose period has not been released is overwritten: with nothing else due, every command but the completion of
STORE_INITIALISE and a power-on leaves each such entry present, with its stamp, kind and amount. -/
def Obligations.UnreleasedEntriesSurvive : Prop :=
  ∀ (c : Instr) (s t : State), quiet s = true → journalBounded s → journalOrdered s → c ≠ .storeInitialiseComplete → c ≠ .powerOn →
    exec c s = .next t → ∀ e ∈ s.journal.entries, releasable s.journal e = false →
      ∃ e' ∈ t.journal.entries, e'.seq = e.seq ∧ e'.kind = e.kind ∧ e'.period = e.period ∧ e'.day = e.day ∧ e'.clock = e.clock ∧
        e'.amount = e.amount ∧ e'.parts = e.parts

/-! ## Links -/

/-- 11 R185, R187, Result codes: a request that arrives on a ready link is answered on that link under its kind and tag: its reply joins
the transmit queue, with notices of its action before and after it, and carries the link's overrun and frame-error marks; and one that
is refused has changed nothing. STORE_INITIALISE, answered at its completion, is apart. -/
def Obligations.RequestIsAnsweredOrRefused : Prop :=
  ∀ (i : Instr) (s : State), isRequest i = true → i ≠ .storeInitialise (requestLink i) (requestFrame i).tag →
    ready (requestLink i) s = true →
    let l := requestLink i
    ∃ (t : State) (a : Answer) (ns ms : List TxFrame) (m : Marks), exec i s = .next t ∧
      ns.all isNotice = true ∧ ms.all isNotice = true ∧ (t.link l).busy = none ∧
      (t.link l).tx =
        (s.link l).tx ++ ns ++ [.reply (replyKind (requestFrame i).kind) (requestFrame i).tag a.code m a.payload] ++ ms ∧
      m.overrun = (s.link l).marks.overrun ∧ m.frameError = (s.link l).marks.frameError ∧
      (isRefusal a.code = true → t = replied l (requestFrame i).kind (requestFrame i).tag a s)

/-- 11 R184, R185: a request that cannot be taken waits at the tail of its link's receive queue, or, where 8 frames wait, is
discarded with the overrun mark set; behind another frame it waits too; at the head it is taken, and does what it does on
arriving at the link with an empty queue, the frames behind it staying in the queue unless it is a RESTART, which discards them.
(One command stands both for a request's arrival and for its taking (log 2).) -/
def Obligations.RequestsWaitAndAreTakenInOrder : Prop :=
  (∀ (i : Instr) (s : State), isRequest i = true → s.power = true → quiet s = true → mayTake (requestLink i) s = false →
    (s.link (requestLink i)).inBreak = false →
    exec i s = .next (s.setLink (requestLink i)
      (let k := s.link (requestLink i)
       if k.rx.length < 8 then { k with rx := k.rx ++ [requestFrame i] }
       else { k with marks := { k.marks with overrun := true } }))) ∧
  (∀ (i : Instr) (s : State) (f : RxFrame) (fs : List RxFrame), isRequest i = true → s.power = true → quiet s = true →
    mayTake (requestLink i) s = true → (s.link (requestLink i)).rx = f :: fs →
    (decodeRequest (requestLink i) f ≠ i → (s.link (requestLink i)).inBreak = false → (f :: fs).length < 8 →
      exec i s = .next (s.setLink (requestLink i)
        { s.link (requestLink i) with rx := f :: fs ++ [requestFrame i] })) ∧
    (decodeRequest (requestLink i) f = i →
      let l := requestLink i
      ∃ t, exec i (s.setLink l { s.link l with rx := [], inBreak := false }) = .next t ∧
        exec i s = .next (t.setLink l
          { t.link l with rx := if t.ctrl.draining then [] else fs, inBreak := (s.link l).inBreak })))

/-- 11 Frame envelope, Field encodings, Kind codes: every well-formed request is read back from its frame, every field at every
value. (The wire choices of logs 7, 8, 32, 42 and 45 are the model's.) -/
def Obligations.RequestsReadBackAsSent : Prop :=
  ∀ i : Instr, isRequest i = true → i.wf = true → decodeRequest (requestLink i) (requestFrame i) = i

/-- 11 R183, R184: the bytes of a frame of at most 240 payload bytes, arriving at a receiver that hunts, put exactly that frame
into the receive queue. (That the bytes arrive as one event is the model's choice (log 24).) -/
def Obligations.SentFrameIsReceived : Prop :=
  ∀ (l : Link) (f : RxFrame) (s : State), s.power = true → (s.link l).partialRx = [] → (s.link l).inBreak = false →
    f.kind < 256 → f.tag < 65536 → f.payload.length ≤ 240 →
    exec (.frameReceived l (rxBytes f)) s = .next (s.setLink l
      (let k := s.link l
       if k.rx.length < 8 then { k with rx := k.rx ++ [f] } else { k with marks := { k.marks with overrun := true } }))

/-- 11 R183, R186, R190: the CRC of the nine digits; the receiver hunts for sync and refuses a length outside 3..243; a gap ends
a frame in progress with the frame-error mark; a sent frame leaves the transmit queue; a break resets the link once, condemning
the reply of a request in progress, however long it lasts; while it lasts nothing is sent; the line comes back. 11 R189: the
waiting offers for which a sent frame or a reset has made room enter in the same action (which ones, and how:
OffersAreMadeAndQueued). (Receiver and line events are logs 24 and 26.) -/
def Obligations.LinkEventsActOnTheirLink : Prop :=
  (crc [0x31#8, 0x32#8, 0x33#8, 0x34#8, 0x35#8, 0x36#8, 0x37#8, 0x38#8, 0x39#8] = 0x29B1#16 ∧
    (∀ b : Byte, receiveByte [syncByte] b = (if 3 ≤ b.toNat && b.toNat ≤ 243 then .collecting [syncByte, b] else .error)) ∧
    ∀ b : Byte, receiveByte [] b = (if b = 0xA5#8 then .collecting [b] else .collecting [])) ∧
  (∀ (l : Link) (s : State), s.power = true →
    exec (.frameGapTimeout l) s = .next (if (s.link l).partialRx.isEmpty || (s.link l).inBreak then s.setLink l (s.link l)
      else s.setLink l { s.link l with partialRx := [], marks := { (s.link l).marks with frameError := true } }) ∧
    exec (.breakEnded l) s = .next (s.setLink l { s.link l with inBreak := false }) ∧
    (quiet s = true → (s.link l).inBreak = false →
      exec (.frameSent l) s = .next (enterOffers (s.setLink l { s.link l with tx := (s.link l).tx.tail })) ∧
      exec (.linkReset l) s = .next (enterOffers (s.setLink l
        { rx := [], partialRx := [], tx := [], busy := (s.link l).busy.map (fun p => { p with discard := true }),
          marks := clearMarks, cursor := .oldest, inBreak := true }))) ∧
    (quiet s = true → (s.link l).inBreak = true → exec (.linkReset l) s = .next s ∧ exec (.frameSent l) s = .next s))

/-- 11 R186 to R188: a notice enters a transmit queue with at least 2 free places, and is dropped with the notice-lost mark set otherwise,
by the route of its class, each link for itself. -/
def Obligations.NoticesKeepTheLastPlace : Prop :=
  ∀ (n : Notice) (s : State), s.ctrl.draining = false →
    let enter := fun (k : LinkState) =>
      if 2 ≤ 16 - k.tx.length - (if k.busy.isSome then 1 else 0) then
        { k with tx := k.tx ++ [.notice (noticeCode n.cls) n.payload] }
      else { k with marks := { k.marks with noticeLost := true } }
    let r := routeFor s.routes n.cls
    (giveNotice n s).tLink = (if r = .tLink ∨ r = .both then enter s.tLink else s.tLink) ∧
      (giveNotice n s).aLink = (if r = .aLink ∨ r = .both then enter s.aLink else s.aLink) ∧
      giveNotice n s = { s with tLink := (giveNotice n s).tLink, aLink := (giveNotice n s).aLink }

/-! ## Cards -/

/-- 01 R12, R13: a sale that passes its checks creates the card in the lowest free slot, credits the bonus, writes one SALE entry, posts
"sold" to the shop and the bonus to the pool, gives POOL_LOW and JOURNAL_RESERVE where it has brought them to hold (04 R83, 05 R92),
and is answered. (The order of the two notices is log 15; how the bonus fields travel is log 8.) -/
def Obligations.SaleCreatesTheCard : Prop :=
  ∀ (l : Link) (tag id shop amount : Nat) (reload : Bool) (pool : Option Nat) (ref : Nat) (s : State),
    ready l s = true → trades s = true → cardIdOk id = true → shopOk shop = true → amountOk amount = true →
    pool.all poolOk = true → (s.shop shop).state = .trading → s.card? id = none → s.cards.length < 262144 →
    64 < writable s.journal →
    let plain : Card := {
      slot := s.freeCardSlot, state := .active, reloadable := reload, base := amount, buckets := [], holds := [],
      issuer := shop, saleDay := s.time.day, closedPeriod := none }
    let g := grantedAmount s pool shop amount plain
    ∃ t, exec (.sellCard l tag id shop amount reload pool ref) s = .next t ∧
      t.cards = tablePut id { plain with
        buckets := if g = 0 then [] else [⟨pool.getD 0, grantExpiry s (pool.getD 0), g⟩] } s.cards ∧
      t.holds = s.holds ∧
      t.journal = pushEntry { stamped s .sale amount with
        card := some id, shop := some shop, ref := some ref, base := some (amount : Int), parts := grantedParts s pool g,
        voided := some false } s.journal ∧
      (∀ i, t.shop i = if i = shop then { s.shop i with live := post { sold := amount } (s.shop i).live } else s.shop i) ∧
      (∀ p, t.pool p = if some p = pool then { s.pool p with granted := (s.pool p).granted + g } else s.pool p) ∧
      sameElsewhere s t ∧
      repliedWith l 0x10 tag ⟨.ok, [Fld.u32 s.journal.next, .u32 amount, .u32 (amount + g)] ++ grantedFlds s pool shop amount plain⟩
        (entryNotices s t) s t

/-- 01 R14: a reload that passes its checks adds the amount to the base balance, credits the bonus, writes one RELOAD entry, posts "sold"
and the bonus, gives POOL_LOW and JOURNAL_RESERVE where it has brought them to hold, and is answered. (The order of the two notices is
log 15; how the bonus fields travel is log 8.) -/
def Obligations.ReloadAddsToTheBase : Prop :=
  ∀ (l : Link) (tag id shop amount : Nat) (pool : Option Nat) (ref : Nat) (c : Card) (s : State),
    ready l s = true → trades s = true → cardIdOk id = true → shopOk shop = true → amountOk amount = true →
    pool.all poolOk = true → (s.shop shop).state = .trading → s.card? id = some c → c.state = .active → c.reloadable = true →
    cardValue s c + amount ≤ 5000000 → 64 < writable s.journal →
    let more : Card := { c with base := c.base + amount }
    let g := grantedAmount s pool shop amount more
    let c1 : Card := { more with
      buckets := if g = 0 then c.buckets
        else (credit (pool.getD 0) (grantExpiry s (pool.getD 0)) g c.buckets).getD c.buckets }
    ∃ t, exec (.reloadCard l tag id shop amount pool ref) s = .next t ∧
      t.cards = tablePut id c1 s.cards ∧
      t.holds = s.holds ∧
      t.journal = pushEntry { stamped s .reload amount with
        card := some id, shop := some shop, ref := some ref, base := some (amount : Int), parts := grantedParts s pool g,
        voided := some false } s.journal ∧
      (∀ i, t.shop i = if i = shop then { s.shop i with live := post { sold := amount } (s.shop i).live } else s.shop i) ∧
      (∀ p, t.pool p = if some p = pool then { s.pool p with granted := (s.pool p).granted + g } else s.pool p) ∧
      sameElsewhere s t ∧
      repliedWith l 0x11 tag
        ⟨.ok, [Fld.u32 s.journal.next, .u32 (c.base + amount), .u32 (cardValue s c1)] ++
          grantedFlds s pool shop amount more⟩ (entryNotices s t) s t

/-- 01 R16, R17: the bonus of an OPEN pool is the smallest of the limits that apply, and the reason is FULL where it is the computed bonus
and else the first limit that gives it; a pool that is not OPEN grants 0 with reason POOL_STATE. -/
def Obligations.BonusIsTheSmallestLimit : Prop :=
  ∀ (s : State) (p shop b : Nat) (c : Card),
    let q := s.pool p
    let g := bonusOf s p shop b c
    let noPlace := c.buckets.all (fun x => !(x.pool == p && x.expiry == grantExpiry s p)) = true ∧ 4 ≤ c.buckets.length
    let barred := maskHas q.mask (s.shop shop).category = false
    (q.state ≠ .opened → g = ⟨0, 6⟩) ∧
    (q.state = .opened →
      g.amount ≤ b * q.rate / 10000 ∧ g.amount ≤ q.cap ∧ g.amount ≤ available q ∧ g.amount ≤ 5000000 - cardValue s c ∧
      (noPlace ∨ barred → g.amount = 0) ∧
      (¬noPlace → ¬barred →
        g.amount = min (min (min (b * q.rate / 10000) q.cap) (available q)) (5000000 - cardValue s c)) ∧
      g.reason =
        if g.amount = b * q.rate / 10000 then 0
        else if g.amount = q.cap then 1
        else if g.amount = available q then 2
        else if g.amount = 5000000 - cardValue s c then 3
        else if c.buckets.all (fun x => !(x.pool == p && x.expiry == grantExpiry s p)) && 4 ≤ c.buckets.length then 4 else 5)

/-- 01 R18, R19, 02 R44: BALANCE, CARD_DETAIL and HOLD_DETAIL answer with the record, field by field, and change nothing. (How the hold
of a PLACED slot and its base part travel is logs 8 and 30.) -/
def Obligations.CardAndHoldReadsChangeNothing : Prop :=
  let cardCode := fun x : CardState => [CardState.active, .frozen, .closed].idxOf x
  let status := fun (s : State) (p d : Nat) => if d < s.time.day then 1 else if (s.pool p).state = .closed then 2 else 0
  let atShop := fun (s : State) (shop : Option Nat) (p d : Nat) =>
    if status s p d = 0 ∧ shop.any (fun i => !(s.pool p).mask.getLsbD (s.shop i).category) = true then 3 else status s p d
  let bucketsOf := fun (s : State) (shop : Option Nat) (c : Card) =>
    listFlds (c.buckets.map (fun b => [Fld.u8 b.pool, .u32 b.amount, .u16 b.expiry, .u8 (atShop s shop b.pool b.expiry)]))
  (∀ (l : Link) (tag id : Nat) (shop : Option Nat) (c : Card) (s : State), ready l s = true → storeValid s = true →
    cardIdOk id = true → s.card? id = some c → (∀ i, shop = some i → shopOk i = true ∧ (s.shop i).state ≠ .unused) →
    exec (.balance l tag id shop) s = .next (replied l 0x12 tag
      ⟨.ok, [Fld.u8 (cardCode c.state), .u32 c.base, .u32 (heldTotal s c)] ++ bucketsOf s shop c ++
        optFld .u32 (shop.map (fun i => spendable s i c))⟩ s)) ∧
  (∀ (tag id : Nat) (c : Card) (s : State), ready .a s = true → storeValid s = true → cardIdOk id = true → s.card? id = some c →
    exec (.cardDetail .a tag id) s = .next (replied .a 0x20 tag
      ⟨.ok, [Fld.u8 (cardCode c.state), .flag c.reloadable, .u32 c.base] ++ bucketsOf s none c ++
        listFlds (c.holds.map (fun r => [Fld.u16 r.slot, .u16 r.gen])) ++ [Fld.u16 c.issuer, .u16 c.saleDay] ++
        optFld .u32 c.closedPeriod ++ [Fld.u32 (cardValue s c), .u32 c.slot]⟩ s)) ∧
  ∀ (tag n : Nat) (s : State), ready .a s = true → storeValid s = true → n < 1024 →
    let x := s.holdSlot n
    exec (.holdDetail .a tag n) s = .next (replied .a 0x24 tag
      ⟨.ok, [Fld.u8 (if x.hold.isSome then 1 else 0), .u16 x.gen,
             .u8 ([LastEnd.captured, .released, .expired, .restart].idxOf x.lastEnd)] ++
        (match x.hold with
          | none => [Fld.flag false]
          | some h =>
            [Fld.flag true, .u64 h.card, .u16 h.shop, .u32 h.total] ++
              listFlds (h.parts.promo.map (fun p => [Fld.u8 p.pool, .u16 p.expiry, .u32 p.amount, .u8 (status s p.pool p.expiry)])) ++
              [Fld.u32 h.parts.base, .u16 h.remaining, .u8 h.extensions, .u32 h.ref])⟩ s)

/-- 01 R20, R21: freezing makes an ACTIVE or FROZEN card FROZEN, unfreezing makes it ACTIVE; CLOSE_CARD closes an empty card with the live
period as its closed period, and refuses one with value or holds; nothing else changes. -/
def Obligations.CardStateRequestsSetTheState : Prop :=
  (∀ (tag id : Nat) (c : Card) (s : State), ready .a s = true → storeValid s = true → cardIdOk id = true → s.card? id = some c →
    c.state ≠ .closed →
    exec (.freezeCard .a tag id) s =
      .next (replied .a 0x21 tag ⟨.ok, [Fld.u8 1]⟩ { s with cards := tablePut id { c with state := .frozen } s.cards }) ∧
    exec (.unfreezeCard .a tag id) s =
      .next (replied .a 0x22 tag ⟨.ok, [Fld.u8 0]⟩ { s with cards := tablePut id { c with state := .active } s.cards })) ∧
  (∀ (tag id : Nat) (c : Card) (s : State), ready .a s = true → storeValid s = true → cardIdOk id = true → s.card? id = some c →
    c.state ≠ .closed →
    exec (.closeCard .a tag id) s = .next
      (if cardValue s c = 0 ∧ c.holds = [] then
        replied .a 0x23 tag ⟨.ok, [Fld.u32 s.period.live]⟩
          { s with cards := tablePut id { c with state := .closed, closedPeriod := some s.period.live } s.cards }
      else replied .a 0x23 tag ⟨.notEmpty, [Fld.u32 (cardValue s c), .u32 c.holds.length]⟩ s))

/-! ## Redemption and holds -/

/-- 01 R10, R11: the split of an amount the card can spend covers it exactly: eligible buckets in list order, each taken whole before the
next, then base; the buckets afterwards are those before, in place, each less its own part. 02 R38: of an amount within a hold's total, the consumed parts make the amount; each part is cut in two, what is
consumed of it and what is left, either not listed where it is 0; a part is consumed only when every part before it is consumed whole,
the base part last. -/
def Obligations.SplitsCoverTheAmount : Prop :=
  (∀ (s : State) (shop a : Nat) (c : Card), a ≤ spendable s shop c →
    let x := splitOf s shop a c
    let c1 := afterSplit s shop a c
    splitTotal x = a ∧ x.base ≤ c.base ∧ c1 = { c with base := c.base - x.base, buckets := c1.buckets } ∧
      (∃ cut : List (Bucket × Nat), cut.map (fun e => e.1) = c.buckets ∧
        (∀ e ∈ cut, e.2 ≤ e.1.amount ∧ (e.2 ≠ 0 → eligible s shop e.1 = true)) ∧
        c1.buckets = cut.map (fun e => { e.1 with amount := e.1.amount - e.2 }) ∧
        x.promo = (cut.filter (fun e => e.2 ≠ 0)).map (fun e => { pool := e.1.pool, expiry := e.1.expiry, amount := e.2 })) ∧
      (x.base ≠ 0 → ∀ b ∈ c1.buckets, eligible s shop b = true → b.amount = 0) ∧
      (∀ n m (hn : n < c1.buckets.length) (hm : m < c1.buckets.length) (hc : m < c.buckets.length), n < m →
        eligible s shop c1.buckets[n] = true → c1.buckets[n].amount ≠ 0 → c1.buckets[m] = c.buckets[m])) ∧
  (∀ (a : Nat) (x : Split), a ≤ splitTotal x →
    splitTotal (consumed a x) = a ∧ (consumed a x).base + (remainder a x).base = x.base ∧
      ∃ cut : List (PromoPart × Nat), cut.map (fun e => e.1) = x.promo ∧ (∀ e ∈ cut, e.2 ≤ e.1.amount) ∧
        cut.Pairwise (fun e f => f.2 ≠ 0 → e.2 = e.1.amount) ∧
        ((consumed a x).base ≠ 0 → ∀ e ∈ cut, e.2 = e.1.amount) ∧
        (consumed a x).promo = (cut.map (fun e => { e.1 with amount := e.2 })).filter (fun p => p.amount ≠ 0) ∧
        (remainder a x).promo = (cut.map (fun e => { e.1 with amount := e.1.amount - e.2 })).filter (fun p => p.amount ≠ 0))

/-- 02 R23, R24, 01 R11, 06 R105, R106: a redemption that passes its checks takes its split, writes one REDEEM entry, posts it to the
shop's live position and each promotional part to the sponsor charge of its pool's funder, and is answered OK, or PARTIAL with the
spendable value where that is less and partial is allowed. How one posting moves a position: PostingsClampAndMark; which emptied buckets
go: ReleaseReturnsTheParts. (The order of the parts in the reply is log 30.) -/
def Obligations.RedeemTakesTheSplit : Prop :=
  ∀ (l : Link) (tag id shop amount : Nat) (part : Bool) (ref : Nat) (c : Card) (s : State),
    ready l s = true → trades s = true → cardIdOk id = true → shopOk shop = true → amountOk amount = true →
    (s.shop shop).state = .trading → s.card? id = some c → c.state = .active → 64 < writable s.journal →
    (amount ≤ spendable s shop c ∨ (part = true ∧ spendable s shop c ≠ 0)) →
    let a := min amount (spendable s shop c)
    let x := splitOf s shop a c
    let c1 := tidyCard s (afterSplit s shop a c)
    ∃ t, exec (.redeem l tag id shop amount part ref) s = .next t ∧
      t.cards = tablePut id c1 s.cards ∧ t.holds = s.holds ∧
      t.journal = pushEntry { stamped s .redeem (splitTotal x : Nat) with
        card := some id, shop := some shop, ref := some ref, base := some (x.base : Int),
        parts := x.promo.map (fun p => { pool := p.pool, amount := p.amount, expiry := some p.expiry }),
        refunded := some { base := 0, promo := x.promo.map (fun _ => 0) } } s.journal ∧
      (∀ i, t.shop i = { s.shop i with
        live := sponsored 1 s i (entryParts x.promo)
          (if i = shop then
            post { redeemedBase := x.base, redeemedPromo := ((x.promo.map (fun p => p.amount)).sum : Nat), count := 1 }
              (s.shop i).live
          else (s.shop i).live) }) ∧
      (∀ p, t.pool p = { s.pool p with redeemed := (s.pool p).redeemed + poolSum p (entryParts x.promo) }) ∧
      sameElsewhere s t ∧
      repliedWith l 0x13 tag
        ⟨if amount ≤ spendable s shop c then .ok else .partialTaken,
         [Fld.u32 s.journal.next, .u32 a] ++ listFlds (x.promo.map (fun p => [Fld.u8 p.pool, .u16 p.expiry, .u32 p.amount])) ++
           [Fld.u32 x.base] ++ [Fld.u32 c1.base, .u32 (cardValue s c1)]⟩
        (entryNotices s t) s t

/-- 06 R105, R106, 02 R24, R39, 03 R58, R64, 01 R13: the writing of an entry posts its figures to its shop and each part, raised or lowered, to the
funder of its pool, where no field passes its limit. -/
def Obligations.EntriesPostPositions : Prop :=
  (∀ (e : Entry) (s : State) (shop i : Nat), e.kind = .redeem ∨ e.kind = .capture → e.shop = some shop → 0 ≤ basePart e →
    positionsBounded s →
    let p := (s.shop i).live
    let mine := i = shop
    p.redeemedBase + basePart e ≤ Config.positionLimit → p.redeemedPromo + partsSum e ≤ Config.positionLimit →
    p.count + 1 ≤ Config.countLimit → p.sponsor + fundedSum s i e.parts ≤ Config.positionLimit →
    (writeEntry e s).shop i = { s.shop i with
      live := { p with
        redeemedBase := if mine then p.redeemedBase + basePart e else p.redeemedBase
        redeemedPromo := if mine then p.redeemedPromo + partsSum e else p.redeemedPromo
        count := if mine then p.count + 1 else p.count
        sponsor := p.sponsor + fundedSum s i e.parts } }) ∧
  (∀ (e : Entry) (s : State) (shop i : Nat), e.shop = some shop → positionsBounded s →
    let p := (s.shop i).live
    let mine := i = shop
    (e.kind = .refund → withinLimit (p.refundedBase + basePart e) = true →
      p.refundedPromo + partsSum e ≤ Config.positionLimit → -Config.positionLimit ≤ p.sponsor - fundedSum s i e.parts →
      (writeEntry e s).shop i = { s.shop i with
        live := { p with
          refundedBase := if mine then p.refundedBase + basePart e else p.refundedBase
          refundedPromo := if mine then p.refundedPromo + partsSum e else p.refundedPromo
          sponsor := p.sponsor - fundedSum s i e.parts } }) ∧
    (e.kind = .void → withinLimit (p.voided + basePart e) = true →
      (writeEntry e s).shop i = { s.shop i with
        live := { p with voided := if mine then p.voided + basePart e else p.voided } }) ∧
    (e.kind = .sale ∨ e.kind = .reload → withinLimit (p.sold + basePart e) = true →
      (writeEntry e s).shop i = { s.shop i with
        live := { p with sold := if mine then p.sold + basePart e else p.sold } }))

/-- 06 R107: a posting sets each field to its exact sum, or to the limit that the sum passes, and sets the saturation mark exactly where a
sum passes its limit or the mark was set. -/
def Obligations.PostingsClampAndMark : Prop :=
  ∀ (d : Posting) (p : Position),
    let clamp := fun z : Int => if z > 100000000000 then 100000000000 else if z < -100000000000 then -100000000000 else z
    let q := post d p
    q.sold = clamp (p.sold + d.sold) ∧ q.voided = clamp (p.voided + d.voided) ∧
      q.redeemedBase = clamp (p.redeemedBase + d.redeemedBase) ∧ q.redeemedPromo = clamp (p.redeemedPromo + d.redeemedPromo) ∧
      q.refundedBase = clamp (p.refundedBase + d.refundedBase) ∧ q.refundedPromo = clamp (p.refundedPromo + d.refundedPromo) ∧
      q.sponsor = clamp (p.sponsor + d.sponsor) ∧
      q.count = (if p.count + d.count > 4000000000 then 4000000000 else p.count + d.count) ∧
      (q.saturated = true ↔ p.saturated = true ∨ clamp (p.sold + d.sold) ≠ p.sold + d.sold ∨
        clamp (p.voided + d.voided) ≠ p.voided + d.voided ∨
        clamp (p.redeemedBase + d.redeemedBase) ≠ p.redeemedBase + d.redeemedBase ∨
        clamp (p.redeemedPromo + d.redeemedPromo) ≠ p.redeemedPromo + d.redeemedPromo ∨
        clamp (p.refundedBase + d.refundedBase) ≠ p.refundedBase + d.refundedBase ∨
        clamp (p.refundedPromo + d.refundedPromo) ≠ p.refundedPromo + d.refundedPromo ∨
        clamp (p.sponsor + d.sponsor) ≠ p.sponsor + d.sponsor ∨ p.count + d.count > 4000000000)

/-- 02 R28: the slot that a PLACE_HOLD fills is the lowest-numbered FREE one; which one that is depends only on the slots that are FREE; when
none of the 1,024 is FREE the request is refused HOLD_TABLE_FULL. -/
def Obligations.LowestFreeSlotIsAllocated : Prop :=
  (∀ s : State, tablesFormed s → (s.holdSlot s.lowestFreeHoldSlot).hold = none ∧
    ∀ m, m < s.lowestFreeHoldSlot → (s.holdSlot m).hold.isSome = true) ∧
  (∀ s u : State, tablesFormed s → tablesFormed u → (∀ n, (s.holdSlot n).hold.isSome = (u.holdSlot n).hold.isSome) →
    s.lowestFreeHoldSlot = u.lowestFreeHoldSlot) ∧
  (∀ (l : Link) (tag id shop amount : Nat) (part : Bool) (ref : Nat) (c : Card) (s : State),
    ready l s = true → trades s = true → cardIdOk id = true → shopOk shop = true → amountOk amount = true →
    (s.shop shop).state = .trading → s.card? id = some c → c.state = .active → c.holds.length < 4 → tablesFormed s →
    (∀ n, n < 1024 → (s.holdSlot n).hold.isSome = true) →
    exec (.placeHold l tag id shop amount part ref) s = .next (replied l 0x14 tag ⟨.holdTableFull, []⟩ s)) ∧
  (∀ (l : Link) (tag id shop amount : Nat) (part : Bool) (ref : Nat) (s t : State), ready l s = true →
    exec (.placeHold l tag id shop amount part ref) s = .next t →
    ∀ n, (s.holdSlot n).hold = none → (t.holdSlot n).hold ≠ none → n = s.lowestFreeHoldSlot ∧ n < 1024)

/-- 02 R29, R30: a PLACE_HOLD that passes its checks moves its split into the lowest FREE slot, whose generation and last end stay, appends
the reference to the card's hold list, writes no entry and posts nothing. (How the parts travel in the reply is log 30.) -/
def Obligations.PlaceHoldSetsValueAside : Prop :=
  ∀ (l : Link) (tag id shop amount : Nat) (part : Bool) (ref : Nat) (c : Card) (s : State),
    ready l s = true → trades s = true → cardIdOk id = true → shopOk shop = true → amountOk amount = true →
    (s.shop shop).state = .trading → s.card? id = some c → c.state = .active → c.holds.length < 4 → s.lowestFreeHoldSlot < 1024 →
    (amount ≤ spendable s shop c ∨ (part = true ∧ spendable s shop c ≠ 0)) →
    let a := min amount (spendable s shop c)
    let x := splitOf s shop a c
    let n := s.lowestFreeHoldSlot
    let g := (s.holdSlot n).gen
    let c1 : Card := { afterSplit s shop a c with holds := c.holds ++ [⟨n, g⟩] }
    let h : Hold := {
      card := id, shop := shop, total := splitTotal x, parts := x, remaining := (s.shop shop).schedule.lifetime,
      extensions := 0, ref := ref }
    exec (.placeHold l tag id shop amount part ref) s = .next (replied l 0x14 tag
      ⟨if amount ≤ spendable s shop c then .ok else .partialTaken,
       [Fld.u16 n, .u16 g, .u32 (splitTotal x)] ++ listFlds (x.promo.map (fun p => [Fld.u8 p.pool, .u16 p.expiry, .u32 p.amount])) ++
         [Fld.u32 x.base] ++ [Fld.u16 h.remaining, .u32 (spendable s shop c1)]⟩
      { s with
        cards := tablePut id c1 s.cards
        holds := tableWrite freeHoldSlot n { s.holdSlot n with hold := some h } s.holds })

/-- 02 R27: a hold reference that does not name the current hold is answered by the table of generations and last ends, with no
fields, and changes nothing, whichever of the three requests carries it; one that names the current hold goes on to the
request's own checks, of which the next is that of the hold's shop. (That WRONG_SHOP answers a shop that is UNUSED too is log
8.) -/
def Obligations.StaleReferencesAreAnswered : Prop :=
  ∀ (l : Link) (tag n gen shop amount : Nat) (ref : Option Nat) (s : State),
    ready l s = true → trades s = true → shopOk shop = true → amountOk amount = true →
    let x := s.holdSlot n
    let code : Option Result :=
      if 1024 ≤ n then some .badField
      else if x.hold.isSome = true ∧ gen = x.gen then none
      else if gen ≠ x.gen ∧ x.gen = (if gen = 65535 then 0 else gen + 1) ∧ x.lastEnd = .expired then some .holdExpired
      else if gen ≠ x.gen ∧ x.gen = (if gen = 65535 then 0 else gen + 1) ∧ x.lastEnd = .restart then some .holdDropped
      else some .unknownHold
    let answered := fun r : Result =>
      exec (.captureHold l tag n gen shop amount ref) s = .next (replied l 0x15 tag ⟨r, []⟩ s) ∧
      exec (.releaseHold l tag n gen shop) s = .next (replied l 0x16 tag ⟨r, []⟩ s) ∧
      exec (.extendHold l tag n gen shop) s = .next (replied l 0x17 tag ⟨r, []⟩ s)
    (∀ r, code = some r → answered r) ∧ (code = none → (∀ h, x.hold = some h → h.shop ≠ shop) → answered .wrongShop)

/-- 02 R34, R35, R36: a release that names the current hold and its shop returns every part, sends to pending expiry the parts whose bucket
is unusable, drops the reference and frees the slot with its generation increased and last end RELEASED. 02 R34: of parts whose buckets
the list has, the usable ones are added to their buckets, which keep their places, and the unusable ones go to pending expiry, in part
order. 01 R7: a bucket of amount 0 goes where no PLACED hold of the card has a part drawn from it, and no other bucket does. -/
def Obligations.ReleaseReturnsTheParts : Prop :=
  (∀ (l : Link) (tag n shop : Nat) (h : Hold) (c : Card) (s : State),
    ready l s = true → trades s = true → shopOk shop = true → n < 1024 → (s.holdSlot n).hold = some h → h.shop = shop →
    (s.shop shop).state ≠ .unused → s.card? h.card = some c →
    let g := (s.holdSlot n).gen
    let back := returnPromo s h.parts.promo c.buckets
    let gone := (back.2.map (fun p => p.2)).sum
    let rs := c.holds.filter (fun r => r ≠ ⟨n, g⟩)
    ∃ t, exec (.releaseHold l tag n g shop) s = .next (replied l 0x16 tag
        ⟨.ok, [Fld.u32 (h.total - gone), .u32 gone] ++ listFlds (back.2.map (fun p => [Fld.u8 p.1])) ++
          [Fld.u32 (spendable t shop (t.card h.card))]⟩ t) ∧
      t.holds = tableWrite freeHoldSlot n
        { gen := if g = 65535 then 0 else g + 1, lastEnd := .released, hold := none } s.holds ∧
      (∃ bs, t.cards = tablePut h.card { c with base := c.base + h.parts.base, buckets := bs, holds := rs } s.cards ∧
        bs.Sublist back.1 ∧ (∀ b ∈ back.1, b ∈ bs ↔ (b.amount ≠ 0 ∨ referred t rs b))) ∧
      (∀ p, t.pool p = { s.pool p with
        pending := (s.pool p).pending + ((back.2.filter (fun x => x.1 = p)).map (fun x => x.2)).sum }) ∧
      t = { s with holds := t.holds, cards := t.cards, pools := t.pools }) ∧
  (∀ (s : State) (ps : List PromoPart) (bs : List Bucket), bucketsOrdered bs →
    ps.all (fun p => hasBucket p.pool p.expiry bs) = true →
    let r := returnPromo s ps bs
    r.2 = (ps.filter (unusable s)).map (fun p => (p.pool, p.amount)) ∧
      r.1.map (fun b => (b.pool, b.expiry)) = bs.map (fun b => (b.pool, b.expiry)) ∧
      ∀ p d, amountAt p d r.1 = amountAt p d bs +
        (if s.time.day ≤ d ∧ (s.pool p).state ≠ .closed then partsAt p d ps else 0)) ∧
  (∀ (s : State) (c : Card), ∃ bs, tidyCard s c = { c with buckets := bs } ∧ bs.Sublist c.buckets ∧
    ∀ b ∈ c.buckets, b ∈ bs ↔ (b.amount ≠ 0 ∨ referred s c.holds b))

/-- 02 R37 to R39: a capture that passes its checks consumes the parts in order, returns the remainder, frees the slot with last end
CAPTURED, writes one CAPTURE entry, posts it to the shop's live position and each consumed part to the sponsor charge of its pool's
funder, and is answered. How parts are consumed and returned: SplitsCoverTheAmount, ReleaseReturnsTheParts. (The order of the parts in
the reply is log 30; that a pool is listed once for each part sent to pending expiry is log 50.) -/
def Obligations.CaptureConsumesTheHold : Prop :=
  ∀ (l : Link) (tag n shop amount : Nat) (ref : Option Nat) (h : Hold) (c : Card) (s : State),
    ready l s = true → trades s = true → shopOk shop = true → amountOk amount = true → n < 1024 →
    (s.holdSlot n).hold = some h → h.shop = shop → (s.shop shop).state = .trading ∨ (s.shop shop).state = .barred →
    amount ≤ h.total → 64 < writable s.journal → s.card? h.card = some c →
    let g := (s.holdSlot n).gen
    let used := consumed amount h.parts
    let left := remainder amount h.parts
    let back := returnPromo s left.promo c.buckets
    let gone := (back.2.map (fun p => p.2)).sum
    let rs := c.holds.filter (fun r => r ≠ ⟨n, g⟩)
    ∃ (t : State) (c1 : Card), exec (.captureHold l tag n g shop amount ref) s = .next t ∧
      t.cards = tablePut h.card c1 s.cards ∧ c1.base = c.base + left.base ∧ c1.buckets.Sublist back.1 ∧
      (∀ b ∈ back.1, b ∈ c1.buckets ↔ (b.amount ≠ 0 ∨ referred t rs b)) ∧ c1.holds = rs ∧
      c1 = { c with base := c1.base, buckets := c1.buckets, holds := c1.holds } ∧
      t.holds = tableWrite freeHoldSlot n
        { gen := if g = 65535 then 0 else g + 1, lastEnd := .captured, hold := none } s.holds ∧
      t.journal = pushEntry { stamped s .capture (splitTotal used : Nat) with
        card := some h.card, shop := some shop, ref := some (ref.getD h.ref), base := some (used.base : Int),
        parts := used.promo.map (fun p => { pool := p.pool, amount := p.amount, expiry := some p.expiry }),
        refunded := some { base := 0, promo := used.promo.map (fun _ => 0) } } s.journal ∧
      (∀ i, t.shop i = { s.shop i with
        live := sponsored 1 s i (entryParts used.promo)
          (if i = shop then
            post { redeemedBase := used.base, redeemedPromo := ((used.promo.map (fun p => p.amount)).sum : Nat), count := 1 }
              (s.shop i).live
          else (s.shop i).live) }) ∧
      (∀ p, t.pool p = { s.pool p with
        redeemed := (s.pool p).redeemed + poolSum p (entryParts used.promo)
        pending := (s.pool p).pending + ((back.2.filter (fun x => x.1 = p)).map (fun x => x.2)).sum }) ∧
      sameElsewhere s t ∧
      repliedWith l 0x15 tag
        ⟨.ok, [Fld.u32 s.journal.next] ++ listFlds (used.promo.map (fun p => [Fld.u8 p.pool, .u16 p.expiry, .u32 p.amount])) ++
          [Fld.u32 used.base] ++ [Fld.u32 (splitTotal left - gone), .u32 gone] ++
          listFlds (back.2.map (fun p => [Fld.u8 p.1])) ++ [Fld.u32 c1.base, .u32 (cardValue t c1)]⟩ (entryNotices s t) s t

/-- 02 R40, R41: an extension adds the live hold lifetime of the shop, at most to 3,600 seconds, and counts; nothing else changes. -/
def Obligations.ExtensionAddsTheLifetime : Prop :=
  ∀ (l : Link) (tag n shop : Nat) (h : Hold) (c : Card) (s : State),
    ready l s = true → trades s = true → shopOk shop = true → n < 1024 → (s.holdSlot n).hold = some h → h.shop = shop →
    (s.shop shop).state = .trading → s.card? h.card = some c → c.state = .active → h.extensions < 3 →
    let r := min (h.remaining + (s.shop shop).schedule.lifetime) 3600
    exec (.extendHold l tag n (s.holdSlot n).gen shop) s = .next (replied l 0x17 tag
      ⟨.ok, [Fld.u16 r, .u8 (h.extensions + 1)]⟩
      { s with
        holds := tableWrite freeHoldSlot n
          { s.holdSlot n with hold := some { h with remaining := r, extensions := h.extensions + 1 } } s.holds })

/-! ## Refunds and voids -/

/-- 03 R52, R53, R57: where an original of amount A has R refunded with each part at floor(R × part ÷ A), a refund of r keeps that form at
R + r: the base refunded stays at least 0, a base share is at least −3, and at R + r = A every part and the base part are back exactly.
03 R54: where one share goes: forfeited where its day has passed or its pool is CLOSED; else its own bucket, else a new bucket where there
is a place, else the earliest unexpired bucket of its pool, else forfeited. -/
def Obligations.RefundSharesAreFloorsAndPlaced : Prop :=
  (∀ (e : Entry) (x : Refunded) (R r : Nat), e.refunded = some x → 1 ≤ e.amount → (refundedOf e = (R : Int)) →
    (R + r : Nat) ≤ e.amount → e.parts.length ≤ 4 → (partsSum e : Int) ≤ e.amount →
    x.promo = e.parts.map (fun p => R * p.amount / e.amount.toNat) →
    let e' := grownOriginal r e
    let floors := e.parts.map (fun p => (R + r) * p.amount / e.amount.toNat)
    e' = { e with refunded := some { base := x.base + baseShare e r, promo := floors } } ∧
      refundedOf e' = ((R + r : Nat) : Int) ∧ 0 ≤ x.base + baseShare e r ∧ -3 ≤ baseShare e r ∧
      ((R + r : Nat) = e.amount →
        e'.refunded = some { base := e.amount - (partsSum e : Int), promo := e.parts.map (fun p => p.amount) })) ∧
  (∀ (s : State) (q d a : Nat) (bs : List Bucket),
    (d < s.time.day ∨ (s.pool q).state = .closed → placeShare s q d a bs = none) ∧
    (s.time.day ≤ d → (s.pool q).state ≠ .closed →
      (hasBucket q d bs = true → placeShare s q d a bs = some (d, mergeBucket q d a bs)) ∧
      (hasBucket q d bs = false → bs.length < 4 → placeShare s q d a bs = some (d, insertBucket ⟨q, d, a⟩ bs)) ∧
      (hasBucket q d bs = false → 4 ≤ bs.length →
        (∀ b, bs.find? (fun b => b.pool == q && decide (s.time.day ≤ b.expiry)) = some b →
          placeShare s q d a bs = some (b.expiry, mergeBucket q b.expiry a bs)) ∧
        (bs.find? (fun b => b.pool == q && decide (s.time.day ≤ b.expiry)) = none → placeShare s q d a bs = none))))

/-- 03 R47 to R59: a refund that passes its checks places its shares on the destination (created where it is an absent target), grows the
original, writes one REFUND entry, posts it to the shop's live position, takes each promotional share back from the sponsor charge of its
pool's funder, posts the pools and is answered. (How the mark "forfeited" travels in the reply is log 31.) -/
def Obligations.RefundPlacesTheShares : Prop :=
  ∀ (l : Link) (tag original shop amount : Nat) (target : Option Nat) (ref : Nat) (e : Entry) (s : State),
    ready l s = true → trades s = true → seqOk original = true → shopOk shop = true → amountOk amount = true →
    target.all cardIdOk = true → s.entry? original = some e → e.kind = .redeem ∨ e.kind = .capture → e.shop = some shop →
    (amount : Int) ≤ refundRemainder e → (s.shop shop).state = .trading ∨ (s.shop shop).state = .barred →
    64 < writable s.journal →
    let real := if target = e.card then none else target
    let id := real.getD (e.card.getD 0)
    let fresh : Card := {
      slot := s.freeCardSlot, state := .active, reloadable := false, base := 0, buckets := [], holds := [], issuer := shop,
      saleDay := s.time.day, closedPeriod := none }
    let dest := (s.card? id).getD fresh
    let share := baseShare e amount
    let placed := placement s e amount dest
    dest.state = .active → (s.card? id = none → real.isSome = true ∧ s.cards.length < 262144) →
    0 ≤ (dest.base : Int) + share → (cardValue s dest : Int) + returnedValue s e amount dest ≤ 5000000 →
    let c1 : Card := { dest with base := ((dest.base : Int) + share).toNat, buckets := placed.2 }
    let parts : List EntryPart := placed.1.map (fun x => { pool := x.pool, amount := x.amount, expiry := none })
    let lost : List EntryPart := (placed.1.filter (fun x => x.placedAt.isNone)).map
      (fun x => { pool := x.pool, amount := x.amount, expiry := none })
    ∃ t, exec (.refund l tag original shop amount target ref) s = .next t ∧
      t.cards = tablePut id c1 s.cards ∧ t.holds = s.holds ∧
      t.journal = pushEntry
        { stamped s .refund amount with
          card := e.card, shop := some shop, ref := some ref, base := some share, parts := parts, original := some original,
          target := real, forfeited := lost }
        { s.journal with
          entries := s.journal.entries.map (fun x => if x.seq = original then grownOriginal amount x else x) } ∧
      (∀ i, t.shop i = { s.shop i with
        live := sponsored (-1) s i parts
          (if i = shop then
            post { refundedBase := share, refundedPromo := ((parts.map (fun p => p.amount)).sum : Nat) } (s.shop i).live
          else (s.shop i).live) }) ∧
      (∀ p, t.pool p = { s.pool p with
        returned := (s.pool p).returned + poolSum p parts, pending := (s.pool p).pending + poolSum p lost }) ∧
      sameElsewhere s t ∧
      repliedWith l 0x18 tag
        ⟨.ok, [Fld.u32 s.journal.next, .u64 id, .flag (s.card? id).isNone, .i64 share] ++
          listFlds (placed.1.map (fun x => [Fld.u8 x.pool, .u32 x.amount] ++ optFld .u16 x.placedAt)) ++
          [Fld.u32 c1.base, .u32 (cardValue s c1), .u32 (refundRemainder e - amount).toNat]⟩
        (entryNotices s t) s t

/-- 05 R94: how the writing of an entry of each kind moves the nine value counters. (That they count modulo 2^64 is log 12.) -/
def Obligations.CountersFollowTheEntry : Prop :=
  ∀ (e : Entry) (s : State),
    let c := s.journal.counters
    let base := BitVec.ofNat 64 (basePart e).toNat
    let promo := BitVec.ofNat 64 (partsSum e)
    (writeEntry e s).journal.counters =
      match e.kind with
      | .sale => { c with issuedBase := c.issuedBase + base, grantedPromo := c.grantedPromo + promo }
      | .reload => { c with issuedBase := c.issuedBase + base, grantedPromo := c.grantedPromo + promo }
      | .grant => { c with grantedPromo := c.grantedPromo + BitVec.ofNat 64 e.amount.toNat }
      | .redeem => { c with redeemedBase := c.redeemedBase + base, redeemedPromo := c.redeemedPromo + promo }
      | .capture => { c with redeemedBase := c.redeemedBase + base, redeemedPromo := c.redeemedPromo + promo }
      | .refund => { c with
          refundedBase := c.refundedBase + BitVec.ofInt 64 (basePart e), refundedPromo := c.refundedPromo + promo }
      | .void => { c with voidedBase := c.voidedBase + base, ungrantedPromo := c.ungrantedPromo + promo }
      | .expire => { c with expiredPromo := c.expiredPromo + BitVec.ofNat 64 e.amount.toNat }
      | .adjust => c

/-- 03 R62 to R64: a void that passes its checks takes base and bonus off the card, closes a card that the void of its SALE empties, marks
the original voided, writes one VOID entry and is answered. (How the bonus removed travels where there was none is log 41.) -/
def Obligations.VoidTakesTheSaleBack : Prop :=
  ∀ (l : Link) (tag original shop ref : Nat) (e : Entry) (c : Card) (s : State),
    ready l s = true → trades s = true → seqOk original = true → shopOk shop = true → s.entry? original = some e →
    e.kind = .sale ∨ e.kind = .reload → e.voided ≠ some true → e.day = s.time.day → e.shop = some shop →
    (s.shop shop).state = .trading → s.card? (e.card.getD 0) = some c → c.state ≠ .closed → c.holds = [] → valueLeft e c = true →
    64 < writable s.journal →
    ∃ (t : State) (c1 : Card), exec (.voidSale l tag original shop ref) s = .next t ∧
      t.cards = tablePut (e.card.getD 0) c1 s.cards ∧ c1.base = c.base - (basePart e).toNat ∧
      c1.buckets = (withoutBonus e c.buckets).filter (fun b => b.amount ≠ 0) ∧ c1.holds = [] ∧
      (c1.state, c1.closedPeriod) = (if e.kind = .sale ∧ cardValue s c1 = 0 then (.closed, some s.period.live)
        else (c.state, c.closedPeriod)) ∧
      (c1.slot, c1.reloadable, c1.issuer, c1.saleDay) = (c.slot, c.reloadable, c.issuer, c.saleDay) ∧
      t.holds = s.holds ∧
      t.journal = pushEntry
        { stamped s .void (basePart e) with
          card := e.card, shop := some shop, ref := some ref, base := some (basePart e),
          parts := e.parts.map (fun p => { p with expiry := none }), original := some original }
        { s.journal with
          entries := s.journal.entries.map (fun x => if x.seq = original then { x with voided := some true } else x) } ∧
      (∀ i, t.shop i = if i = shop then { s.shop i with live := post { voided := basePart e } (s.shop i).live } else s.shop i) ∧
      (∀ p, t.pool p = { s.pool p with ungranted := (s.pool p).ungranted + poolSum p e.parts }) ∧
      sameElsewhere s t ∧
      repliedWith l 0x19 tag
        ⟨.ok, [Fld.u32 s.journal.next, .u32 (basePart e).toNat, .u32 (partsSum e), .u8 (cardStateCode c1.state),
          .u32 (cardValue s c1)]⟩
        (entryNotices s t) s t

/-! ## Pools -/

/-- 04 R74, R75: a grant that passes its checks credits the exact amount to the bucket of the pool and expiry day, writes one GRANT entry
without a shop, and raises the pool's granted total. (The order of POOL_LOW and JOURNAL_RESERVE is log 15.) -/
def Obligations.GrantCreditsTheAmount : Prop :=
  ∀ (tag id pool amount : Nat) (c : Card) (bs : List Bucket) (s : State),
    ready .a s = true → storeValid s = true → cardIdOk id = true → poolOk pool = true → amountOk amount = true →
    s.card? id = some c → c.state = .active → (s.pool pool).state = .opened → amount ≤ available (s.pool pool) →
    cardValue s c + amount ≤ 5000000 →
    let day := min (s.time.day + (s.pool pool).validity) 65535
    credit pool day amount c.buckets = some bs → 64 < writable s.journal →
    let x : Pool := { s.pool pool with granted := (s.pool pool).granted + amount }
    ∃ t, exec (.grantPromo .a tag id pool amount) s = .next t ∧
      t.cards = tablePut id { c with buckets := bs } s.cards ∧ t.holds = s.holds ∧
      t.journal = pushEntry { stamped s .grant amount with
        card := some id, parts := [{ pool := pool, amount := amount, expiry := some day }] } s.journal ∧
      t.shops = s.shops ∧ (∀ p, t.pool p = if p = pool then x else s.pool p) ∧ sameElsewhere s t ∧
      repliedWith .a 0x25 tag
        ⟨.ok, [Fld.u32 s.journal.next, .u16 day, .u32 (cardValue s { c with buckets := bs }), .u64 (available x)]⟩
        (entryNotices s t) s t

/-- 04 R71 to R73, R77: defining a pool, adding to its budget, changing its state and reading it change at most that pool's
record, and give POOL_LOW where its condition has come to hold (04 R83). (How a negative
outstanding value is sent is log 21; that the eligibility mask travels as sixteen flag bytes, category 0 first, is the model's choice,
log 7.) -/
def Obligations.PoolRequestsChangeThePool : Prop :=
  let config := fun x : Pool =>
    (match x.funder with
      | none => [Fld.flag false]
      | some i => [Fld.flag true, .u16 i]) ++
      (List.range 16).map (fun k => .flag (x.mask.getLsbD k)) ++
      [Fld.u16 x.rate, .u32 x.cap, .u16 x.validity, .u64 x.budget, .flag x.recycle, .u64 x.low]
  ∀ (tag pool : Nat) (s : State), ready .a s = true → storeValid s = true → poolOk pool = true →
    (∀ cfg : PoolArg, cfg.rate ≤ 10000 → cfg.cap ≤ 5000000 → 1 ≤ cfg.validity →
      (∀ i, cfg.funder = some i → shopOk i = true ∧ ((s.shop i).state = .trading ∨ (s.shop i).state = .barred)) →
      ((s.pool pool).state = .empty ∨
        ((s.pool pool).state = .closed ∧ poolOutstanding (s.pool pool) = 0 ∧ (s.pool pool).pending = 0)) →
      let x : Pool := {
        state := .opened, funder := cfg.funder, mask := cfg.mask, rate := cfg.rate, cap := cfg.cap,
        validity := min cfg.validity 3650, budget := min cfg.budget 100000000000, recycle := cfg.recycle,
        low := min cfg.low 100000000000, granted := 0, ungranted := 0, redeemed := 0, returned := 0, expired := 0, recycled := 0,
        pending := 0 }
      ∃ t, exec (.definePool .a tag pool cfg) s = .next t ∧ (∀ p, t.pool p = if p = pool then x else s.pool p) ∧
        t = { s with pools := t.pools, tLink := t.tLink, aLink := t.aLink } ∧
        repliedWith .a 0x30 tag ⟨.ok, config x⟩ (lowNotices s t) s t) ∧
    (∀ amount, 1 ≤ amount → amount ≤ 100000000000 → (s.pool pool).state = .opened ∨ (s.pool pool).state = .suspended →
      let x : Pool := { s.pool pool with budget := min ((s.pool pool).budget + amount) 100000000000 }
      ∃ t, exec (.addBudget .a tag pool amount) s = .next t ∧ (∀ p, t.pool p = if p = pool then x else s.pool p) ∧
        t = { s with pools := t.pools, tLink := t.tLink, aLink := t.aLink } ∧
        repliedWith .a 0x31 tag ⟨.ok, [Fld.u64 x.budget, .u64 (x.budget + x.ungranted + x.recycled - x.granted)]⟩
          (lowNotices s t) s t) ∧
    (∀ (code : Nat) (y : PoolState), (code, y) = (1, .opened) ∨ (code, y) = (2, .suspended) ∨ (code, y) = (3, .closed) →
      (s.pool pool).state ≠ y → (s.pool pool).state = .opened ∨ (s.pool pool).state = .suspended →
      ∃ t, exec (.setPoolState .a tag pool code) s = .next t ∧
        (∀ p, t.pool p = if p = pool then { s.pool pool with state := y } else s.pool p) ∧
        t = { s with pools := t.pools, tLink := t.tLink, aLink := t.aLink } ∧
        repliedWith .a 0x32 tag ⟨.ok, [Fld.u8 code]⟩ (lowNotices s t) s t) ∧
    (let x := s.pool pool
     exec (.poolStatus .a tag pool) s = .next (replied .a 0x33 tag
      ⟨.ok, [Fld.u8 ([PoolState.empty, .opened, .suspended, .closed].idxOf x.state)] ++ config x ++
        [Fld.u64 x.granted, .u64 x.ungranted, .u64 x.redeemed, .u64 x.returned, .u64 x.expired, .u64 x.recycled, .u64 x.pending,
         .u64 (x.budget + x.ungranted + x.recycled - x.granted),
         .u64 (((x.granted : Int) - x.ungranted - x.redeemed + x.returned - x.expired - x.pending) % 2 ^ 64).toNat,
         .flag (isLow x), .u64 (if s.sweep.inFlight then (sweptFigures s pool).value else 0)]⟩ s))

/-! ## Journal -/

/-- 05 R96 to R100: seeking, reading, looking up and the value summary. A seek sets the link's cursor; a read returns entries
from it in order, as many as the count asks for and the reply holds, at least one where there is one, and moves it past them; a
lookup returns the newest match; a read with a lost cursor returns none, and the cursor becomes the oldest present entry's number;
nothing else changes. (The fields of the replies are logs 8, 9, 12 and 40.) -/
def Obligations.JournalReadsAnswer : Prop :=
  ((∀ (tag : Nat) (pos : SeekPos) (x : Cursor) (s : State), ready .a s = true → storeValid s = true →
    (pos = .oldest ∧ x = .oldest ∨ pos = .next ∧ x = .at s.journal.next ∨
      ∃ n, pos = .seq n ∧ seqOk n = true ∧ ((s.entry? n).isSome = true ∨ n = s.journal.next) ∧ x = .at n) →
    exec (.journalSeek .a tag pos) s = .next (replied .a 0x38 tag
      ⟨.ok, optFld .u32 (oldestSeq s.journal) ++ optFld .u32 (newestSeq s.journal) ++ [Fld.u32 s.journal.next]⟩
      { s with aLink := { s.aLink with cursor := x } })) ∧
  (∀ (tag count : Nat) (es : List Entry) (s : State), ready .a s = true → storeValid s = true → 1 ≤ count → count ≤ 4 →
    (s.aLink.cursor = .oldest ∧ es = s.journal.entries ∨ s.aLink.cursor = .at s.journal.next ∧ es = [] ∨
      ∃ n, s.aLink.cursor = .at n ∧ n ≠ s.journal.next ∧ (s.entry? n).isSome = true ∧
        es = s.journal.entries.dropWhile (fun e => e.seq ≠ n)) →
    ∃ out : List Entry, out <+: es ∧ out.length ≤ count ∧ (es ≠ [] → out ≠ []) ∧
      (out.length ≤ 1 ∨ (out.map entryBytes).sum ≤ 230) ∧
      (out.length = count ∨ out = es ∨
        ∃ e, es[out.length]? = some e ∧ 230 < (out.map entryBytes).sum + (payloadBytes (entryFlds e)).length) ∧
      let x := match out.getLast? with
        | some e => Cursor.at (if e.seq = 4294967295 then 1 else e.seq + 1)
        | none => s.aLink.cursor
      exec (.journalRead .a tag count) s = .next (replied .a 0x39 tag
        ⟨.ok, listFlds (out.map entryFlds) ++ cursorFlds x ++ [Fld.u32 s.journal.next]⟩
        { s with aLink := { s.aLink with cursor := x } })) ∧
  (∀ (l : Link) (tag shop ref : Nat) (s : State), ready l s = true → storeValid s = true → shopOk shop = true →
    let ms := s.journal.entries.filter (fun e => e.shop = some shop && e.ref = some ref)
    exec (.lookupReference l tag shop ref) s = .next (replied l 0x1A tag
      (match ms.getLast? with
        | some e => ⟨.ok, entryFlds e ++ [Fld.flag (1 < ms.length)]⟩
        | none => ⟨.notFound, optFld .u32 (oldestSeq s.journal) ++ optFld .u16 (s.journal.entries.head?.map (fun e => e.day)) ++
            optFld .u32 (s.journal.entries.head?.map (fun e => e.clock))⟩) s)) ∧
  ∀ (tag : Nat) (s : State), ready .a s = true → storeValid s = true →
    let c := s.journal.counters
    let es := s.journal.entries
    let owed := c.issuedBase - c.voidedBase + c.grantedPromo - c.ungrantedPromo - c.redeemedBase - c.redeemedPromo +
      c.refundedBase + c.refundedPromo - c.expiredPromo
    let done := es.countP (fun e => e.period ≤ s.journal.released)
    exec (.valueSummary .a tag) s = .next (replied .a 0x3A tag
      ⟨.ok, [Fld.u64 c.issuedBase.toNat, .u64 c.grantedPromo.toNat, .u64 c.redeemedBase.toNat, .u64 c.redeemedPromo.toNat,
             .u64 c.refundedBase.toNat, .u64 c.refundedPromo.toNat, .u64 c.voidedBase.toNat, .u64 c.ungrantedPromo.toNat,
             .u64 c.expiredPromo.toNat, .u64 owed.toNat, .u64 ((s.placedHolds.map (fun e => e.2.total)).sum),
             .u64 (((List.range 16).map (fun p => (s.pool p).pending)).sum), .u32 s.journal.next] ++
        optFld .u32 (es.head?.map (fun e => e.seq)) ++ optFld .u32 (es.getLast?.map (fun e => e.seq)) ++
        [Fld.u32 es.length, .u32 done, .u32 (65536 - es.length + done), .u32 s.journal.released, .u32 s.period.live,
         .u32 s.journal.wraps, .flag (65536 - es.length + done ≤ 64)]⟩ s)) ∧
  (∀ (tag count n o : Nat) (s : State), ready .a s = true → storeValid s = true → 1 ≤ count → count ≤ 4 →
    s.aLink.cursor = .at n → n ≠ s.journal.next → s.entry? n = none → oldestSeq s.journal = some o →
    exec (.journalRead .a tag count) s = .next (replied .a 0x39 tag
      ⟨.cursorLost, [Fld.u32 o, .u32 (if n ≤ o then o - n else o + 4294967295 - n)]⟩
      { s with aLink := { s.aLink with cursor := .at o } }))

/-! ## Shops -/

/-- 06 R110 to R112, R114, R116, R117: defining a shop afresh, rewriting it in CONFIG alone, staging a schedule, changing its state, clearing its
attention mark and changing its account write that shop's record and nothing else; SHOP_POSITION reads it, field by field. (How a closing
result that is not computed travels is log 34; that the hold lifetime takes 2 bytes is the model's choice, log 32.) -/
def Obligations.ShopRequestsWriteTheRecord : Prop :=
  let stateCode := fun x : ShopState => [ShopState.unused, .trading, .barred, .departed].idxOf x
  let sched := fun c : Schedule =>
    [Fld.u16 c.redemptionRate, .u16 c.fixedFee, .u16 c.commissionRate, .u32 c.minPayout, .u16 c.lifetime]
  let staged := fun c : Option Schedule =>
    match c with
    | none => [Fld.flag false]
    | some c => .flag true :: sched c
  let position := fun p : Position =>
    [Fld.i64 p.sold, .i64 p.voided, .i64 p.redeemedBase, .i64 p.redeemedPromo, .i64 p.refundedBase, .i64 p.refundedPromo,
     .u32 p.count, .i64 p.sponsor, .flag p.saturated]
  let result := fun r : ClosingResult =>
    if r.computed then [Fld.flag true, .i64 r.fee, .i64 r.commission, .i64 r.net, .i64 r.due, .i64 r.newCarry, .flag r.held]
    else [Fld.flag false]
  let payout := fun p : Payout =>
    [Fld.u8 ([PayoutState.none, .due, .offered, .uncertain, .paid, .failed, .deferred, .held].idxOf p.state), .u64 p.amount,
     .u32 p.serial]
  ∀ (tag shop : Nat) (s : State), ready .a s = true → storeValid s = true → shopOk shop = true →
    let x := s.shop shop
    let wrote := fun y : Shop => { s with shops := tableWrite unusedShop shop y s.shops }
    (∀ (category account : Nat) (a : ScheduleArg), category < 16 → a.redemptionRate ≤ 50000 → a.fixedFee ≤ 500 →
      a.commissionRate ≤ 50000 → (x.state = .unused ∨ s.ctrl.mode = .config) →
      let c : Schedule := {
        redemptionRate := a.redemptionRate, fixedFee := a.fixedFee, commissionRate := a.commissionRate,
        minPayout := min a.minPayout 10000000, lifetime := min (max (a.lifetime.getD 900) 30) 3600 }
      let y : Shop := if x.state = .unused then {
          state := .trading, category := category, account := account, schedule := c, staged := none, live := zeroPosition,
          closing := zeroPosition, closingSchedule := c, result := zeroResult, carry := 0, payout := noPayout, attention := false }
        else { x with category := category, account := account, schedule := c }
      exec (.defineShop .a tag shop category account a) s = .next (replied .a 0x40 tag
        ⟨.ok, [Fld.u8 (stateCode y.state), .u8 y.category, .u64 y.account] ++ sched y.schedule ++ staged y.staged ++ position y.live ++
          position y.closing ++ sched y.closingSchedule ++ result y.result ++ [Fld.i64 y.carry] ++ payout y.payout ++
          [Fld.flag y.attention]⟩ (wrote y)) ∧
      (x.state ≠ .unused → exec (.stageSchedule .a tag shop a) s =
        .next (replied .a 0x41 tag ⟨.ok, sched c⟩ (wrote { x with staged := some c })))) ∧
    (∀ (category account : Nat) (a : ScheduleArg), category < 16 → a.redemptionRate ≤ 50000 → a.fixedFee ≤ 500 →
      a.commissionRate ≤ 50000 → x.state ≠ .unused → s.ctrl.mode = .opened →
      exec (.defineShop .a tag shop category account a) s = .next (replied .a 0x40 tag ⟨.configOnly, []⟩ s)) ∧
    (x.state ≠ .unused →
      (∀ (code : Nat) (y : ShopState), (code, y) = (1, .trading) ∨ (code, y) = (2, .barred) ∨ (code, y) = (3, .departed) →
        exec (.setShopState .a tag shop code) s = .next (replied .a 0x42 tag ⟨.ok, [Fld.u8 code]⟩ (wrote { x with state := y }))) ∧
      (s.period.state ≠ .closing →
        exec (.clearAttention .a tag shop) s =
          .next (replied .a 0x46 tag ⟨.ok, [Fld.flag false]⟩ (wrote { x with attention := false }))) ∧
      (∀ account : Nat, exec (.setPayoutAccount .a tag shop account) s =
        .next (replied .a 0x47 tag ⟨.ok, []⟩ (wrote { x with account := account }))) ∧
      (let head := [Fld.u8 (stateCode x.state), .u8 x.category, .u64 x.account, .i64 x.carry, .flag x.attention] ++ staged x.staged
       exec (.shopPosition .a tag shop 0) s = .next (replied .a 0x44 tag
          ⟨.ok, head ++ (position x.live ++ sched x.schedule ++ [Fld.u32 s.period.live])⟩ s) ∧
        exec (.shopPosition .a tag shop 1) s = .next (replied .a 0x44 tag
          ⟨.ok, head ++ (position x.closing ++ sched x.closingSchedule ++
            [Fld.u32 s.period.closing, .u8 ([ClosingState.closing, .settling, .released].idxOf s.period.state)] ++
            result x.result ++ payout x.payout)⟩ s)))

/-- 06 R113, 07 R137, R138: a settled DEPARTED shop becomes UNUSED, its record at its first values, and leaves the roster, and where that
makes the release condition hold the release follows (what it does: ReleaseBringsCarryForward); else the first failing condition is
named. (That the shop leaves the roster in every closing state is log 33; that PERIOD_RELEASED comes after the reply, and what it
carries, are logs 16 and 36.) -/
def Obligations.RemovalNeedsASettledShop : Prop :=
  ∀ (tag shop : Nat) (s : State), ready .a s = true → storeValid s = true → shopOk shop = true →
    let x := s.shop shop
    (x.state ≠ .unused → x.state ≠ .departed → exec (.removeShop .a tag shop) s = .next (replied .a 0x43 tag ⟨.shopState, []⟩ s)) ∧
    (x.state = .departed →
      let live := decide (x.live = zeroPosition)
      let held := s.placedHolds.any (fun e => e.2.shop = shop)
      let funds := (List.range 16).any (fun p => (s.pool p).state ≠ .empty && (s.pool p).funder = some shop)
      let settled := s.period.state = .released ∨ (s.period.state = .settling ∧ x.result.computed = true ∧ x.result.newCarry = 0 ∧
        (x.payout.state = .none ∨ x.payout.state = .paid ∨ x.payout.state = .held))
      let refused := fun n : Nat => exec (.removeShop .a tag shop) s = .next (replied .a 0x43 tag ⟨.notSettled, [Fld.u8 n]⟩ s)
      (x.carry ≠ 0 → refused 0) ∧
      (x.carry = 0 → live = false → refused 1) ∧
      (x.carry = 0 → live = true → held = true → refused 2) ∧
      (x.carry = 0 → live = true → held = false → funds = true → refused 3) ∧
      (x.carry = 0 → live = true → held = false → funds = false → ¬settled → refused 4) ∧
      (x.carry = 0 → live = true → held = false → funds = false → settled →
        let t : State := { s with
          shops := tableDrop shop s.shops
          period := { s.period with roster := s.period.roster.filter (fun i => i ≠ shop) } }
        exec (.removeShop .a tag shop) s = .next (repliedTested .a 0x43 tag ⟨.ok, []⟩ t)))

/-- 06 R115: an adjustment adds the amount to the carry, clamped at the position limit with the live mark set, and writes one ADJUST entry of
the change actually made; while a close is in progress it is refused. -/
def Obligations.AdjustmentMovesTheCarry : Prop :=
  ∀ (tag shop : Nat) (amount : Int) (ref : Option Nat) (s : State),
    ready .a s = true → storeValid s = true → shopOk shop = true → amount ≠ 0 → withinLimit amount = true →
    (s.shop shop).state ≠ .unused →
    let x := s.shop shop
    let sum := x.carry + amount
    let carry := if sum > 100000000000 then 100000000000 else if sum < -100000000000 then -100000000000 else sum
    (s.period.state ≠ .released → exec (.adjustCarry .a tag shop amount ref) s = .next (replied .a 0x45 tag ⟨.closeBusy, []⟩ s)) ∧
    (s.period.state = .released → 64 < writable s.journal →
      ∃ t, exec (.adjustCarry .a tag shop amount ref) s = .next t ∧
        (∀ i, t.shop i = if i = shop then { x with
          carry := carry, live := { x.live with saturated := x.live.saturated || decide (carry ≠ sum) } } else s.shop i) ∧
        t.journal = pushEntry { stamped s .adjust (carry - x.carry) with shop := some shop, ref := ref } s.journal ∧
        t.cards = s.cards ∧ t.holds = s.holds ∧ t.pools = s.pools ∧ sameElsewhere s t ∧
        repliedWith .a 0x45 tag ⟨.ok, [Fld.u32 s.journal.next, .i64 carry, .flag (decide (carry ≠ sum))]⟩
        (entryNotices s t) s t)

/-! ## Periods -/

/-- 07 R122, R127: CLOSE_PERIOD takes the close where the closing record is RELEASED: every defined shop's live position becomes its closing
position and starts again at zero, the live period increases, a summary is begun; else it is refused CLOSE_BUSY. (What follows the highest live number is log 11.) -/
def Obligations.ClosePeriodTakesTheClose : Prop :=
  ∀ (tag : Nat) (s : State), ready .a s = true → storeValid s = true →
    let p := s.period
    (p.state ≠ .released → exec (.closePeriod .a tag) s =
      .next (replied .a 0x50 tag ⟨.closeBusy, [Fld.u32 p.closing, .u8 (closingStateCode p.state)]⟩ s)) ∧
    (p.state = .released → p.live < 4294967295 →
      let roster := (s.shops.filter (fun e => e.2.state ≠ .unused)).map (fun e => e.1)
      let m : Summary := {
        period := p.live, cause := .request, day := s.time.day, clock := s.time.clock, firstSeq := s.journal.next,
        rosterCount := roster.length, computation := none, release := none }
      ∃ t : State, exec (.closePeriod .a tag) s =
          .next (replied .a 0x50 tag ⟨.ok, [Fld.u32 p.live, .u32 (p.live + 1), .u32 roster.length]⟩ t) ∧
        (∀ i, t.shop i = if (s.shop i).state = .unused then s.shop i else { s.shop i with
          closing := (s.shop i).live, closingSchedule := (s.shop i).schedule, live := zeroPosition,
          schedule := (s.shop i).staged.getD (s.shop i).schedule, staged := none,
          result := { zeroResult with computed := false }, payout := { state := .none, amount := 0, serial := 0 } }) ∧
        t = { s with
          shops := t.shops
          period := { p with
            closing := p.live, live := p.live + 1, state := .closing, cursor := 0, roster := roster,
            countdown := if p.mode = .interval then p.interval * 60 else p.countdown,
            summaries := (if 8 ≤ p.summaries.length then p.summaries.tail else p.summaries) ++ [m] } })

/-- 07 R124, R125, R126, R123: SET_SCHEDULER sets mode and interval by its table; a countdown at 0 and, in DAILY mode, a
rollover request a close, which waits with its first cause where the closing record is not RELEASED, and else is taken at once by R127
with the scheduler's cause. (A stopped countdown is held as 0 (log 18); what follows the highest live number is log 11.) -/
def Obligations.SchedulerRequestsCloses : Prop :=
  (∀ (tag code n : Nat) (m : SchedulerMode) (s : State), ready .a s = true → storeValid s = true →
    (code, m) = (0, .manual) ∨ (code, m) = (1, .daily) ∨ (code, m) = (2, .interval) →
    let p := s.period
    let i := min (max n 15) 10080
    let left := if m ≠ .interval then 0 else if p.mode = .interval then p.countdown else i * 60
    exec (.setScheduler .a tag code n) s = .next (replied .a 0x51 tag
      ⟨.ok, [Fld.u8 code, .u16 i] ++ optFld .u32 (if m = .interval then some left else none)⟩
      { s with period := { p with
          mode := m, interval := i, countdown := left,
          closePending := if m = .manual then none else p.closePending } })) ∧
  (∀ s : State, s.power = true → (∀ n, n < 4 → offerMayEnter s n = false) → s.period.mode = .interval → s.period.countdown = 0 →
    ∃ t, exec .intervalCountdownExpiry s = .next t ∧ t.period.countdown = s.period.interval * 60 ∧
      (s.period.state = .released →
        let u := takeClose .interval s
        t = { u with period := { u.period with countdown := s.period.interval * 60 } }) ∧
      (s.period.state ≠ .released →
        t = { s with period := { s.period with
          countdown := s.period.interval * 60, closePending := some (s.period.closePending.getD .interval) } })) ∧
  ∀ (c : CloseCause) (s : State),
    let p := s.period
    (p.state = .released → scheduleClose c s = takeClose c s ∧ (p.live < 4294967295 →
      let t := takeClose c s
      let roster := (s.shops.filter (fun e => e.2.state ≠ .unused)).map (fun e => e.1)
      let m : Summary := {
        period := p.live, cause := c, day := s.time.day, clock := s.time.clock, firstSeq := s.journal.next,
        rosterCount := roster.length, computation := none, release := none }
      (∀ i, t.shop i = if (s.shop i).state = .unused then s.shop i else { s.shop i with
        closing := (s.shop i).live, closingSchedule := (s.shop i).schedule, live := zeroPosition,
        schedule := (s.shop i).staged.getD (s.shop i).schedule, staged := none,
        result := { zeroResult with computed := false }, payout := { state := .none, amount := 0, serial := 0 } }) ∧
      t = { s with
        shops := t.shops
        period := { p with
          closing := p.live, live := p.live + 1, state := .closing, cursor := 0, roster := roster,
          countdown := if p.mode = .interval then p.interval * 60 else p.countdown,
          summaries := (if 8 ≤ p.summaries.length then p.summaries.tail else p.summaries) ++ [m] } })) ∧
    (s.period.state ≠ .released →
      scheduleClose c s = { s with period := { s.period with closePending := some (s.period.closePending.getD c) } })

/-- 07 R135, R136, R139: PERIOD_STATUS and PERIOD_SUMMARY answer, field by field, with the registers and with the summary held under the
number asked for, LATEST being the closing period's; a number without a summary is NOT_FOUND with the lowest and highest numbers held,
0 is BAD_FIELD; nothing changes. (How the parts of a summary and its state travel is logs 8 and 35, how the
SETTLING counts and a pending close do log 49, how the trading gate does log 42.) -/
def Obligations.PeriodReadsChangeNothing : Prop :=
  ∀ (tag : Nat) (s : State), ready .a s = true → storeValid s = true →
    let q := s.period
    let ms := q.summaries
    let stateCode := fun x : ClosingState => [ClosingState.closing, .settling, .released].idxOf x
    let count := fun x : PayoutState => Fld.u32 (rosterCount s x)
    exec (.periodStatus .a tag) s = .next (replied .a 0x52 tag
      ⟨.ok, [Fld.u32 q.live, .u32 q.closing, .u8 (stateCode q.state), .u32 q.roster.length] ++
        (if q.state = .closing then
          [Fld.flag true, .u32 (q.roster.countP (fun i => (s.shop i).result.computed)), .u16 q.cursor] else [Fld.flag false]) ++
        (if q.state = .settling then
          [Fld.flag true, count .none, count .due, count .offered, count .uncertain, count .paid, count .failed, count .deferred,
           count .held] else [Fld.flag false]) ++
        (match q.closePending with
          | none => [Fld.flag false]
          | some x => [Fld.flag true, .u8 (if x = .interval then 1 else 0)]) ++
        [Fld.u8 ([SchedulerMode.manual, .daily, .interval].idxOf q.mode), .u16 q.interval] ++
        optFld .u32 (if q.mode = .interval then some q.countdown else none) ++
        [Fld.u8 ([Mode.config, .opened].idxOf s.ctrl.mode), .flag s.time.trading]⟩ s) ∧
    exec (.periodSummary .a tag (some 0)) s = .next (replied .a 0x53 tag ⟨.badField, []⟩ s) ∧
    (∀ (p : Option Nat) (m : Summary), p ≠ some 0 → m ∈ ms → m.period = p.getD q.closing →
      (∀ x ∈ ms, x.period = m.period → x = m) →
      exec (.periodSummary .a tag p) s = .next (replied .a 0x53 tag
        ⟨.ok, [Fld.u8 (stateCode (if m.release.isSome then .released else if m.computation.isSome then .settling else .closing)),
               .u32 m.period, .u8 ([CloseCause.request, .daily, .interval].idxOf m.cause), .u16 m.day, .u32 m.clock,
               .u32 m.firstSeq, .u32 m.rosterCount] ++
          (match m.computation with
            | none => [Fld.flag false]
            | some c =>
              [Fld.flag true, .u16 c.day, .u32 c.clock, .i64 c.sumS, .i64 c.sumB, .i64 c.sumF, .i64 c.sumK, .i64 c.sumP, .i64 c.sumC,
               .i64 c.sumT, .u32 c.noneCount, .u32 c.dueCount, .u32 c.deferredCount, .u32 c.heldCount, .u64 c.dueTotal,
               .u64 c.deferredTotal, .u32 c.heldShops, .u32 c.heldByClamp]) ++
          (match m.release with
            | none => [Fld.flag false]
            | some r =>
              [Fld.flag true, .u16 r.day, .u32 r.clock, .u32 r.paidCount, .u64 r.paidTotal, .u32 r.failedCount, .u64 r.failedTotal,
               .u32 r.deferredCount, .u64 r.deferredTotal, .u32 r.heldCount, .u64 r.heldTotal, .i64 r.carrySum,
               .u32 r.madeReleasable, .u32 r.purged])⟩ s)) ∧
    ((∀ m ∈ ms, m.period ≠ q.closing) →
      exec (.periodSummary .a tag none) s = .next (replied .a 0x53 tag ⟨.notFound, []⟩ s)) ∧
    ∀ (n : Nat) (a b : Summary), n ≠ 0 → (∀ m ∈ ms, m.period ≠ n) → ms.head? = some a → ms.getLast? = some b →
      exec (.periodSummary .a tag (some n)) s =
        .next (replied .a 0x53 tag ⟨.notFound, [Fld.flag true, .u32 a.period, .flag true, .u32 b.period]⟩ s)

/-- 07 R130: the rounding gives the nearest whole number, a tie going to the even one. 07 R128 to R132: one action of the walk
computes the lowest roster shop at or above the cursor: fee, commission, net, hold, due and new carry by their formulas; with
none left the cursor is 512; in CONFIG nothing advances. (What the unit keeps after the shop is log 22.) -/
def Obligations.CloseStepComputesTheShop : Prop :=
  (∀ n d : Nat, 0 < d →
    let q := roundHalfEven n d
    2 * (q * d) ≤ 2 * n + d ∧ 2 * n ≤ 2 * (q * d) + d ∧
      (2 * (q * d) = 2 * n + d ∨ 2 * n = 2 * (q * d) + d → q % 2 = 0)) ∧
  (∀ s : State, s.power = true → quiet s = true → s.period.state = .closing →
    (s.ctrl.mode = .config → exec .closeComputeStep s = .next s) ∧
    (s.ctrl.mode = .opened → s.period.roster.find? (fun i => s.period.cursor ≤ i) = none →
      exec .closeComputeStep s = .next { s with period := { s.period with cursor := 512 } }) ∧
    (s.ctrl.mode = .opened → ∀ i, s.period.roster.find? (fun i => s.period.cursor ≤ i) = some i →
      let x := s.shop i
      let p := x.closing
      let c := x.closingSchedule
      let clamp := fun z : Int => if z > 100000000000 then 100000000000 else if z < -100000000000 then -100000000000 else z
      let S : Int := p.sold - p.voided
      let B : Int := (p.redeemedBase - p.refundedBase) + (p.redeemedPromo - p.refundedPromo)
      let f : Int := roundHalfEven ((max B 0).toNat * c.redemptionRate) 1000000 + p.count * c.fixedFee
      let k : Int := roundHalfEven ((max S 0).toNat * c.commissionRate) 1000000
      let n : Int := B - S - clamp f + clamp k - p.sponsor + x.carry
      let clamped := clamp f ≠ f ∨ clamp k ≠ k ∨ clamp n ≠ n
      let held := clamped ∨ p.saturated = true ∨ x.attention = true
      let due : Int := if ¬held ∧ 0 < clamp n ∧ (c.minPayout : Int) ≤ clamp n then clamp n else 0
      exec .closeComputeStep s = .next { s with
        shops := tableWrite unusedShop i { x with result := {
          fee := clamp f, commission := clamp k, net := clamp n, due := due, newCarry := clamp n - due, computed := true,
          held := decide held } } s.shops
        period := { s.period with cursor := i + 1 }
        sau := { accumulator := n, saturated := decide clamped } }))

/-- 07 R134, R135, R137, 08 R146: the end of the computation assigns the payout records by its table, completes the computation part of
the summary, makes the record SETTLING and gives CLOSE_DONE; where a record is DUE, auto-start channels then begin runs; where none is,
the release follows at once (what it does: ReleaseBringsCarryForward), and PERIOD_RELEASED. (What that notice carries is log 36.) -/
def Obligations.ComputationEndAssignsPayouts : Prop :=
  ∀ s : State, s.power = true → quiet s = true → s.period.state = .closing → s.ctrl.mode = .opened →
    s.period.roster.find? (fun i => s.period.cursor ≤ i) = none → (∀ n, n < 4 → (s.channel n).offer = none) →
    let within := fun i : Nat => (List.range 4).any (fun n => (s.channel n).enabled && inRange i (s.channel n).range)
    let sum := fun f : Shop → Int => (s.period.roster.map (fun i => f (s.shop i))).sum
    let passes := fun z : Int => !(decide (-100000000000 ≤ z) && decide (z ≤ 100000000000))
    let byClamp := fun x : Shop =>
      let p := x.closing
      let c := x.closingSchedule
      let clamp := fun z : Int => if z > 100000000000 then 100000000000 else if z < -100000000000 then -100000000000 else z
      let S : Int := p.sold - p.voided
      let B : Int := (p.redeemedBase - p.refundedBase) + (p.redeemedPromo - p.refundedPromo)
      let f : Int := roundHalfEven ((max B 0).toNat * c.redemptionRate) 1000000 + p.count * c.fixedFee
      let k : Int := roundHalfEven ((max S 0).toNat * c.commissionRate) 1000000
      p.saturated || passes f || passes k || passes (B - S - clamp f + clamp k - p.sponsor + x.carry)
    ∃ u : State,
      (∀ i, i ∉ s.period.roster → u.shop i = s.shop i) ∧
      (∀ i ∈ s.period.roster, u.shop i = { s.shop i with
        payout :=
          let r := (s.shop i).result
          if r.held then { state := .held, amount := 0, serial := 0 }
          else if 0 < r.due then
            { state := if within i then .due else .deferred, amount := r.due.toNat, serial := 0 }
          else { state := .none, amount := 0, serial := 0 } }) ∧
      (∀ n, n < 4 → u.channel n = { s.channel n with cursor := none }) ∧
      u.period = { s.period with
        state := .settling
        cursor := 512
        summaries := s.period.summaries.map (fun m => if m.period = s.period.closing then { m with
            computation := some {
              day := s.time.day
              clock := s.time.clock
              sumS := sum (fun x => x.closing.sold - x.closing.voided)
              sumB := sum (fun x => (x.closing.redeemedBase - x.closing.refundedBase) +
                (x.closing.redeemedPromo - x.closing.refundedPromo))
              sumF := sum (fun x => x.result.fee)
              sumK := sum (fun x => x.result.commission)
              sumP := sum (fun x => x.closing.sponsor)
              sumC := sum (fun x => x.carry)
              sumT := sum (fun x => x.result.net)
              noneCount := rosterCount u .none
              dueCount := rosterCount u .due
              deferredCount := rosterCount u .deferred
              heldCount := rosterCount u .held
              dueTotal := rosterTotal u .due
              deferredTotal := rosterTotal u .deferred
              heldShops := s.period.roster.countP (fun i => (s.shop i).result.held)
              heldByClamp := s.period.roster.countP (fun i => (s.shop i).result.held && byClamp (s.shop i)) } }
          else m) } ∧
      (let closeDone : Notice := {
          cls := .closeDone
          payload := [Fld.u32 s.period.closing, .u32 s.period.live, .u32 s.period.roster.length, .u32 (rosterCount u .due),
                      .u32 (rosterCount u .deferred), .u32 (rosterCount u .held), .u32 (rosterCount u .none),
                      .u64 (rosterTotal u .due), .u64 (rosterTotal u .deferred),
                      .u32 (s.period.roster.countP (fun i => (s.shop i).result.held)),
                      .u32 (s.period.roster.countP (fun i => (s.shop i).result.held && byClamp (s.shop i)))] }
       u.tLink = (giveNotice closeDone s).tLink ∧ u.aLink = (giveNotice closeDone s).aLink) ∧
      u = { s with shops := u.shops, channels := u.channels, period := u.period, tLink := u.tLink, aLink := u.aLink } ∧
      (rosterCount u .due = 0 → releaseHolds u = true ∧
        exec .closeComputationEnd s = .next (giveNotice (periodReleased u) (release u))) ∧
      (rosterCount u .due ≠ 0 → ∃ t, exec .closeComputationEnd s = .next t ∧ t = { u with channels := t.channels } ∧
        ∀ n, n < 4 → t.channel n =
          (let c := u.channel n
           if c.enabled = true ∧ c.autoStart = true ∧ c.state = .idle then
            { c with state := .running, cursor := none, totals := zeroTotals, timedOut := false }
          else c))

/-- 07 R137: the release condition. 07 R135, R138, 06 R108, 05 R90, R92, 01 R5, 08 R150: the release sets every roster shop's carry by its
payout record and its attention mark where HELD, completes the summary, gives the Journal the period number, purges the cards closed
before the period, ends the running runs with RUN_DONE, and takes a pending close by 07 R127; payout records and every other field
stay, but for what that close swaps. (That JOURNAL_RESERVE comes before the RUN_DONE notices, and these in channel order, is the model's
choice, log 15; the number after the highest live number is log 11.) -/
def Obligations.ReleaseBringsCarryForward : Prop :=
  (∀ s : State, releaseHolds s = true ↔ s.period.state = .settling ∧ ∀ i ∈ s.period.roster,
    (s.shop i).payout.state ≠ .due ∧ (s.shop i).payout.state ≠ .offered ∧ (s.shop i).payout.state ≠ .uncertain) ∧
  ∀ s : State, tablesFormed s → releaseHolds s = true →
    let t := release s
    let settled := fun i : Nat =>
      let x := s.shop i
      if i ∈ s.period.roster then
        { x with
          carry := match x.payout.state with
            | .failed => x.result.newCarry + x.payout.amount
            | .deferred => x.result.newCarry + x.payout.amount
            | .held => x.result.net
            | _ => x.result.newCarry
          attention := x.attention || decide (x.payout.state = .held) }
      else x
    t.journal = { s.journal with released := s.period.closing } ∧
    t.cards = s.cards.filter (fun e => !(e.2.state = .closed && e.2.closedPeriod.any (fun n => n < s.period.closing))) ∧
    t = { s with
      shops := t.shops, journal := t.journal, cards := t.cards, channels := t.channels, period := t.period, tLink := t.tLink
      aLink := t.aLink } ∧
    (∀ n, n < 4 → t.channel n =
      if (s.channel n).state = .running then { s.channel n with state := .idle, cursor := none } else s.channel n) ∧
    (let ns := reserveNotices s { s with journal := { s.journal with released := s.period.closing } } ++
        ((List.range 4).filter (fun n => (s.channel n).state = .running)).map (runDone s)
     t.tLink = (giveNotices ns s).tLink ∧ t.aLink = (giveNotices ns s).aLink) ∧
    (let ms := s.period.summaries.map (fun m => if m.period = s.period.closing then { m with
        release := some {
          day := s.time.day
          clock := s.time.clock
          paidCount := rosterCount s .paid
          paidTotal := rosterTotal s .paid
          failedCount := rosterCount s .failed
          failedTotal := rosterTotal s .failed
          deferredCount := rosterCount s .deferred
          deferredTotal := rosterTotal s .deferred
          heldCount := rosterCount s .held
          heldTotal := rosterTotal s .held
          carrySum := (s.period.roster.map (fun i => releasedCarry (s.shop i))).sum
          madeReleasable := madeReleasable s
          purged := purgedCards s } } else m)
     (s.period.closePending = none →
        (∀ i, t.shop i = settled i) ∧ t.period = { s.period with state := .released, summaries := ms }) ∧
     (∀ cause, s.period.closePending = some cause →
        (∀ i, t.shop i = if (s.shop i).state = .unused then settled i else { settled i with
          closing := (s.shop i).live, closingSchedule := (s.shop i).schedule, live := zeroPosition,
          schedule := (s.shop i).staged.getD (s.shop i).schedule, staged := none,
          result := { zeroResult with computed := false }, payout := { state := .none, amount := 0, serial := 0 } }) ∧
        (s.period.live < 4294967295 → t.period.live = s.period.live + 1) ∧
        (let roster := (t.shops.filter (fun e => e.2.state ≠ .unused)).map (fun e => e.1)
         let m : Summary := {
          period := s.period.live, cause := cause, day := s.time.day, clock := s.time.clock, firstSeq := s.journal.next,
          rosterCount := roster.length, computation := none, release := none }
         t.period = { s.period with
          closing := s.period.live, live := t.period.live, state := .closing, cursor := 0, roster := roster, closePending := none,
          countdown := if s.period.mode = .interval then s.period.interval * 60 else s.period.countdown,
          summaries := (if 8 ≤ ms.length then ms.tail else ms) ++ [m] })))

/-! ## Payout channels -/

/-- 08 R143 to R145, R154, R155, R158: configuring a channel outside SETTLING, starting, suspending and resuming a run write that channel's
record and nothing else; CHANNEL_STATUS reads it, field by field. (How an absent cursor travels is log 8; a run of a disabled channel is
log 39.) -/
def Obligations.ChannelRequestsWriteTheChannel : Prop :=
  let config := fun y : Channel =>
    [Fld.flag y.enabled] ++
      (match y.range with
        | none => [Fld.flag false]
        | some r => [Fld.flag true, .u16 r.1, .u16 r.2]) ++ [Fld.flag y.autoStart, .u16 y.timeout]
  let stateCode := fun x : ChannelState => [ChannelState.idle, .running, .offerWait, .suspended, .fault].idxOf x
  ∀ (tag n : Nat) (s : State), ready .a s = true → storeValid s = true → n < 4 →
    let c := s.channel n
    let wrote := fun y : Channel => { s with channels := tableWrite idleChannel n y s.channels }
    (∀ a : ChannelArg, (∀ r, a.range = some r → r.1 ≤ r.2 ∧ r.2 ≤ 511) → (c.range = a.range ∨ s.ctrl.mode = .config) →
      ((c.enabled = a.enabled ∧ c.range = a.range) ∨ c.state = .idle) →
      (a.enabled = true → ∀ m, m < 4 → m ≠ n → (s.channel m).enabled = true → rangesMeet (s.channel m).range a.range = false) →
      ¬(s.period.state = .settling ∧ c.enabled = true ∧ (a.enabled = false ∨ c.range ≠ a.range)) →
      let y : Channel := { c with
        enabled := a.enabled, range := a.range, autoStart := a.autoStart, timeout := min (max a.timeout 5) 600 }
      exec (.setChannel .a tag n a) s = .next (replied .a 0x58 tag ⟨.ok, config y⟩ (wrote y))) ∧
    (c.state = .idle → s.period.state = .settling → exec (.startRun .a tag n) s = .next (replied .a 0x59 tag
      ⟨.ok, [Fld.u32 (rangeIn s c .due).length]⟩
      (wrote { c with state := .running, cursor := none, totals := zeroTotals, timedOut := false }))) ∧
    (c.state = .running ∨ c.state = .offerWait ∨ c.state = .suspended → exec (.suspendChannel .a tag n) s = .next
      (replied .a 0x5B tag ⟨.ok, [Fld.u8 3, .flag c.offer.isSome]⟩ (wrote { c with state := .suspended }))) ∧
    (c.state = .suspended →
      let x : ChannelState := if c.offer.any (fun o => o.queued) then .offerWait else .running
      exec (.resumeChannel .a tag n) s = .next
        (replied .a 0x5C tag ⟨.ok, [Fld.u8 (stateCode x), .flag false]⟩ (wrote { c with state := x }))) ∧
    (c.state = .fault → exec (.resumeChannel .a tag n) s = .next (replied .a 0x5C tag
      ⟨.ok, [Fld.u8 1] ++ optFld .u32 (c.offer.map (fun o => o.serial))⟩
      (wrote { c with
        state := .running, timedOut := false, offer := c.offer.map (fun o => { o with queued := false, reoffer := true }) }))) ∧
    (c.state = .running ∨ c.state = .offerWait → exec (.resumeChannel .a tag n) s = .next
      (replied .a 0x5C tag ⟨.ok, [Fld.u8 (stateCode c.state), .flag false]⟩ (wrote c))) ∧
    (c.state = .idle → exec (.resumeChannel .a tag n) s = .next (replied .a 0x5C tag ⟨.channelState, []⟩ s)) ∧
    (c.state = .idle ∨ c.state = .fault → exec (.suspendChannel .a tag n) s = .next (replied .a 0x5B tag ⟨.channelState, []⟩ s)) ∧
    (c.state ≠ .idle → exec (.startRun .a tag n) s =
      .next (replied .a 0x59 tag ⟨.runActive, [Fld.u8 (stateCode c.state)]⟩ s)) ∧
    (c.state = .idle → s.period.state ≠ .settling →
      exec (.startRun .a tag n) s = .next (replied .a 0x59 tag ⟨.noPeriod, []⟩ s)) ∧
    (let count := fun x : PayoutState => Fld.u32 (s.shops.countP (fun e => inRange e.1 c.range && e.2.payout.state = x))
     exec (.channelStatus .a tag n) s = .next (replied .a 0x5E tag
      ⟨.ok, config c ++ [Fld.u8 (stateCode c.state), .u8 (if c.timedOut then 1 else 0)] ++ optFld .u16 c.cursor ++
        (match c.offer with
          | none => [Fld.flag false]
          | some o =>
            [Fld.flag true, .u16 o.shop, .u32 o.serial, .u64 (s.shop o.shop).payout.amount, .flag o.queued] ++
              (if o.queued then [Fld.flag true, .u16 c.remaining] else [Fld.flag false])) ++
        [Fld.u32 c.totals.paidCount, .u64 c.totals.paidAmount, .u32 c.totals.failedCount, .u64 c.totals.failedAmount,
         .u32 c.totals.deferredCount, .u64 c.totals.deferredAmount, count .due, count .offered, count .uncertain, .u32 s.serial,
         .u32 s.period.closing, .u8 ([ClosingState.closing, .settling, .released].idxOf s.period.state)]⟩ s))

/-- 08 R144: in SETTLING, disabling an enabled channel, or moving its range, defers the DUE records of the old range that it
leaves, amounts kept. 08 R156: a reset in any state defers the offered record and the DUE records of the range, counts them, and
leaves the channel IDLE. 07 R137: where that makes the release condition hold the release follows (what it does:
ReleaseBringsCarryForward). (Which range a disabling move leaves is log 17; that the stopped timer keeps its value is log
18; that PERIOD_RELEASED comes after the reply, and what it carries, are logs 16 and 36.) -/
def Obligations.DisablingAndResettingDefer : Prop :=
  (∀ (tag n : Nat) (a : ChannelArg) (s : State), ready .a s = true → storeValid s = true → n < 4 →
    let c := s.channel n
    (∀ r, a.range = some r → r.1 ≤ r.2 ∧ r.2 ≤ 511) → (c.range = a.range ∨ s.ctrl.mode = .config) → c.state = .idle →
    (a.enabled = true → ∀ m, m < 4 → m ≠ n → (s.channel m).enabled = true → rangesMeet (s.channel m).range a.range = false) →
    s.period.state = .settling → c.enabled = true → (a.enabled = false ∨ c.range ≠ a.range) → tablesFormed s →
    let y : Channel := { c with
      enabled := a.enabled, range := a.range, autoStart := a.autoStart, timeout := min (max a.timeout 5) 600 }
    ∃ u : State, exec (.setChannel .a tag n a) s = .next (repliedTested .a 0x58 tag
        ⟨.ok, [Fld.flag y.enabled] ++
          (match y.range with
            | none => [Fld.flag false]
            | some r => [Fld.flag true, .u16 r.1, .u16 r.2]) ++ [Fld.flag y.autoStart, .u16 y.timeout]⟩ u) ∧
      u.channels = tableWrite idleChannel n y s.channels ∧ u = { s with channels := u.channels, shops := u.shops } ∧
      ∀ i, u.shop i =
        (if (s.shop i).payout.state = .due ∧ inRange i c.range = true ∧ (a.enabled = false ∨ inRange i a.range = false) then
          { s.shop i with payout := { (s.shop i).payout with state := .deferred } }
        else s.shop i)) ∧
  (∀ (tag n : Nat) (s : State), ready .a s = true → storeValid s = true → n < 4 → tablesFormed s →
    let c := s.channel n
    let due := (s.shops.filter (fun e => inRange e.1 c.range && e.2.payout.state = .due)).map (fun e => e.1)
    let is := (c.offer.map (fun o => o.shop)).toList ++ due
    let sum := (is.map (fun i => (s.shop i).payout.amount)).sum
    ∃ u : State, exec (.resetChannel .a tag n) s = .next (repliedTested .a 0x5D tag
        ⟨.ok, [Fld.u32 is.length, .u64 sum] ++ optFld .u32 (c.offer.map (fun o => o.serial))⟩ u) ∧
      u.channels = tableWrite idleChannel n { c with
        state := .idle, cursor := none, offer := none, timedOut := false,
        totals := { c.totals with
          deferredCount := c.totals.deferredCount + is.length, deferredAmount := c.totals.deferredAmount + sum } } s.channels ∧
      (∀ i, u.shop i = if i ∈ is then { s.shop i with payout := { (s.shop i).payout with state := .deferred } } else s.shop i) ∧
      u = { s with channels := u.channels, shops := u.shops })

/-- 08 R147 to R150: a walk step offers the lowest DUE shop of the range above the cursor under the next serial, or ends the run with RUN_DONE
where there is none. 08 R149, 11 R189: the waiting offer of the lowest channel enters an A-link queue with 2 free places, with the shop's
account as it then stands; its timer is loaded and a RUNNING channel becomes OFFER_WAIT; of several, each that still finds 2 free places
follows in the same action, by channel; where none waits, or there is no room, or a RESTART drains, none enters. (That an offer which
finds room as it is made enters at its own command, or at the latest before the next, is log 3.) -/
def Obligations.OffersAreMadeAndQueued : Prop :=
  (∀ (n : Nat) (s : State), s.power = true → quiet s = true → tablesFormed s →
    let c := s.channel n
    let dueAbove := fun i : Nat => (s.shop i).payout.state = .due ∧ inRange i c.range = true ∧ (∀ k, c.cursor = some k → k < i)
    c.state = .running → c.offer = none →
    (∀ i, dueAbove i → (∀ k, dueAbove k → i ≤ k) →
      let serial := if s.serial = 4294967295 then 1 else s.serial + 1
      exec (.runWalkStep n) s = .next { s with
        shops := tableWrite unusedShop i
          { s.shop i with payout := { (s.shop i).payout with state := .offered, serial := serial } } s.shops
        channels := tableWrite idleChannel n
          { c with offer := some { shop := i, serial := serial, queued := false, reoffer := false }, cursor := some i } s.channels
        serial := serial }) ∧
    ((∀ i, ¬dueAbove i) →
      ∃ t, exec (.runWalkStep n) s = .next t ∧
        t = giveNotice (runDone s n)
          { s with channels := tableWrite idleChannel n { c with state := .idle, cursor := none } s.channels })) ∧
  (∀ (n : Nat) (o : Offer) (s : State), s.ctrl.draining = false → 2 ≤ freePlaces s.aLink → n < 4 →
    (s.channel n).offer = some o → o.queued = false → (∀ m, m < n → offerWaits (s.channel m) = false) →
    let c := s.channel n
    let u : State := { s with
      channels := tableWrite idleChannel n { c with
        offer := some { o with queued := true }, remaining := c.timeout,
        state := if c.state = .running then .offerWait else c.state } s.channels
      aLink := { s.aLink with tx := s.aLink.tx ++ [.notice 9
        [Fld.u8 n, .u32 o.serial, .u32 s.period.closing, .u16 o.shop, .u64 (s.shop o.shop).payout.amount,
         .u64 (s.shop o.shop).account, .flag o.reoffer]] } }
    (s.power = true → exec .payoutOfferEntersQueue s = .next u) ∧ enterOffers s = enterOffers u) ∧
  ∀ s : State, s.ctrl.draining = true ∨ freePlaces s.aLink < 2 ∨ (∀ n, n < 4 → offerWaits (s.channel n) = false) →
    exec .payoutOfferEntersQueue s = .next s ∧ enterOffers s = s

/-- 08 R151, R152, 07 R137: a result for a queued outstanding offer, or for an UNCERTAIN record whatever channel it names, resolves the
record, and where that makes the release condition hold the release follows (what it does: ReleaseBringsCarryForward), of which the
reply says whether it does; any other serial is STALE_RESULT and changes nothing. (The fields of STALE_RESULT are log 8; that
the stopped timer keeps its value is log 18; that PERIOD_RELEASED comes after the reply, and what it carries, are logs 16 and 36.) -/
def Obligations.ResultsResolveOffers : Prop :=
  ∀ (tag n serial code : Nat) (y : PayoutState) (s : State), ready .a s = true → storeValid s = true → n < 4 → serial ≠ 0 →
    (code, y) = (0, .paid) ∨ (code, y) = (1, .failed) ∨ (code, y) = (2, .deferred) →
    let c := s.channel n
    let matched := fun o : Offer => c.offer = some o ∧ o.queued = true ∧ o.serial = serial ∧
      (c.state = .offerWait ∨ c.state = .suspended ∨ c.state = .fault)
    let resolved := fun i : Nat => tableWrite unusedShop i
      { s.shop i with payout := { (s.shop i).payout with state := y } } s.shops
    let answer := fun (i : Nat) (u : State) =>
      exec (.payoutResult .a tag n serial code) s = .next (repliedTested .a 0x5A tag
        ⟨.ok, [Fld.u16 i, .u64 (s.shop i).payout.amount,
               .u8 ([PayoutState.none, .due, .offered, .uncertain, .paid, .failed, .deferred, .held].idxOf y),
               .flag (releaseHolds u)]⟩ u)
    (∀ o, matched o →
      let a := (s.shop o.shop).payout.amount
      answer o.shop { s with
        shops := resolved o.shop
        channels := tableWrite idleChannel n { c with
            offer := none
            state := if c.state = .offerWait then .running else c.state
            totals := {
              paidCount := c.totals.paidCount + (if code = 0 then 1 else 0)
              paidAmount := c.totals.paidAmount + (if code = 0 then a else 0)
              failedCount := c.totals.failedCount + (if code = 1 then 1 else 0)
              failedAmount := c.totals.failedAmount + (if code = 1 then a else 0)
              deferredCount := c.totals.deferredCount + (if code = 2 then 1 else 0)
              deferredAmount := c.totals.deferredAmount + (if code = 2 then a else 0) } } s.channels }) ∧
    (∀ i, (∀ o, ¬matched o) → tablesFormed s → (s.shop i).payout.state = .uncertain → (s.shop i).payout.serial = serial →
      (∀ k, (s.shop k).payout.state = .uncertain → (s.shop k).payout.serial = serial → k = i) →
      answer i { s with shops := resolved i }) ∧
    ((∀ o, ¬matched o) → (∀ i, (s.shop i).payout.state = .uncertain → (s.shop i).payout.serial ≠ serial) → tablesFormed s →
      let i := s.period.roster.find? (fun i => (s.shop i).payout.serial = serial)
      exec (.payoutResult .a tag n serial code) s = .next (replied .a 0x5A tag
        ⟨.staleResult, [Fld.u32 serial] ++
          (match i with
            | none => [Fld.flag false, .flag false]
            | some i => [Fld.flag true, .u16 i, .flag true,
                .u8 ([PayoutState.none, .due, .offered, .uncertain, .paid, .failed, .deferred, .held].idxOf
                  (s.shop i).payout.state)])⟩ s))

/-! ## Time and timers -/

/-- 09 R165 to R167, R169, R170: setting the clock, the rollover second, the day or the gate writes that field and nothing else, and raises no
rollover; TIME_STATUS reads them. SET_TIME is taken in a BLANK store too. (That the gate travels as a flag is log 42.) -/
def Obligations.TimeRequestsWriteOneField : Prop :=
  ∀ (tag v : Nat) (on : Bool) (s : State), ready .a s = true → s.ctrl.initInFlight = false →
    let second := fun c : Nat => c % 86400
    let left := fun (c r : Nat) => if c % 86400 < r then r - c % 86400 else r + 86400 - c % 86400
    exec (.setTime .a tag v) s = .next (replied .a 0x60 tag
      ⟨.ok, [Fld.u32 v, .u32 (second v), .u16 s.time.day, .u32 (left v s.time.rolloverSecond)]⟩
      { s with time := { s.time with clock := v, timeSet := true } }) ∧
    (s.ctrl.store = .valid →
      exec (.setDay .a tag v) s = .next (replied .a 0x61 tag ⟨.ok, [Fld.u16 v]⟩ { s with time := { s.time with day := v } }) ∧
      (v ≤ 86399 → exec (.setRollover .a tag v) s = .next (replied .a 0x62 tag
        ⟨.ok, [Fld.u32 v, .u32 (left s.time.clock v)]⟩ { s with time := { s.time with rolloverSecond := v } })) ∧
      (86399 < v → exec (.setRollover .a tag v) s = .next (replied .a 0x62 tag ⟨.badField, []⟩ s)) ∧
      exec (.setTrading .a tag on) s =
        .next (replied .a 0x63 tag ⟨.ok, [Fld.flag on]⟩ { s with time := { s.time with trading := on } }) ∧
      exec (.timeStatus .a tag) s = .next (replied .a 0x65 tag
        ⟨.ok, [Fld.u32 s.time.clock, .u32 (second s.time.clock), .flag s.time.timeSet, .u16 s.time.day, .u32 s.time.rolloverSecond] ++
          (if s.time.timeSet then [Fld.flag true, .u32 (left s.time.clock s.time.rolloverSecond)] else [Fld.flag false]) ++
          [Fld.flag s.time.trading,
           .flag (s.period.mode = .interval && s.ctrl.mode = .opened && s.time.trading)]⟩ s))

/-- 09 R163: a tick moves the clock on by one second, raises a rollover where the time is set and the new second of day is the
rollover second, and takes a second from every PLACED hold, every channel in OFFER_WAIT and the running interval countdown;
nothing else. (That the events of the tick then wait to be taken is log 3.) -/
def Obligations.TickCountsEveryTimer : Prop :=
  ∀ s : State, s.power = true → quiet s = true →
    let c := if s.time.clock + 1 = 4294967296 then 0 else s.time.clock + 1
    s.time.clock < 4294967296 →
    ∃ t, exec .tick s = .next t ∧
      t.time = { s.time with
        clock := c, rolloverDue := decide (s.time.timeSet = true ∧ c % 86400 = s.time.rolloverSecond) } ∧
      (∀ n, t.holdSlot n = { s.holdSlot n with
        hold := (s.holdSlot n).hold.map (fun h => { h with remaining := h.remaining - 1 }) }) ∧
      (∀ n, t.channel n = if (s.channel n).state = .offerWait then
        { s.channel n with remaining := (s.channel n).remaining - 1 } else s.channel n) ∧
      t.period = { s.period with
        countdown := if s.period.mode = .interval ∧ s.ctrl.mode = .opened ∧ s.time.trading = true then s.period.countdown - 1
          else s.period.countdown } ∧
      t = { s with time := t.time, holds := t.holds, channels := t.channels, period := t.period }

/-- 02 R32 to R34: a hold with no seconds left returns its parts to its card or to pending expiry, frees its slot with last end EXPIRED, and
HOLD_EXPIRED is given; nothing is journaled; a hold with seconds left stays. 08 R153: a confirm timer that has run out faults its channel
with cause TIMEOUT, its offer and the record kept, and CHANNEL_FAULT is given. (That the expiry of a hold with seconds left has no
effect is log 5.) -/
def Obligations.TimersThatRunOutAct : Prop :=
  (∀ (n : Nat) (h : Hold) (c : Card) (s : State), s.power = true → (∀ m, m < 4 → offerMayEnter s m = false) →
    (s.holdSlot n).hold = some h → s.card? h.card = some c →
    (h.remaining ≠ 0 → exec (.holdExpiry n) s = .next s) ∧
    (h.remaining = 0 →
      let g := (s.holdSlot n).gen
      let back := returnPromo s h.parts.promo c.buckets
      ∃ t, exec (.holdExpiry n) s = .next t ∧
        t.holds = tableWrite freeHoldSlot n { gen := if g = 65535 then 0 else g + 1, lastEnd := .expired, hold := none } s.holds ∧
        (∃ bs, t.cards = tablePut h.card { c with
            base := c.base + h.parts.base, buckets := bs, holds := c.holds.filter (fun r => r ≠ ⟨n, g⟩) } s.cards ∧
          bs.Sublist back.1 ∧
          (∀ b ∈ back.1, b ∈ bs ↔ (b.amount ≠ 0 ∨ referred t (c.holds.filter (fun r => r ≠ ⟨n, g⟩)) b))) ∧
        (∀ p, t.pool p = { s.pool p with
          pending := (s.pool p).pending + ((back.2.filter (fun x => x.1 = p)).map (fun x => x.2)).sum }) ∧
        t = { s with holds := t.holds, cards := t.cards, pools := t.pools, tLink := t.tLink, aLink := t.aLink } ∧
        (let notice : Notice :=
          { cls := .holdExpired, payload := [Fld.u16 n, .u16 g, .u64 h.card, .u16 h.shop, .u32 h.total, .u32 h.ref] }
         t.tLink = (giveNotice notice s).tLink ∧ t.aLink = (giveNotice notice s).aLink))) ∧
  (∀ (n : Nat) (o : Offer) (s : State), s.power = true → (∀ m, m < 4 → offerMayEnter s m = false) →
    (s.channel n).state = .offerWait → (s.channel n).remaining = 0 → (s.channel n).offer = some o →
    ∃ t, exec (.confirmTimeout n) s = .next t ∧
      t.channels = tableWrite idleChannel n { s.channel n with state := .fault, timedOut := true } s.channels ∧
      t = { s with channels := t.channels, tLink := t.tLink, aLink := t.aLink } ∧
      (let notice : Notice :=
        { cls := .channelFault
          payload := [Fld.u8 n, .u8 1, .u32 o.serial, .u16 o.shop, .u64 (s.shop o.shop).payout.amount, .u32 s.period.closing] }
       t.tLink = (giveNotice notice s).tLink ∧ t.aLink = (giveNotice notice s).aLink))

/-- 09 R164, R168, 04 R78, R80, R83, 05 R92, 07 R126: a rollover, raised by ADVANCE_DAY or by the tick, is one action in the Time Base: the day
moves on, the rollover is handed to the Pool Table, the Period Controller and the Journal, and DAY_ROLLED is given with its cause. Each
block then reacts by itself, whichever comes first, against its state and the day as they then stand: the sweep starts, or a walk in
flight starts again with its figures kept, and POOL_LOW is repeated; in DAILY mode a close is requested; JOURNAL_RESERVE is repeated.
Requests are taken while reactions wait, and leave them waiting. (Which block reacts next is a free value, and that STORE_INITIALISE
drops the reactions that wait is the model's choice, log 29; the order of the notices is log 15.) -/
def Obligations.RolloverStartsTheDay : Prop :=
  let rolled := fun (cause : Nat) (s : State) =>
    let day := if s.time.day = 65535 then 0 else s.time.day + 1
    (({ s with time := { s.time with
        day := day, rolloverDue := false, handed := s.time.handed ++ [.poolTable, .periodController, .journal] } } : State),
     ({ cls := .dayRolled, payload := [Fld.u16 day, .u16 s.time.day, .u32 s.time.clock, .u8 cause] } : Notice))
  (∀ (tag : Nat) (s : State), ready .a s = true → storeValid s = true →
    ∃ t, exec (.advanceDay .a tag) s = .next t ∧ t = { (rolled 1 s).1 with tLink := t.tLink, aLink := t.aLink } ∧
      repliedWith .a 0x64 tag ⟨.ok, [Fld.u16 t.time.day]⟩ [(rolled 1 s).2] s t) ∧
  (∀ s : State, s.power = true → (∀ m, m < 4 → offerMayEnter s m = false) →
    (s.time.rolloverDue = true → exec .dayRollover s = .next (giveNotice (rolled 0 s).2 (rolled 0 s).1)) ∧
    (s.time.rolloverDue = false → s.time.handed = [] → exec .dayRollover s = .next s) ∧
    (s.time.rolloverDue = false → s.time.handed ≠ [] → ∃ b, b ∈ s.time.handed ∧
      let u := { s with time := { s.time with handed := s.time.handed.erase b, turn := s.time.turn + 1 } }
      (b = .poolTable → exec .dayRollover s = .next
        (giveNotices (((List.range 16).filter (fun p => isLow (s.pool p))).map (lowNotice s))
          { u with sweep := {
              inFlight := true, day := s.time.day, cursor := 0, swept := if s.sweep.inFlight then s.sweep.swept else [] } })) ∧
      (b = .periodController →
        (s.period.mode ≠ .daily → exec .dayRollover s = .next u) ∧
        (s.period.mode = .daily → s.period.state ≠ .released → exec .dayRollover s = .next
          { u with period := { s.period with closePending := some (s.period.closePending.getD .daily) } }) ∧
        (s.period.mode = .daily → s.period.state = .released → exec .dayRollover s = .next (takeClose .daily u))) ∧
      (b = .journal → exec .dayRollover s = .next
        (if writable s.journal ≤ 64 then giveNotice (journalReserveNotice s) u else u)))) ∧
  ∀ (i : Instr) (s t : State), isRequest i = true → ready (requestLink i) s = true → exec i s = .next t →
    (∀ l tag, i ≠ .advanceDay l tag) → (∀ l tag, i ≠ .storeInitialise l tag) → t.time.handed = s.time.handed

/-- 01 R9, 04 R78: a visit of the sweep empties the next occupied slot's card of every bucket whose day is below the sweep day
or whose pool is CLOSED, into the pending expiry of the buckets' pools; 01 R7: of the buckets, a bucket of amount 0 goes where no
PLACED hold of the card has a part drawn from it, and no other does. 04 R81, 05 R89: the end of the sweep journals each pool's whole
pending expiry in one EXPIRE entry, in pool order, for as many pools as there are writable entries, a full ring losing its oldest
entries; their totals move with it, the other pools stay, and in flight is cleared; where nothing is writable no entry is written.
05 R92, 04 R82: JOURNAL_RESERVE is given where the entries bring the writable count to 64, then PROMO_SWEPT with the figures of the
pools, at most eight in each. (The cursor after the last card is log 19; the order of the notices is log 15.) -/
def Obligations.SweepCollectsAndJournals : Prop :=
  (∀ s : State, s.power = true → quiet s = true → s.sweep.inFlight = true → tablesFormed s →
    ((∀ e ∈ s.cards, e.2.slot < s.sweep.cursor) →
      exec .sweepVisit s = .next { s with sweep := { s.sweep with cursor := 262144 } }) ∧
    (∀ (id : Nat) (c : Card), (id, c) ∈ s.cards → s.sweep.cursor ≤ c.slot →
      (∀ e ∈ s.cards, e.1 ≠ id → s.sweep.cursor ≤ e.2.slot → c.slot < e.2.slot) →
      let gone := fun b : Bucket => b.amount ≠ 0 ∧ (b.expiry < s.sweep.day ∨ (s.pool b.pool).state = .closed)
      let of := fun p : Nat => c.buckets.filter (fun b => decide (b.pool = p ∧ gone b))
      let emptied := fun b : Bucket => if gone b then { b with amount := 0 } else b
      ∃ (t : State) (bs : List Bucket), exec .sweepVisit s = .next t ∧
        t.cards = tablePut id { c with buckets := bs } s.cards ∧
        bs.Sublist (c.buckets.map emptied) ∧ (∀ b ∈ c.buckets.map emptied, b ∈ bs ↔ (b.amount ≠ 0 ∨ referred s c.holds b)) ∧
        (∀ p, t.pool p = { s.pool p with pending := (s.pool p).pending + bucketSum (of p) }) ∧
        (∀ p, sweptFigures t p = ⟨(sweptFigures s p).value + bucketSum (of p), (sweptFigures s p).buckets + (of p).length⟩) ∧
        t.sweep.cursor = c.slot + 1 ∧ t.sweep.day = s.sweep.day ∧ t.sweep.inFlight = true ∧
        t = { s with cards := t.cards, pools := t.pools, sweep := t.sweep })) ∧
  (∀ s : State, s.power = true → quiet s = true → s.sweep.inFlight = true → (∀ e ∈ s.cards, e.2.slot < s.sweep.cursor) →
    s.journal.released < s.period.live →
    let ps := (List.range 16).filter (fun p => (s.pool p).pending ≠ 0)
    let qs := (List.range 16).filter (fun p => (sweptFigures s p).value ≠ 0 ∨ (s.pool p).pending ≠ 0)
    let swept := fun (written xs : List Nat) (more : Bool) =>
      ({ cls := .promoSwept
         payload := [Fld.u16 s.sweep.day] ++
           listFlds (xs.map (fun p =>
             [Fld.u8 p, .u64 (sweptFigures s p).value, .u32 (sweptFigures s p).buckets,
              .u64 (if p ∈ written then (s.pool p).pending else 0), .u64 (if p ∈ written then 0 else (s.pool p).pending)])) ++
           [Fld.flag more] } : Notice)
    let told := fun written : List Nat =>
      if 8 < qs.length then [swept written (qs.take 8) true, swept written (qs.drop 8) false] else [swept written qs false]
    let ended := { s with sweep := { s.sweep with inFlight := false, cursor := 262144 } }
    (writable s.journal = 0 → exec .sweepEnd s = .next (giveNotices (told []) ended)) ∧
    (s.journal.entries.length + 16 ≤ 65536 ∨ (journalOrdered s ∧ s.journal.entries.length ≤ 65536) →
      let w := ps.take (writable s.journal)
      let after := fun top first n : Nat => if n = top then first else n + 1
      let es := s.journal.entries ++ w.mapIdx (fun k p =>
        { stamped s .expire (s.pool p).pending with
          seq := (after 4294967295 1)^[k] s.journal.next
          parts := [{ pool := p, amount := (s.pool p).pending, expiry := none }]
          swept := some (sweptFigures s p).buckets })
      ∃ t, exec .sweepEnd s = .next t ∧
        t.journal = { s.journal with
          entries := es.drop (es.length - 65536)
          next := (after 4294967295 1)^[w.length] s.journal.next
          writePos := (after 65535 0)^[w.length] s.journal.writePos
          wraps := t.journal.wraps
          counters := { s.journal.counters with
            expiredPromo := s.journal.counters.expiredPromo + BitVec.ofNat 64 ((w.map (fun p => (s.pool p).pending)).sum) } } ∧
        (s.journal.writePos < 65536 → s.journal.wraps < 2 ^ 32 →
          t.journal.wraps = (s.journal.wraps + (if 65536 ≤ s.journal.writePos + w.length then 1 else 0)) % 2 ^ 32) ∧
        (∀ p, t.pool p =
          if p ∈ w then { s.pool p with
            pending := 0, expired := (s.pool p).expired + (s.pool p).pending
            recycled := if (s.pool p).recycle then (s.pool p).recycled + (s.pool p).pending else (s.pool p).recycled }
          else s.pool p) ∧
        t = { ended with pools := t.pools, journal := t.journal, tLink := t.tLink, aLink := t.aLink } ∧
        (let oldest := t.journal.entries.find? (fun e => s.journal.released < e.period)
         let reserve : Notice :=
          { cls := .journalReserve
            payload := [Fld.u32 64, .u32 ((oldest.map (fun e => e.seq)).getD 0), .u32 ((oldest.map (fun e => e.period)).getD 0),
                        .u32 s.journal.released, .u32 s.period.live] }
         let ns := (if 64 < writable s.journal ∧ writable t.journal ≤ 64 then [reserve] else []) ++ told w
         t.tLink = (giveNotices ns s).tLink ∧ t.aLink = (giveNotices ns s).aLink)))

/-! ## The part -/

/-- 10 R173, R174, R181, R182, 11 R191: opening, leaving OPEN, identification, status and routing, the replies field by field. (The request
set version in the reply of IDENTIFY is a free value (log 10); how its names travel is log 8, and the widths of the version and of the
largest payload log 43; how the channels' states and the routing table travel is log 44, and the trading gate log 42.) -/
def Obligations.PartRequestsSetTheMode : Prop :=
  let text := fun bytes : List Nat => Fld.u8 bytes.length :: bytes.map .u8
  let wiljapor := text [87, 105, 108, 106, 97, 112, 111, 114]
  let zohrin := text [90, 111, 104, 114, 105, 110]
  let zhs24 := text [90, 72, 83, 45, 50, 52]
  let routes := fun r : Routes =>
    [r.holdExpired, r.promoSwept, r.dayRolled, r.poolLow, r.journalReserve, r.closeDone, r.periodReleased, r.runDone,
     r.channelFault].map (fun x => Fld.u8 ([Route.aLink, .tLink, .both, .none].idxOf x))
  ∀ (tag : Nat) (s : State), ready .a s = true → s.ctrl.initInFlight = false →
    let conditions := [Fld.u32 s.placedHolds.length, .u8 ([ClosingState.closing, .settling, .released].idxOf s.period.state)] ++
      [0, 1, 2, 3].map (fun n =>
        Fld.u8 ([ChannelState.idle, .running, .offerWait, .suspended, .fault].idxOf (s.channel n).state))
    exec (.identify .a tag) s = .next (replied .a 0x70 tag
      ⟨.ok, wiljapor ++ zohrin ++ zhs24 ++
        [Fld.u32 Config.requestSetVersion, .u32 262144, .u32 1024, .u32 65536, .u32 64, .u32 16, .u32 512, .u32 4, .u32 4, .u32 4,
         .u32 240]⟩ s) ∧
    exec (.partStatus .a tag) s = .next (replied .a 0x71 tag
      ⟨.ok, [Fld.u8 ([Mode.config, .opened].idxOf s.ctrl.mode), .u8 ([StoreState.valid, .blank].idxOf s.ctrl.store),
             .u8 ([RestartCause.powerOn, .request, .initialise].idxOf s.ctrl.lastRestart), .flag s.time.timeSet, .u16 s.time.day,
             .flag s.time.trading] ++ conditions ++ [Fld.flag s.sweep.inFlight] ++
        listFlds (((List.range 16).filter (fun p => isLow (s.pool p))).map (fun p => [Fld.u8 p])) ++
        [Fld.flag (decide (writable s.journal ≤ 64)), .u32 (rosterCount s .uncertain)]⟩ s) ∧
    (s.ctrl.store = .valid →
      exec (.openPart .a tag) s = .next
        (if s.time.timeSet then replied .a 0x73 tag ⟨.ok, [Fld.u8 1, .u16 s.time.day, .flag s.time.trading]⟩
            { s with ctrl := { s.ctrl with mode := .opened } }
          else replied .a 0x73 tag ⟨.timeNotSet, []⟩ s) ∧
      (∀ clear : Prop, (clear ↔ s.placedHolds = [] ∧ s.period.state ≠ .closing ∧ ∀ n, n < 4 → (s.channel n).state = .idle) →
        (s.ctrl.mode = .config → exec (.enterConfig .a tag) s = .next (replied .a 0x72 tag ⟨.ok, []⟩ s)) ∧
        (s.ctrl.mode = .opened → clear → exec (.enterConfig .a tag) s =
          .next (replied .a 0x72 tag ⟨.ok, []⟩ { s with ctrl := { s.ctrl with mode := .config } })) ∧
        (s.ctrl.mode = .opened → ¬clear → exec (.enterConfig .a tag) s = .next (replied .a 0x72 tag
          ⟨.busy, conditions⟩ s))) ∧
      (∀ (k r : Nat) (x : NoticeClass) (y : Route), noticeClassOf k = some x → routeOf r = some y →
        exec (.setRoute .a tag (some (k, r))) s = .next (replied .a 0x76 tag ⟨.ok, routes (setRouteFor s.routes y x)⟩
          { s with routes := setRouteFor s.routes y x })) ∧
      (s.ctrl.mode = .config → exec (.setRoute .a tag none) s =
        .next (replied .a 0x76 tag ⟨.ok, routes defaultRoutes⟩ { s with routes := defaultRoutes })) ∧
      (s.ctrl.mode = .opened → exec (.setRoute .a tag none) s = .next (replied .a 0x76 tag ⟨.configOnly, []⟩ s)))

/-- 10 R172, 11 R185: permission and mode checks: what each link may carry, and what is taken while the store is emptied, BLANK,
in CONFIG and in OPEN; a taken frame that spells no request is refused by its kind, then by permission, then by its shape;
nothing else changes. (Frames that spell no request are log 27, the shape of a selector byte log 45.) -/
def Obligations.ChecksBeforeTheRuleRefuse : Prop :=
  (∀ (i : Instr) (s : State), isRequest i = true →
    let l := requestLink i
    let k := (requestFrame i).kind
    let tag := (requestFrame i).tag
    let terminal := 0x10 ≤ k ∧ k ≤ 0x1A
    let moving := k = 0x10 ∨ k = 0x11 ∨ (0x13 ≤ k ∧ k ≤ 0x19)
    let blank := k = 0x70 ∨ k = 0x71 ∨ k = 0x60 ∨ k = 0x75
    ready l s = true →
    (l = .t → ¬terminal → exec i s = .next (replied l k tag ⟨.notPermitted, []⟩ s)) ∧
    (l = .a ∨ terminal →
      (s.ctrl.initInFlight = true → exec i s = .next (replied l k tag ⟨.busy, []⟩ s)) ∧
      (s.ctrl.initInFlight = false → s.ctrl.store = .blank → ¬blank → exec i s = .next (replied l k tag ⟨.storeBlank, []⟩ s)) ∧
      (s.ctrl.initInFlight = false → s.ctrl.store = .valid → s.ctrl.mode = .config → moving →
        exec i s = .next (replied l k tag ⟨.notOpen, []⟩ s)) ∧
      (s.ctrl.initInFlight = false → s.ctrl.mode = .opened → k = 0x75 →
        exec i s = .next (replied l k tag ⟨.configOnly, []⟩ s)))) ∧
  (∀ (l : Link) (tag kind : Nat) (payload : List Byte) (s : State), ready l s = true →
    decodeFields l tag kind payload = none →
    exec (.unknownRequest l tag kind payload) s = .next (replied l kind tag
      ⟨if listedKind kind = false then .unknownRequest
        else if l = .t ∧ ¬(0x10 ≤ kind ∧ kind ≤ 0x1A) then .notPermitted else .badField, []⟩ s))

/-- 06 R104, R102, 01 R4, R2, R18, 02 R35, R37, R40, 03 R48 to R50, R62, 04 R71, R74: what every request that names a shop or a card is
answered at a shop whose state refuses it, on an absent card and on a card whose state refuses it, once the checks before that one have
passed; nothing changes. (That BALANCE looks for the card before the shop is the model's choice, log 13;
that a hold request at an UNUSED shop is answered WRONG_SHOP is log 8.) -/
def Obligations.ShopAndCardStatesRefuse : Prop :=
  let shopAnswer := fun (x : ShopState) (unused : Result) (barred : Option Result) =>
    match x with
    | .trading => none
    | .barred => barred
    | .departed => some Result.shopDeparted
    | .unused => some unused
  let cardAnswer := fun x : CardState =>
    match x with
    | .active => none
    | .frozen => some Result.cardFrozen
    | .closed => some .cardClosed
  (∀ (l : Link) (tag id shop amount ref : Nat) (flag : Bool) (pool : Option Nat) (s : State),
    ready l s = true → trades s = true → cardIdOk id = true → shopOk shop = true → amountOk amount = true →
    pool.all poolOk = true →
    (∀ r, shopAnswer (s.shop shop).state .noShop (some .shopBarred) = some r →
      exec (.sellCard l tag id shop amount flag pool ref) s = .next (replied l 0x10 tag ⟨r, []⟩ s) ∧
      exec (.reloadCard l tag id shop amount pool ref) s = .next (replied l 0x11 tag ⟨r, []⟩ s) ∧
      exec (.redeem l tag id shop amount flag ref) s = .next (replied l 0x13 tag ⟨r, []⟩ s) ∧
      exec (.placeHold l tag id shop amount flag ref) s = .next (replied l 0x14 tag ⟨r, []⟩ s)) ∧
    ((s.shop shop).state = .trading →
      (s.card? id = none →
        exec (.reloadCard l tag id shop amount pool ref) s = .next (replied l 0x11 tag ⟨.noCard, []⟩ s) ∧
        exec (.redeem l tag id shop amount flag ref) s = .next (replied l 0x13 tag ⟨.noCard, []⟩ s) ∧
        exec (.placeHold l tag id shop amount flag ref) s = .next (replied l 0x14 tag ⟨.noCard, []⟩ s)) ∧
      ∀ c : Card, s.card? id = some c →
        exec (.sellCard l tag id shop amount flag pool ref) s = .next (replied l 0x10 tag ⟨.cardExists, []⟩ s) ∧
        ∀ r, cardAnswer c.state = some r →
          exec (.reloadCard l tag id shop amount pool ref) s = .next (replied l 0x11 tag ⟨r, []⟩ s) ∧
          exec (.redeem l tag id shop amount flag ref) s = .next (replied l 0x13 tag ⟨r, []⟩ s) ∧
          exec (.placeHold l tag id shop amount flag ref) s = .next (replied l 0x14 tag ⟨r, []⟩ s))) ∧
  (∀ (l : Link) (tag n shop amount : Nat) (ref : Option Nat) (h : Hold) (s : State),
    ready l s = true → trades s = true → shopOk shop = true → amountOk amount = true → n < 1024 →
    (s.holdSlot n).hold = some h → h.shop = shop →
    let g := (s.holdSlot n).gen
    (∀ r, shopAnswer (s.shop shop).state .wrongShop none = some r →
      exec (.captureHold l tag n g shop amount ref) s = .next (replied l 0x15 tag ⟨r, []⟩ s)) ∧
    ((s.shop shop).state = .unused → exec (.releaseHold l tag n g shop) s = .next (replied l 0x16 tag ⟨.wrongShop, []⟩ s)) ∧
    (∀ r, shopAnswer (s.shop shop).state .wrongShop (some .shopBarred) = some r →
      exec (.extendHold l tag n g shop) s = .next (replied l 0x17 tag ⟨r, []⟩ s)) ∧
    ((s.shop shop).state = .trading → ∀ (c : Card) (r : Result), s.card? h.card = some c → cardAnswer c.state = some r →
      exec (.extendHold l tag n g shop) s = .next (replied l 0x17 tag ⟨r, []⟩ s))) ∧
  (∀ (l : Link) (tag original shop amount ref : Nat) (target : Option Nat) (e : Entry) (s : State),
    ready l s = true → trades s = true → seqOk original = true → shopOk shop = true → s.entry? original = some e →
    e.shop = some shop →
    (amountOk amount = true → target.all cardIdOk = true → e.kind = .redeem ∨ e.kind = .capture →
      (amount : Int) ≤ refundRemainder e →
      let dest := if target = e.card then e.card.getD 0 else target.getD (e.card.getD 0)
      (∀ r, shopAnswer (s.shop shop).state .noShop none = some r →
        exec (.refund l tag original shop amount target ref) s = .next (replied l 0x18 tag ⟨r, []⟩ s)) ∧
      ((s.shop shop).state = .trading ∨ (s.shop shop).state = .barred →
        (target = none ∨ target = e.card → s.card? dest = none →
          exec (.refund l tag original shop amount target ref) s = .next (replied l 0x18 tag ⟨.noCard, []⟩ s)) ∧
        ∀ (c : Card) (r : Result), s.card? dest = some c → cardAnswer c.state = some r →
          exec (.refund l tag original shop amount target ref) s = .next (replied l 0x18 tag ⟨r, []⟩ s))) ∧
    (e.kind = .sale ∨ e.kind = .reload → e.voided ≠ some true → e.day = s.time.day →
      (∀ r, shopAnswer (s.shop shop).state .noShop (some .shopBarred) = some r →
        exec (.voidSale l tag original shop ref) s = .next (replied l 0x19 tag ⟨r, []⟩ s)) ∧
      ((s.shop shop).state = .trading →
        (s.card? (e.card.getD 0) = none →
          exec (.voidSale l tag original shop ref) s = .next (replied l 0x19 tag ⟨.noCard, []⟩ s)) ∧
        ∀ c : Card, s.card? (e.card.getD 0) = some c → c.state = .closed →
          exec (.voidSale l tag original shop ref) s = .next (replied l 0x19 tag ⟨.cardClosed, []⟩ s)))) ∧
  (∀ (l : Link) (tag id : Nat) (shop : Option Nat) (s : State), ready l s = true → storeValid s = true → cardIdOk id = true →
    shop.all shopOk = true →
    (s.card? id = none → exec (.balance l tag id shop) s = .next (replied l 0x12 tag ⟨.noCard, []⟩ s)) ∧
    ∀ (c : Card) (i : Nat), s.card? id = some c → shop = some i → (s.shop i).state = .unused →
      exec (.balance l tag id shop) s = .next (replied l 0x12 tag ⟨.noShop, []⟩ s)) ∧
  (∀ (tag shop target selector account : Nat) (amount : Int) (ref : Option Nat) (a : ScheduleArg) (s : State), ready .a s = true →
    storeValid s = true → shopOk shop = true → (s.shop shop).state = .unused →
    (a.redemptionRate ≤ 50000 → a.fixedFee ≤ 500 → a.commissionRate ≤ 50000 →
      exec (.stageSchedule .a tag shop a) s = .next (replied .a 0x41 tag ⟨.noShop, []⟩ s)) ∧
    (target = 1 ∨ target = 2 ∨ target = 3 →
      exec (.setShopState .a tag shop target) s = .next (replied .a 0x42 tag ⟨.noShop, []⟩ s)) ∧
    exec (.removeShop .a tag shop) s = .next (replied .a 0x43 tag ⟨.noShop, []⟩ s) ∧
    (selector = 0 ∨ selector = 1 →
      exec (.shopPosition .a tag shop selector) s = .next (replied .a 0x44 tag ⟨.noShop, []⟩ s)) ∧
    (amount ≠ 0 → withinLimit amount = true →
      exec (.adjustCarry .a tag shop amount ref) s = .next (replied .a 0x45 tag ⟨.noShop, []⟩ s)) ∧
    exec (.clearAttention .a tag shop) s = .next (replied .a 0x46 tag ⟨.noShop, []⟩ s) ∧
    exec (.setPayoutAccount .a tag shop account) s = .next (replied .a 0x47 tag ⟨.noShop, []⟩ s)) ∧
  (∀ (tag pool i : Nat) (cfg : PoolArg) (s : State), ready .a s = true → storeValid s = true → poolOk pool = true →
    cfg.rate ≤ 10000 → cfg.cap ≤ 5000000 → 1 ≤ cfg.validity → cfg.funder = some i → shopOk i = true →
    ((s.shop i).state = .unused → exec (.definePool .a tag pool cfg) s = .next (replied .a 0x30 tag ⟨.noShop, []⟩ s)) ∧
    ((s.shop i).state = .departed →
      exec (.definePool .a tag pool cfg) s = .next (replied .a 0x30 tag ⟨.shopDeparted, []⟩ s))) ∧
  ∀ (tag id pool amount : Nat) (s : State), ready .a s = true → storeValid s = true → cardIdOk id = true → poolOk pool = true →
    amountOk amount = true →
    (s.card? id = none →
      exec (.cardDetail .a tag id) s = .next (replied .a 0x20 tag ⟨.noCard, []⟩ s) ∧
      exec (.freezeCard .a tag id) s = .next (replied .a 0x21 tag ⟨.noCard, []⟩ s) ∧
      exec (.unfreezeCard .a tag id) s = .next (replied .a 0x22 tag ⟨.noCard, []⟩ s) ∧
      exec (.closeCard .a tag id) s = .next (replied .a 0x23 tag ⟨.noCard, []⟩ s) ∧
      exec (.grantPromo .a tag id pool amount) s = .next (replied .a 0x25 tag ⟨.noCard, []⟩ s)) ∧
    ∀ c : Card, s.card? id = some c →
      (∀ r, cardAnswer c.state = some r →
        exec (.grantPromo .a tag id pool amount) s = .next (replied .a 0x25 tag ⟨r, []⟩ s)) ∧
      (c.state = .closed →
        exec (.freezeCard .a tag id) s = .next (replied .a 0x21 tag ⟨.cardClosed, []⟩ s) ∧
        exec (.unfreezeCard .a tag id) s = .next (replied .a 0x22 tag ⟨.cardClosed, []⟩ s) ∧
        exec (.closeCard .a tag id) s = .next (replied .a 0x23 tag ⟨.cardClosed, []⟩ s))

/-- 10 R177, R178, R180: the taking of STORE_INITIALISE and of RESTART; the completion of STORE_INITIALISE leaves every block as at reset (the
clock goes on), VALID and in CONFIG, and its reply OK stands in the emptied A-link queue. (That a stopped confirm timer is held as 0 is log 18; that the taking of
STORE_INITIALISE drops the reactions to a rollover that wait is log 29; the sweep's day and cursor and the arithmetic unit at the
completion are the model's choice, logs 19 and 22.) -/
def Obligations.InitialiseAndRestartAreTaken : Prop :=
  (∀ (tag : Nat) (s : State), ready .a s = true → s.ctrl.initInFlight = false →
    (s.ctrl.mode = .config →
      ∃ t, exec (.storeInitialise .a tag) s = .next t ∧
        t.ctrl = { s.ctrl with formatMark := false, store := .blank, initInFlight := true } ∧
        t.time = { s.time with timeSet := false, rolloverDue := false, handed := [] } ∧ t.sweep.inFlight = false ∧
        (∀ n, n < 4 → t.channel n = { s.channel n with
          state := .idle, cursor := none, offer := none, remaining := 0, timedOut := false, totals := zeroTotals }) ∧
        t.aLink = { s.aLink with busy := some { kind := 0x75, tag := tag, discard := false } } ∧
        t = { s with ctrl := t.ctrl, time := t.time, sweep := t.sweep, channels := t.channels, aLink := t.aLink }) ∧
    (s.ctrl.store = .valid →
      exec (.restart .a tag) s = .next (replied .a 0x74 tag ⟨.ok, []⟩
        { s with
          ctrl := { s.ctrl with draining := true }
          tLink := { s.tLink with rx := [] }
          aLink := { s.aLink with rx := [] } }))) ∧
  (∀ (tag : Nat) (s : State), s.power = true → quiet s = true → s.ctrl.initInFlight = true →
    s.aLink.busy = some { kind := 0x75, tag := tag, discard := false } →
    ∃ t, exec .storeInitialiseComplete s = .next t ∧
      t.ctrl = { mode := .config, store := .valid, initInFlight := false, lastRestart := .initialise, formatMark := true,
                 draining := false } ∧
      t.time = { clock := s.time.clock, timeSet := false, day := 0, rolloverSecond := 14400, trading := false,
                 rolloverDue := false, handed := [], turn := t.time.turn } ∧
      t.aLink.tx = [.reply 0xF5 tag .ok clearMarks []] ∧ t.aLink.rx = [] ∧ t.aLink.busy = none ∧ t.aLink.marks = clearMarks ∧
      t.aLink.cursor = .oldest ∧ t.tLink.tx = [] ∧ t.tLink.rx = [] ∧ t.tLink.busy = none ∧ t.tLink.marks = clearMarks ∧
      t.tLink.cursor = .oldest ∧
      t = { State.reset with pending := s.pending, ctrl := t.ctrl, time := t.time, tLink := t.tLink, aLink := t.aLink } ∧
      surplus t = 0)

/-- 10 R175, R176, R179, 09 R164, R171: a loss of power keeps what the value store keeps, and leaves the reactions to a rollover that wait
untaken; a power-on that finds no format mark leaves the blocks as at reset; without supply nothing happens. A restart with a VALID
store, by a power-on that finds the mark or after the queues have drained, gives, block by block, what the reset tables say: CONFIG
(10 R172); each PLACED hold released with last end RESTART, its parts back on its card or, where unusable, in pending expiry (02 R46,
R34, 04 R84); the shop records kept, every OFFERED payout record UNCERTAIN with its amount and serial kept, a CLOSING computation begun
again from shop 0 (06 R119, 07 R140); the channels IDLE with their configuration (08 R161); the journal, the routes and the serial counter
kept (05 R101, 11 R192); POOL_LOW and JOURNAL_RESERVE given where they hold; and the release made where its condition holds (07 R137,
R140). (What an unpowered part holds, and a power-on while the supply is on, are logs 6 and 23; the sweep's cursor and a stopped timer
logs 19 and 18; that a break outlasts a restart log 26; that the level notices come before
the release log 37; that POOL_LOW comes before JOURNAL_RESERVE, pools rising, is the model's choice, log 15; what PERIOD_RELEASED
carries is log 36; that a RESTART too leaves the reactions that wait untaken is log 29; that the arithmetic unit holds 0, its mark
clear, after a restart or a loss of power is the model's choice, log 22, and that the receivers then hunt for sync log 24.) -/
def Obligations.PowerAndRestartKeepTheStore : Prop :=
  let stopped := fun c : Channel =>
    { c with state := .idle, cursor := none, offer := none, remaining := 0, timedOut := false, totals := zeroTotals }
  (∀ s : State, s.power = true →
    ∃ t, exec .lossOfPower s = .next t ∧
      t.ctrl = { s.ctrl with mode := .config, initInFlight := false, draining := false } ∧
      t.time = { s.time with
        clock := 0, timeSet := false, trading := false, rolloverDue := false, handed := [] } ∧
      t.sweep.inFlight = false ∧ t.sweep.swept = [] ∧ t.period = { s.period with countdown := 0 } ∧
      (∀ n, t.holdSlot n = { s.holdSlot n with
        hold := (s.holdSlot n).hold.map (fun h => { h with remaining := 0, extensions := 0 }) }) ∧
      (∀ n, n < 4 → t.channel n = stopped (s.channel n)) ∧
      t.tLink = { idleLink with inBreak := s.tLink.inBreak } ∧ t.aLink = { idleLink with inBreak := s.aLink.inBreak } ∧
      t = { s with
        power := false, ctrl := t.ctrl, time := t.time, tLink := t.tLink, aLink := t.aLink, holds := t.holds, sweep := t.sweep
        period := t.period, sau := { accumulator := 0, saturated := false }, channels := t.channels }) ∧
  (∀ s : State, s.ctrl.formatMark = false →
    exec .powerOn s = .next { State.reset with
      pending := s.pending
      time := { State.reset.time with turn := s.time.turn }
      tLink := { idleLink with inBreak := s.tLink.inBreak }
      aLink := { idleLink with inBreak := s.aLink.inBreak } }) ∧
  (∀ (c : Instr) (s : State), s.power = false → c ≠ .powerOn → exec c s = .next s) ∧
  (let restarted := fun (cause : RestartCause) (s t : State) =>
    let idle := { t with
      tLink := { idleLink with inBreak := s.tLink.inBreak }, aLink := { idleLink with inBreak := s.aLink.inBreak } }
    let ns := ((List.range 16).filter (fun p => isLow (t.pool p))).map (lowNotice t) ++
      (if writable t.journal ≤ 64 then [journalReserveNotice t] else [])
    let parts := fun hs : List Hold => hs.flatMap (fun h => h.parts.promo)
    t.ctrl = { mode := .config, store := .valid, initInFlight := false, lastRestart := cause, formatMark := s.ctrl.formatMark,
               draining := false } ∧
      t.time = { clock := t.time.clock, timeSet := t.time.timeSet, day := s.time.day, rolloverSecond := s.time.rolloverSecond,
                 trading := false, rolloverDue := false, handed := [], turn := t.time.turn } ∧
      (∀ n, t.holdSlot n =
        if (s.holdSlot n).hold = none then s.holdSlot n
        else { gen := if (s.holdSlot n).gen = 65535 then 0 else (s.holdSlot n).gen + 1, lastEnd := .restart, hold := none }) ∧
      (∀ id, s.card? id = none → t.card? id = none) ∧
      (∀ (id : Nat) (c : Card), s.card? id = some c →
        let hs := holdsOf s id
        ∃ bs, t.card? id = some { c with
            base := c.base + (hs.map (fun h => h.parts.base)).sum
            buckets := bs
            holds := c.holds.filter (fun r =>
              !((s.holdSlot r.slot).gen = r.gen && (s.holdSlot r.slot).hold.any (fun h => h.card = id))) } ∧
          (∀ p d, amountAt p d bs = amountAt p d c.buckets +
            (if s.time.day ≤ d ∧ (s.pool p).state ≠ .closed then partsAt p d (parts hs) else 0)) ∧
          (hs = [] → bs = c.buckets) ∧
          (hs ≠ [] → (∀ r ∈ c.holds, ∃ h, (s.holdSlot r.slot).hold = some h ∧ h.card = id) → ∀ b ∈ bs, b.amount ≠ 0)) ∧
      (∀ p, t.pool p = { s.pool p with
        pending := (s.pool p).pending + pendingFrom s p (parts (s.placedHolds.map (fun e => e.2))) }) ∧
      (∀ i, t.shop i = { s.shop i with
        payout := if (s.shop i).payout.state = .offered then { (s.shop i).payout with state := .uncertain } else (s.shop i).payout
        result := if s.period.state = .closing ∧ i ∈ s.period.roster then { (s.shop i).result with computed := false }
          else (s.shop i).result }) ∧
      t.period = { s.period with
        cursor := if s.period.state = .closing then 0 else s.period.cursor, countdown := t.period.countdown } ∧
      (s.period.mode = .interval → t.period.countdown = s.period.interval * 60) ∧
      (∀ n, n < 4 → t.channel n = stopped (s.channel n)) ∧
      t.tLink = (giveNotices ns idle).tLink ∧ t.aLink = (giveNotices ns idle).aLink ∧
      t = { s with
        power := true, ctrl := t.ctrl, time := t.time, tLink := t.tLink, aLink := t.aLink, cards := t.cards, holds := t.holds
        pools := t.pools, sweep := { inFlight := false, day := 0, cursor := 0, swept := [] }, shops := t.shops, period := t.period
        sau := { accumulator := 0, saturated := false }, channels := t.channels }
  (∀ s : State, valueSound s → s.ctrl.formatMark = true →
    ∃ t, exec .powerOn s = .next (tested t) ∧ restarted .powerOn s t ∧ t.time.clock = 0 ∧ t.time.timeSet = false) ∧
  ∀ s : State, valueSound s → s.power = true → s.ctrl.store = .valid → drained s = true →
    expiredSlots s = [] → (∀ n, n < 4 → timeoutDue (s.channel n) = false) → intervalDue s = false → s.time.rolloverDue = false →
    ∃ t, exec .restartAfterDrain s = .next (tested t) ∧ restarted .request s t ∧ t.time.clock = s.time.clock ∧
      t.time.timeSet = s.time.timeSet)
end

