-- ==== Sys2Proof/Laws/Encoding.lean ====
section
/-! SUPPORT. The laws of the field encodings: reading back what was written, field by field. -/

namespace Sys2Proof.Laws

@[simp] theorem putU_length (k n : Nat) : (putU k n).length = k := by
  induction k with
  | zero => rfl
  | succ k ih => simp [putU, ih]

/-- 11, Field encodings: an unsigned field reads back modulo its width. -/
theorem getU_putU_mod (k n : Nat) (p : List Byte) : getU k (putU k n ++ p) = some (n % 256 ^ k, p) := by
  induction k with
  | zero => simp [putU, getU, Nat.mod_one]
  | succ k ih =>
    simp only [putU, List.cons_append, getU, ih, Option.map_some, BitVec.toNat_ofNat, Option.some.injEq, Prod.mk.injEq, and_true]
    have h : n % 256 ^ (k + 1) = 256 ^ k * (n / 256 ^ k % 256) + n % 256 ^ k := by
      rw [pow_succ, Nat.mod_mul]
      ring
    rw [h]
    ring

/-- 11, Field encodings: a value within its width reads back. -/
theorem getU_putU {k n : Nat} (h : fits k n = true) (p : List Byte) : getU k (putU k n ++ p) = some (n, p) := by
  rw [getU_putU_mod, Nat.mod_eq_of_lt (by simpa [fits] using h)]

@[simp] theorem payloadBytes_nil : payloadBytes [] = [] := rfl

@[simp] theorem payloadBytes_cons (f : Fld) (fs : List Fld) : payloadBytes (f :: fs) = fldBytes f ++ payloadBytes fs := rfl

@[simp] theorem payloadBytes_append (a b : List Fld) : payloadBytes (a ++ b) = payloadBytes a ++ payloadBytes b := by
  simp [payloadBytes]

theorem getU_u8 {n : Nat} (h : fits 1 n = true) (p : List Byte) : getU 1 (fldBytes (.u8 n) ++ p) = some (n, p) := getU_putU h p

theorem getU_u16 {n : Nat} (h : fits 2 n = true) (p : List Byte) : getU 2 (fldBytes (.u16 n) ++ p) = some (n, p) := getU_putU h p

theorem getU_u32 {n : Nat} (h : fits 4 n = true) (p : List Byte) : getU 4 (fldBytes (.u32 n) ++ p) = some (n, p) := getU_putU h p

theorem getU_u64 {n : Nat} (h : fits 8 n = true) (p : List Byte) : getU 8 (fldBytes (.u64 n) ++ p) = some (n, p) := getU_putU h p

theorem getFlag_flag (b : Bool) (p : List Byte) : getFlag (fldBytes (.flag b) ++ p) = some (b, p) := by
  cases b <;> simp [fldBytes, getFlag]

/-- 11, Field encodings: a signed field reads back. -/
theorem getSigned_i64 {z : Int} (h : fitsSigned z = true) (p : List Byte) : getSigned (fldBytes (.i64 z) ++ p) = some (z, p) := by
  simp only [fitsSigned, Bool.decide_and, Bool.and_eq_true, decide_eq_true_eq] at h
  simp only [getSigned, fldBytes, getU_putU_mod, Option.map_some, Option.some.injEq, Prod.mk.injEq, and_true, toSigned]
  have e : (2 : Int) ^ 64 = 18446744073709551616 := by norm_num
  have e3 : (2 : Int) ^ 63 = 9223372036854775808 := by norm_num
  have n3 : (2 : Nat) ^ 63 = 9223372036854775808 := by norm_num
  have n8 : (256 : Nat) ^ 8 = 18446744073709551616 := by norm_num
  rw [e, n8, n3]
  rw [e3] at h
  split <;> omega

theorem getOpt_absent (k : Nat) (f : Nat → Fld) (p : List Byte) :
    getOpt k (payloadBytes (optFld f none) ++ p) = some (none, p) := by simp [optFld, getOpt, fldBytes, getFlag]

/-- 11, Field encodings: an optional field reads back. -/
theorem getOpt_optFld {k : Nat} {f : Nat → Fld} (hf : ∀ n, fldBytes (f n) = putU k n) {o : Option Nat} (h : fitsOpt k o = true)
    (p : List Byte) : getOpt k (payloadBytes (optFld f o) ++ p) = some (o, p) := by
  cases o with
  | none => exact getOpt_absent k f p
  | some n =>
    have hn : fits k n = true := by simpa [fitsOpt] using h
    have e : payloadBytes (optFld f (some n)) ++ p = fldBytes (.flag true) ++ (putU k n ++ p) := by simp [optFld, hf]
    rw [e]
    simp [getOpt, getFlag_flag, getU_putU hn]

/-! ## The last field of a payload -/

theorem getU_u8_end {n : Nat} (h : fits 1 n = true) : getU 1 (fldBytes (.u8 n)) = some (n, []) := by
  simpa using getU_u8 h []

theorem getU_u16_end {n : Nat} (h : fits 2 n = true) : getU 2 (fldBytes (.u16 n)) = some (n, []) := by
  simpa using getU_u16 h []

theorem getU_u32_end {n : Nat} (h : fits 4 n = true) : getU 4 (fldBytes (.u32 n)) = some (n, []) := by
  simpa using getU_u32 h []

theorem getU_u64_end {n : Nat} (h : fits 8 n = true) : getU 8 (fldBytes (.u64 n)) = some (n, []) := by
  simpa using getU_u64 h []

theorem getFlag_flag_end (b : Bool) : getFlag (fldBytes (.flag b)) = some (b, []) := by simpa using getFlag_flag b []

theorem getOpt_optFld_end {k : Nat} {f : Nat → Fld} (hf : ∀ n, fldBytes (f n) = putU k n) {o : Option Nat}
    (h : fitsOpt k o = true) : getOpt k (payloadBytes (optFld f o)) = some (o, []) := by simpa using getOpt_optFld hf h []

/-! ## Eligibility masks -/

/-- 04 R71: reading `k` category flags from category `i` on adds them to the mask so far. -/
theorem getMask_flags (m : BitVec 16) (p : List Byte) (k : Nat) :
    ∀ (i : Nat) (acc : BitVec 16), getMask k i acc (payloadBytes ((List.range' i k).map (fun j => .flag (m.getLsbD j))) ++ p) =
      some ((List.range' i k).foldl (fun a j => if m.getLsbD j then a ||| BitVec.twoPow 16 j else a) acc, p) := by
  induction k with
  | zero => intro i acc; simp [getMask]
  | succ k ih =>
    intro i acc
    simp only [List.range'_succ, List.map_cons, payloadBytes_cons, List.append_assoc, getMask, getFlag_flag, Option.bind_eq_bind,
      Option.bind_some, List.foldl_cons]
    exact ih (i + 1) _

/-- The bits of a mask rebuilt from its category flags. -/
theorem rebuilt_getLsbD (m : BitVec 16) (js : List Nat) (acc : BitVec 16) (i : Nat) :
    (js.foldl (fun a j => if m.getLsbD j then a ||| BitVec.twoPow 16 j else a) acc).getLsbD i =
      (acc.getLsbD i || (decide (i ∈ js) && m.getLsbD i)) := by
  induction js generalizing acc with
  | nil => simp
  | cons j js ih =>
    rw [List.foldl_cons, ih]
    by_cases h : i = j
    · subst h
      by_cases hm : m.getLsbD i = true
      · have : i < 16 := BitVec.lt_of_getLsbD hm
        simp [hm, this]
      · simp [hm]
    · by_cases hm : m.getLsbD j = true <;> simp [hm, BitVec.getLsbD_twoPow, h, Ne.symm h]

/-- 04 R71: an eligibility mask reads back. -/
theorem getMask_maskFields (m : BitVec 16) (p : List Byte) : getMask 16 0 0 (payloadBytes (maskFields m) ++ p) = some (m, p) := by
  rw [maskFields, List.range_eq_range', getMask_flags]
  congr 2
  apply BitVec.eq_of_getLsbD_eq
  intro i hi
  rw [rebuilt_getLsbD]
  simp [hi]

end Sys2Proof.Laws
end

