-- ==== Sys2Proof/Laws/Table.lean ====
section
/-! SUPPORT. The laws of the sparse tables: a read after a write, the other records unchanged, and the form kept. -/

namespace Sys2Proof.Laws

open Sys2Proof.Machine

variable {α : Type}

@[simp] theorem tableGet_nil (k : Nat) : tableGet k ([] : Table α) = none := rfl

@[simp] theorem tableGet_put_same (k : Nat) (v : α) (t : Table α) : tableGet k (tablePut k v t) = some v := by
  induction t with
  | nil => simp [tablePut, tableGet]
  | cons e t ih =>
    obtain ⟨j, w⟩ := e
    unfold tablePut
    split
    · simp [tableGet]
    · split
      · simp [tableGet]
      · rename_i h1 h2
        simp [tableGet, ih, Ne.symm h2]

theorem tableGet_put_other {k j : Nat} (h : j ≠ k) (v : α) (t : Table α) : tableGet j (tablePut k v t) = tableGet j t := by
  induction t with
  | nil => simp [tablePut, tableGet, Ne.symm h]
  | cons e t ih =>
    obtain ⟨i, w⟩ := e
    unfold tablePut
    split
    · simp [tableGet, Ne.symm h]
    · split
      · rename_i h2
        subst h2
        simp [tableGet, Ne.symm h]
      · simp [tableGet, ih]

@[simp] theorem tableGet_drop_same (k : Nat) (t : Table α) : tableGet k (tableDrop k t) = none := by
  induction t with
  | nil => simp [tableDrop]
  | cons e t ih =>
    obtain ⟨j, w⟩ := e
    simp only [tableDrop, ne_eq, decide_not, List.filter_cons] at *
    by_cases h : j = k <;> simp [h, tableGet, ih]

theorem tableGet_drop_other {k j : Nat} (h : j ≠ k) (t : Table α) : tableGet j (tableDrop k t) = tableGet j t := by
  induction t with
  | nil => simp [tableDrop]
  | cons e t ih =>
    obtain ⟨i, w⟩ := e
    simp only [tableDrop, ne_eq, decide_not, List.filter_cons] at *
    by_cases hk : i = k
    · subst hk
      simp [tableGet, ih, Ne.symm h]
    · by_cases hj : i = j <;> simp [hk, hj, tableGet, ih]
      · subst hj
        simp [hk, tableGet]

@[simp] theorem tableRead_write_same [DecidableEq α] (d : α) (k : Nat) (v : α) (t : Table α) :
    tableRead d k (tableWrite d k v t) = v := by
  unfold tableWrite tableRead
  split
  · simp_all
  · simp

theorem tableRead_write_other [DecidableEq α] (d : α) {k j : Nat} (h : j ≠ k) (v : α) (t : Table α) :
    tableRead d j (tableWrite d k v t) = tableRead d j t := by
  unfold tableWrite tableRead
  split
  · rw [tableGet_drop_other h]
  · rw [tableGet_put_other h]

/-- What a write makes of a read of any record. -/
theorem tableRead_write [DecidableEq α] (d : α) (k j : Nat) (v : α) (t : Table α) :
    tableRead d j (tableWrite d k v t) = if j = k then v else tableRead d j t := by
  split
  · rename_i h
    subst h
    simp
  · rename_i h
    exact tableRead_write_other d h v t

/-- What a put makes of a look-up of any number. -/
theorem tableGet_put (k j : Nat) (v : α) (t : Table α) : tableGet j (tablePut k v t) = if j = k then some v else tableGet j t := by
  split
  · rename_i h
    subst h
    simp
  · rename_i h
    exact tableGet_put_other h v t

/-- The entries of a table after a put: the new one, or old ones. -/
theorem mem_tablePut {k : Nat} {v : α} {t : Table α} {e : Nat × α} (h : e ∈ tablePut k v t) : e = (k, v) ∨ e ∈ t := by
  induction t with
  | nil => simpa [tablePut] using h
  | cons x t ih =>
    obtain ⟨j, w⟩ := x
    unfold tablePut at h
    split at h
    · simpa using h
    · split at h
      · rcases List.mem_cons.1 h with h | h
        · exact .inl h
        · exact .inr (List.mem_cons_of_mem _ h)
      · rcases List.mem_cons.1 h with h | h
        · exact .inr (h ▸ List.mem_cons_self)
        · rcases ih h with h | h
          · exact .inl h
          · exact .inr (List.mem_cons_of_mem _ h)

/-- A put keeps the numbers strictly rising. -/
theorem tableRising_put {k : Nat} {v : α} {t : Table α} (h : tableRising t = true) : tableRising (tablePut k v t) = true := by
  simp only [tableRising, decide_eq_true_eq] at *
  induction t with
  | nil => simp [tablePut]
  | cons x t ih =>
    obtain ⟨j, w⟩ := x
    rw [List.pairwise_cons] at h
    unfold tablePut
    split
    · rename_i hk
      refine List.pairwise_cons.2 ⟨fun e he => ?_, List.pairwise_cons.2 h⟩
      rcases List.mem_cons.1 he with rfl | he
      · exact hk
      · exact lt_trans hk (h.1 e he)
    · split
      · rename_i hk
        subst hk
        exact List.pairwise_cons.2 h
      · rename_i h1 h2
        refine List.pairwise_cons.2 ⟨fun e he => ?_, ih h.2⟩
        rcases mem_tablePut he with rfl | he
        · simp only
          omega
        · exact h.1 e he

/-- Taking records out keeps the numbers strictly rising. -/
theorem tableRising_filter {t : Table α} (f : Nat × α → Bool) (h : tableRising t = true) : tableRising (t.filter f) = true := by
  simp only [tableRising, decide_eq_true_eq] at *
  exact h.sublist List.filter_sublist

/-- A change of values that keeps the numbers keeps them strictly rising. -/
theorem tableRising_map {β : Type} {t : Table α} (f : Nat × α → Nat × β) (hf : ∀ e, (f e).1 = e.1) (h : tableRising t = true) :
    tableRising (t.map f) = true := by
  simp only [tableRising, decide_eq_true_eq] at *
  exact List.pairwise_map.2 (h.imp (fun {a b} hab => by rw [hf, hf]; exact hab))

/-- A write keeps a table's form. -/
theorem tableCanonical_write [DecidableEq α] {d : α} {k : Nat} {v : α} {t : Table α} (h : tableCanonical d t = true) :
    tableCanonical d (tableWrite d k v t) = true := by
  simp only [tableCanonical, Bool.and_eq_true, List.all_eq_true] at *
  unfold tableWrite
  split
  · exact ⟨tableRising_filter _ h.1, fun e he => h.2 e (List.mem_of_mem_filter he)⟩
  · rename_i hv
    refine ⟨tableRising_put h.1, fun e he => ?_⟩
    rcases mem_tablePut he with rfl | he
    · simpa using hv
    · exact h.2 e he

end Sys2Proof.Laws
end

