-- ==== Sys2Proof/Laws/State.lean ====
section
/-! SUPPORT. One lemma for each field of the state after each update, and the reads of one record after the write of another. -/

namespace Sys2Proof.Laws

open Sys2Proof.Machine

variable (s : State)

@[simp] theorem setCard_pending (id : Nat) (c : Card) : (s.setCard id c).pending = s.pending := rfl
@[simp] theorem setCard_power (id : Nat) (c : Card) : (s.setCard id c).power = s.power := rfl
@[simp] theorem setCard_ctrl (id : Nat) (c : Card) : (s.setCard id c).ctrl = s.ctrl := rfl
@[simp] theorem setCard_time (id : Nat) (c : Card) : (s.setCard id c).time = s.time := rfl
@[simp] theorem setCard_tLink (id : Nat) (c : Card) : (s.setCard id c).tLink = s.tLink := rfl
@[simp] theorem setCard_aLink (id : Nat) (c : Card) : (s.setCard id c).aLink = s.aLink := rfl
@[simp] theorem setCard_routes (id : Nat) (c : Card) : (s.setCard id c).routes = s.routes := rfl
@[simp] theorem setCard_holds (id : Nat) (c : Card) : (s.setCard id c).holds = s.holds := rfl
@[simp] theorem setCard_pools (id : Nat) (c : Card) : (s.setCard id c).pools = s.pools := rfl
@[simp] theorem setCard_sweep (id : Nat) (c : Card) : (s.setCard id c).sweep = s.sweep := rfl
@[simp] theorem setCard_journal (id : Nat) (c : Card) : (s.setCard id c).journal = s.journal := rfl
@[simp] theorem setCard_shops (id : Nat) (c : Card) : (s.setCard id c).shops = s.shops := rfl
@[simp] theorem setCard_period (id : Nat) (c : Card) : (s.setCard id c).period = s.period := rfl
@[simp] theorem setCard_sau (id : Nat) (c : Card) : (s.setCard id c).sau = s.sau := rfl
@[simp] theorem setCard_channels (id : Nat) (c : Card) : (s.setCard id c).channels = s.channels := rfl
@[simp] theorem setCard_serial (id : Nat) (c : Card) : (s.setCard id c).serial = s.serial := rfl

@[simp] theorem setHoldSlot_pending (n : Nat) (h : HoldSlot) : (s.setHoldSlot n h).pending = s.pending := rfl
@[simp] theorem setHoldSlot_power (n : Nat) (h : HoldSlot) : (s.setHoldSlot n h).power = s.power := rfl
@[simp] theorem setHoldSlot_ctrl (n : Nat) (h : HoldSlot) : (s.setHoldSlot n h).ctrl = s.ctrl := rfl
@[simp] theorem setHoldSlot_time (n : Nat) (h : HoldSlot) : (s.setHoldSlot n h).time = s.time := rfl
@[simp] theorem setHoldSlot_tLink (n : Nat) (h : HoldSlot) : (s.setHoldSlot n h).tLink = s.tLink := rfl
@[simp] theorem setHoldSlot_aLink (n : Nat) (h : HoldSlot) : (s.setHoldSlot n h).aLink = s.aLink := rfl
@[simp] theorem setHoldSlot_routes (n : Nat) (h : HoldSlot) : (s.setHoldSlot n h).routes = s.routes := rfl
@[simp] theorem setHoldSlot_cards (n : Nat) (h : HoldSlot) : (s.setHoldSlot n h).cards = s.cards := rfl
@[simp] theorem setHoldSlot_pools (n : Nat) (h : HoldSlot) : (s.setHoldSlot n h).pools = s.pools := rfl
@[simp] theorem setHoldSlot_sweep (n : Nat) (h : HoldSlot) : (s.setHoldSlot n h).sweep = s.sweep := rfl
@[simp] theorem setHoldSlot_journal (n : Nat) (h : HoldSlot) : (s.setHoldSlot n h).journal = s.journal := rfl
@[simp] theorem setHoldSlot_shops (n : Nat) (h : HoldSlot) : (s.setHoldSlot n h).shops = s.shops := rfl
@[simp] theorem setHoldSlot_period (n : Nat) (h : HoldSlot) : (s.setHoldSlot n h).period = s.period := rfl
@[simp] theorem setHoldSlot_sau (n : Nat) (h : HoldSlot) : (s.setHoldSlot n h).sau = s.sau := rfl
@[simp] theorem setHoldSlot_channels (n : Nat) (h : HoldSlot) : (s.setHoldSlot n h).channels = s.channels := rfl
@[simp] theorem setHoldSlot_serial (n : Nat) (h : HoldSlot) : (s.setHoldSlot n h).serial = s.serial := rfl

@[simp] theorem setPool_pending (p : Nat) (x : Pool) : (s.setPool p x).pending = s.pending := rfl
@[simp] theorem setPool_power (p : Nat) (x : Pool) : (s.setPool p x).power = s.power := rfl
@[simp] theorem setPool_ctrl (p : Nat) (x : Pool) : (s.setPool p x).ctrl = s.ctrl := rfl
@[simp] theorem setPool_time (p : Nat) (x : Pool) : (s.setPool p x).time = s.time := rfl
@[simp] theorem setPool_tLink (p : Nat) (x : Pool) : (s.setPool p x).tLink = s.tLink := rfl
@[simp] theorem setPool_aLink (p : Nat) (x : Pool) : (s.setPool p x).aLink = s.aLink := rfl
@[simp] theorem setPool_routes (p : Nat) (x : Pool) : (s.setPool p x).routes = s.routes := rfl
@[simp] theorem setPool_cards (p : Nat) (x : Pool) : (s.setPool p x).cards = s.cards := rfl
@[simp] theorem setPool_holds (p : Nat) (x : Pool) : (s.setPool p x).holds = s.holds := rfl
@[simp] theorem setPool_sweep (p : Nat) (x : Pool) : (s.setPool p x).sweep = s.sweep := rfl
@[simp] theorem setPool_journal (p : Nat) (x : Pool) : (s.setPool p x).journal = s.journal := rfl
@[simp] theorem setPool_shops (p : Nat) (x : Pool) : (s.setPool p x).shops = s.shops := rfl
@[simp] theorem setPool_period (p : Nat) (x : Pool) : (s.setPool p x).period = s.period := rfl
@[simp] theorem setPool_sau (p : Nat) (x : Pool) : (s.setPool p x).sau = s.sau := rfl
@[simp] theorem setPool_channels (p : Nat) (x : Pool) : (s.setPool p x).channels = s.channels := rfl
@[simp] theorem setPool_serial (p : Nat) (x : Pool) : (s.setPool p x).serial = s.serial := rfl

@[simp] theorem setShop_pending (i : Nat) (x : Shop) : (s.setShop i x).pending = s.pending := rfl
@[simp] theorem setShop_power (i : Nat) (x : Shop) : (s.setShop i x).power = s.power := rfl
@[simp] theorem setShop_ctrl (i : Nat) (x : Shop) : (s.setShop i x).ctrl = s.ctrl := rfl
@[simp] theorem setShop_time (i : Nat) (x : Shop) : (s.setShop i x).time = s.time := rfl
@[simp] theorem setShop_tLink (i : Nat) (x : Shop) : (s.setShop i x).tLink = s.tLink := rfl
@[simp] theorem setShop_aLink (i : Nat) (x : Shop) : (s.setShop i x).aLink = s.aLink := rfl
@[simp] theorem setShop_routes (i : Nat) (x : Shop) : (s.setShop i x).routes = s.routes := rfl
@[simp] theorem setShop_cards (i : Nat) (x : Shop) : (s.setShop i x).cards = s.cards := rfl
@[simp] theorem setShop_holds (i : Nat) (x : Shop) : (s.setShop i x).holds = s.holds := rfl
@[simp] theorem setShop_pools (i : Nat) (x : Shop) : (s.setShop i x).pools = s.pools := rfl
@[simp] theorem setShop_sweep (i : Nat) (x : Shop) : (s.setShop i x).sweep = s.sweep := rfl
@[simp] theorem setShop_journal (i : Nat) (x : Shop) : (s.setShop i x).journal = s.journal := rfl
@[simp] theorem setShop_period (i : Nat) (x : Shop) : (s.setShop i x).period = s.period := rfl
@[simp] theorem setShop_sau (i : Nat) (x : Shop) : (s.setShop i x).sau = s.sau := rfl
@[simp] theorem setShop_channels (i : Nat) (x : Shop) : (s.setShop i x).channels = s.channels := rfl
@[simp] theorem setShop_serial (i : Nat) (x : Shop) : (s.setShop i x).serial = s.serial := rfl

@[simp] theorem setChannel_pending (n : Nat) (x : Channel) : (s.setChannel n x).pending = s.pending := rfl
@[simp] theorem setChannel_power (n : Nat) (x : Channel) : (s.setChannel n x).power = s.power := rfl
@[simp] theorem setChannel_ctrl (n : Nat) (x : Channel) : (s.setChannel n x).ctrl = s.ctrl := rfl
@[simp] theorem setChannel_time (n : Nat) (x : Channel) : (s.setChannel n x).time = s.time := rfl
@[simp] theorem setChannel_tLink (n : Nat) (x : Channel) : (s.setChannel n x).tLink = s.tLink := rfl
@[simp] theorem setChannel_aLink (n : Nat) (x : Channel) : (s.setChannel n x).aLink = s.aLink := rfl
@[simp] theorem setChannel_routes (n : Nat) (x : Channel) : (s.setChannel n x).routes = s.routes := rfl
@[simp] theorem setChannel_cards (n : Nat) (x : Channel) : (s.setChannel n x).cards = s.cards := rfl
@[simp] theorem setChannel_holds (n : Nat) (x : Channel) : (s.setChannel n x).holds = s.holds := rfl
@[simp] theorem setChannel_pools (n : Nat) (x : Channel) : (s.setChannel n x).pools = s.pools := rfl
@[simp] theorem setChannel_sweep (n : Nat) (x : Channel) : (s.setChannel n x).sweep = s.sweep := rfl
@[simp] theorem setChannel_journal (n : Nat) (x : Channel) : (s.setChannel n x).journal = s.journal := rfl
@[simp] theorem setChannel_shops (n : Nat) (x : Channel) : (s.setChannel n x).shops = s.shops := rfl
@[simp] theorem setChannel_period (n : Nat) (x : Channel) : (s.setChannel n x).period = s.period := rfl
@[simp] theorem setChannel_sau (n : Nat) (x : Channel) : (s.setChannel n x).sau = s.sau := rfl
@[simp] theorem setChannel_serial (n : Nat) (x : Channel) : (s.setChannel n x).serial = s.serial := rfl

@[simp] theorem setLink_pending (l : Link) (k : LinkState) : (s.setLink l k).pending = s.pending := by cases l <;> rfl
@[simp] theorem setLink_power (l : Link) (k : LinkState) : (s.setLink l k).power = s.power := by cases l <;> rfl
@[simp] theorem setLink_ctrl (l : Link) (k : LinkState) : (s.setLink l k).ctrl = s.ctrl := by cases l <;> rfl
@[simp] theorem setLink_time (l : Link) (k : LinkState) : (s.setLink l k).time = s.time := by cases l <;> rfl
@[simp] theorem setLink_routes (l : Link) (k : LinkState) : (s.setLink l k).routes = s.routes := by cases l <;> rfl
@[simp] theorem setLink_cards (l : Link) (k : LinkState) : (s.setLink l k).cards = s.cards := by cases l <;> rfl
@[simp] theorem setLink_holds (l : Link) (k : LinkState) : (s.setLink l k).holds = s.holds := by cases l <;> rfl
@[simp] theorem setLink_pools (l : Link) (k : LinkState) : (s.setLink l k).pools = s.pools := by cases l <;> rfl
@[simp] theorem setLink_sweep (l : Link) (k : LinkState) : (s.setLink l k).sweep = s.sweep := by cases l <;> rfl
@[simp] theorem setLink_journal (l : Link) (k : LinkState) : (s.setLink l k).journal = s.journal := by cases l <;> rfl
@[simp] theorem setLink_shops (l : Link) (k : LinkState) : (s.setLink l k).shops = s.shops := by cases l <;> rfl
@[simp] theorem setLink_period (l : Link) (k : LinkState) : (s.setLink l k).period = s.period := by cases l <;> rfl
@[simp] theorem setLink_sau (l : Link) (k : LinkState) : (s.setLink l k).sau = s.sau := by cases l <;> rfl
@[simp] theorem setLink_channels (l : Link) (k : LinkState) : (s.setLink l k).channels = s.channels := by cases l <;> rfl
@[simp] theorem setLink_serial (l : Link) (k : LinkState) : (s.setLink l k).serial = s.serial := by cases l <;> rfl

@[simp] theorem setLink_link_same (l : Link) (k : LinkState) : (s.setLink l k).link l = k := by cases l <;> rfl

theorem setLink_link_other {l m : Link} (h : m ≠ l) (k : LinkState) : (s.setLink l k).link m = s.link m := by
  cases l <;> cases m <;> first | rfl | exact absurd rfl h

@[simp] theorem setLink_setLink (l : Link) (k k' : LinkState) : (s.setLink l k).setLink l k' = s.setLink l k' := by cases l <;> rfl

@[simp] theorem setLink_self (l : Link) : s.setLink l (s.link l) = s := by cases l <;> rfl

/-- 01: a card after a write of any card. -/
theorem card?_setCard (i j : Nat) (c : Card) : (s.setCard i c).card? j = if j = i then some c else s.card? j :=
  tableGet_put i j c s.cards

@[simp] theorem card?_setCard_same (i : Nat) (c : Card) : (s.setCard i c).card? i = some c := tableGet_put_same i c s.cards

/-- A card whose presence is known is the card read. -/
theorem card_of_card? {s : State} {i : Nat} {c : Card} (h : s.card? i = some c) : s.card i = c := by
  unfold State.card tableRead
  unfold State.card? at h
  rw [h]
  rfl

theorem holdSlot_setHoldSlot (i j : Nat) (x : HoldSlot) : (s.setHoldSlot i x).holdSlot j = if j = i then x else s.holdSlot j := tableRead_write _ i j x _

@[simp] theorem holdSlot_setHoldSlot_same (i : Nat) (x : HoldSlot) : (s.setHoldSlot i x).holdSlot i = x := tableRead_write_same _ i x _

theorem pool_setPool (i j : Nat) (x : Pool) : (s.setPool i x).pool j = if j = i then x else s.pool j := tableRead_write _ i j x _

@[simp] theorem pool_setPool_same (i : Nat) (x : Pool) : (s.setPool i x).pool i = x := tableRead_write_same _ i x _

theorem shop_setShop (i j : Nat) (x : Shop) : (s.setShop i x).shop j = if j = i then x else s.shop j := tableRead_write _ i j x _

@[simp] theorem shop_setShop_same (i : Nat) (x : Shop) : (s.setShop i x).shop i = x := tableRead_write_same _ i x _

theorem channel_setChannel (i j : Nat) (x : Channel) : (s.setChannel i x).channel j = if j = i then x else s.channel j := tableRead_write _ i j x _

@[simp] theorem channel_setChannel_same (i : Nat) (x : Channel) : (s.setChannel i x).channel i = x := tableRead_write_same _ i x _

@[simp] theorem holdSlot_setCard_other (id : Nat) (c : Card) (j : Nat) : (s.setCard id c).holdSlot j = s.holdSlot j := rfl
@[simp] theorem pool_setCard_other (id : Nat) (c : Card) (j : Nat) : (s.setCard id c).pool j = s.pool j := rfl
@[simp] theorem shop_setCard_other (id : Nat) (c : Card) (j : Nat) : (s.setCard id c).shop j = s.shop j := rfl
@[simp] theorem channel_setCard_other (id : Nat) (c : Card) (j : Nat) : (s.setCard id c).channel j = s.channel j := rfl
@[simp] theorem link_setCard (id : Nat) (c : Card) (l : Link) : (s.setCard id c).link l = s.link l := by cases l <;> rfl

@[simp] theorem card?_setHoldSlot_other (n : Nat) (h : HoldSlot) (j : Nat) : (s.setHoldSlot n h).card? j = s.card? j := rfl
@[simp] theorem card_setHoldSlot_other (n : Nat) (h : HoldSlot) (j : Nat) : (s.setHoldSlot n h).card j = s.card j := rfl
@[simp] theorem pool_setHoldSlot_other (n : Nat) (h : HoldSlot) (j : Nat) : (s.setHoldSlot n h).pool j = s.pool j := rfl
@[simp] theorem shop_setHoldSlot_other (n : Nat) (h : HoldSlot) (j : Nat) : (s.setHoldSlot n h).shop j = s.shop j := rfl
@[simp] theorem channel_setHoldSlot_other (n : Nat) (h : HoldSlot) (j : Nat) : (s.setHoldSlot n h).channel j = s.channel j := rfl
@[simp] theorem link_setHoldSlot (n : Nat) (h : HoldSlot) (l : Link) : (s.setHoldSlot n h).link l = s.link l := by cases l <;> rfl

@[simp] theorem card?_setPool_other (p : Nat) (x : Pool) (j : Nat) : (s.setPool p x).card? j = s.card? j := rfl
@[simp] theorem card_setPool_other (p : Nat) (x : Pool) (j : Nat) : (s.setPool p x).card j = s.card j := rfl
@[simp] theorem holdSlot_setPool_other (p : Nat) (x : Pool) (j : Nat) : (s.setPool p x).holdSlot j = s.holdSlot j := rfl
@[simp] theorem shop_setPool_other (p : Nat) (x : Pool) (j : Nat) : (s.setPool p x).shop j = s.shop j := rfl
@[simp] theorem channel_setPool_other (p : Nat) (x : Pool) (j : Nat) : (s.setPool p x).channel j = s.channel j := rfl
@[simp] theorem link_setPool (p : Nat) (x : Pool) (l : Link) : (s.setPool p x).link l = s.link l := by cases l <;> rfl

@[simp] theorem card?_setShop_other (i : Nat) (x : Shop) (j : Nat) : (s.setShop i x).card? j = s.card? j := rfl
@[simp] theorem card_setShop_other (i : Nat) (x : Shop) (j : Nat) : (s.setShop i x).card j = s.card j := rfl
@[simp] theorem holdSlot_setShop_other (i : Nat) (x : Shop) (j : Nat) : (s.setShop i x).holdSlot j = s.holdSlot j := rfl
@[simp] theorem pool_setShop_other (i : Nat) (x : Shop) (j : Nat) : (s.setShop i x).pool j = s.pool j := rfl
@[simp] theorem channel_setShop_other (i : Nat) (x : Shop) (j : Nat) : (s.setShop i x).channel j = s.channel j := rfl
@[simp] theorem link_setShop (i : Nat) (x : Shop) (l : Link) : (s.setShop i x).link l = s.link l := by cases l <;> rfl

@[simp] theorem card?_setChannel_other (n : Nat) (x : Channel) (j : Nat) : (s.setChannel n x).card? j = s.card? j := rfl
@[simp] theorem card_setChannel_other (n : Nat) (x : Channel) (j : Nat) : (s.setChannel n x).card j = s.card j := rfl
@[simp] theorem holdSlot_setChannel_other (n : Nat) (x : Channel) (j : Nat) : (s.setChannel n x).holdSlot j = s.holdSlot j := rfl
@[simp] theorem pool_setChannel_other (n : Nat) (x : Channel) (j : Nat) : (s.setChannel n x).pool j = s.pool j := rfl
@[simp] theorem shop_setChannel_other (n : Nat) (x : Channel) (j : Nat) : (s.setChannel n x).shop j = s.shop j := rfl
@[simp] theorem link_setChannel (n : Nat) (x : Channel) (l : Link) : (s.setChannel n x).link l = s.link l := by cases l <;> rfl

@[simp] theorem card?_setLink (l : Link) (k : LinkState) (j : Nat) : (s.setLink l k).card? j = s.card? j := by cases l <;> rfl
@[simp] theorem card_setLink (l : Link) (k : LinkState) (j : Nat) : (s.setLink l k).card j = s.card j := by cases l <;> rfl
@[simp] theorem holdSlot_setLink (l : Link) (k : LinkState) (j : Nat) : (s.setLink l k).holdSlot j = s.holdSlot j := by cases l <;> rfl
@[simp] theorem pool_setLink (l : Link) (k : LinkState) (j : Nat) : (s.setLink l k).pool j = s.pool j := by cases l <;> rfl
@[simp] theorem shop_setLink (l : Link) (k : LinkState) (j : Nat) : (s.setLink l k).shop j = s.shop j := by cases l <;> rfl
@[simp] theorem channel_setLink (l : Link) (k : LinkState) (j : Nat) : (s.setLink l k).channel j = s.channel j := by cases l <;> rfl

/-- A link's write and a record's write commute. -/
theorem setCard_setLink (id : Nat) (c : Card) (l : Link) (k : LinkState) : (s.setLink l k).setCard id c = (s.setCard id c).setLink l k := by cases l <;> rfl

/-- A link's write and a record's write commute. -/
theorem setHoldSlot_setLink (n : Nat) (h : HoldSlot) (l : Link) (k : LinkState) : (s.setLink l k).setHoldSlot n h = (s.setHoldSlot n h).setLink l k := by cases l <;> rfl

/-- A link's write and a record's write commute. -/
theorem setPool_setLink (p : Nat) (x : Pool) (l : Link) (k : LinkState) : (s.setLink l k).setPool p x = (s.setPool p x).setLink l k := by cases l <;> rfl

/-- A link's write and a record's write commute. -/
theorem setShop_setLink (i : Nat) (x : Shop) (l : Link) (k : LinkState) : (s.setLink l k).setShop i x = (s.setShop i x).setLink l k := by cases l <;> rfl

/-- A link's write and a record's write commute. -/
theorem setChannel_setLink (n : Nat) (x : Channel) (l : Link) (k : LinkState) : (s.setLink l k).setChannel n x = (s.setChannel n x).setLink l k := by cases l <;> rfl

end Sys2Proof.Laws
end

