-- ==== Sys2Proof/Laws/Frames.lean ====
section
/-! SUPPORT. What the shared operations leave unchanged, field by field: notices, replies, postings, entries, hold ends, a
rollover and its reactions. -/

namespace Sys2Proof.Laws

open Sys2Proof.Machine

/-- A fold of steps that each keep a figure keeps it. -/
theorem foldl_keeps {α β γ : Type} (g : β → γ) (f : β → α → β) (h : ∀ b a, g (f b a) = g b) (l : List α) (b : β) :
    g (l.foldl f b) = g b := by
  induction l generalizing b with
  | nil => rfl
  | cons a l ih => rw [List.foldl_cons, ih, h]

/-! ## A notice changes only the links -/

@[simp] theorem giveNotice_pending (n : Notice) (s : State) : (giveNotice n s).pending = s.pending := by
  unfold giveNotice
  split
  · rfl
  · split <;> rfl
@[simp] theorem giveNotice_power (n : Notice) (s : State) : (giveNotice n s).power = s.power := by
  unfold giveNotice
  split
  · rfl
  · split <;> rfl
@[simp] theorem giveNotice_ctrl (n : Notice) (s : State) : (giveNotice n s).ctrl = s.ctrl := by
  unfold giveNotice
  split
  · rfl
  · split <;> rfl
@[simp] theorem giveNotice_time (n : Notice) (s : State) : (giveNotice n s).time = s.time := by
  unfold giveNotice
  split
  · rfl
  · split <;> rfl
@[simp] theorem giveNotice_routes (n : Notice) (s : State) : (giveNotice n s).routes = s.routes := by
  unfold giveNotice
  split
  · rfl
  · split <;> rfl
@[simp] theorem giveNotice_cards (n : Notice) (s : State) : (giveNotice n s).cards = s.cards := by
  unfold giveNotice
  split
  · rfl
  · split <;> rfl
@[simp] theorem giveNotice_holds (n : Notice) (s : State) : (giveNotice n s).holds = s.holds := by
  unfold giveNotice
  split
  · rfl
  · split <;> rfl
@[simp] theorem giveNotice_pools (n : Notice) (s : State) : (giveNotice n s).pools = s.pools := by
  unfold giveNotice
  split
  · rfl
  · split <;> rfl
@[simp] theorem giveNotice_sweep (n : Notice) (s : State) : (giveNotice n s).sweep = s.sweep := by
  unfold giveNotice
  split
  · rfl
  · split <;> rfl
@[simp] theorem giveNotice_journal (n : Notice) (s : State) : (giveNotice n s).journal = s.journal := by
  unfold giveNotice
  split
  · rfl
  · split <;> rfl
@[simp] theorem giveNotice_shops (n : Notice) (s : State) : (giveNotice n s).shops = s.shops := by
  unfold giveNotice
  split
  · rfl
  · split <;> rfl
@[simp] theorem giveNotice_period (n : Notice) (s : State) : (giveNotice n s).period = s.period := by
  unfold giveNotice
  split
  · rfl
  · split <;> rfl
@[simp] theorem giveNotice_sau (n : Notice) (s : State) : (giveNotice n s).sau = s.sau := by
  unfold giveNotice
  split
  · rfl
  · split <;> rfl
@[simp] theorem giveNotice_channels (n : Notice) (s : State) : (giveNotice n s).channels = s.channels := by
  unfold giveNotice
  split
  · rfl
  · split <;> rfl
@[simp] theorem giveNotice_serial (n : Notice) (s : State) : (giveNotice n s).serial = s.serial := by
  unfold giveNotice
  split
  · rfl
  · split <;> rfl

/-! ## Notices change only the links -/

@[simp] theorem giveNotices_pending (ns : List Notice) (s : State) : (giveNotices ns s).pending = s.pending := foldl_keeps (fun s => s.pending) _ (fun s n => giveNotice_pending n s) ns s
@[simp] theorem giveNotices_power (ns : List Notice) (s : State) : (giveNotices ns s).power = s.power := foldl_keeps (fun s => s.power) _ (fun s n => giveNotice_power n s) ns s
@[simp] theorem giveNotices_ctrl (ns : List Notice) (s : State) : (giveNotices ns s).ctrl = s.ctrl := foldl_keeps (fun s => s.ctrl) _ (fun s n => giveNotice_ctrl n s) ns s
@[simp] theorem giveNotices_time (ns : List Notice) (s : State) : (giveNotices ns s).time = s.time := foldl_keeps (fun s => s.time) _ (fun s n => giveNotice_time n s) ns s
@[simp] theorem giveNotices_routes (ns : List Notice) (s : State) : (giveNotices ns s).routes = s.routes := foldl_keeps (fun s => s.routes) _ (fun s n => giveNotice_routes n s) ns s
@[simp] theorem giveNotices_cards (ns : List Notice) (s : State) : (giveNotices ns s).cards = s.cards := foldl_keeps (fun s => s.cards) _ (fun s n => giveNotice_cards n s) ns s
@[simp] theorem giveNotices_holds (ns : List Notice) (s : State) : (giveNotices ns s).holds = s.holds := foldl_keeps (fun s => s.holds) _ (fun s n => giveNotice_holds n s) ns s
@[simp] theorem giveNotices_pools (ns : List Notice) (s : State) : (giveNotices ns s).pools = s.pools := foldl_keeps (fun s => s.pools) _ (fun s n => giveNotice_pools n s) ns s
@[simp] theorem giveNotices_sweep (ns : List Notice) (s : State) : (giveNotices ns s).sweep = s.sweep := foldl_keeps (fun s => s.sweep) _ (fun s n => giveNotice_sweep n s) ns s
@[simp] theorem giveNotices_journal (ns : List Notice) (s : State) : (giveNotices ns s).journal = s.journal := foldl_keeps (fun s => s.journal) _ (fun s n => giveNotice_journal n s) ns s
@[simp] theorem giveNotices_shops (ns : List Notice) (s : State) : (giveNotices ns s).shops = s.shops := foldl_keeps (fun s => s.shops) _ (fun s n => giveNotice_shops n s) ns s
@[simp] theorem giveNotices_period (ns : List Notice) (s : State) : (giveNotices ns s).period = s.period := foldl_keeps (fun s => s.period) _ (fun s n => giveNotice_period n s) ns s
@[simp] theorem giveNotices_sau (ns : List Notice) (s : State) : (giveNotices ns s).sau = s.sau := foldl_keeps (fun s => s.sau) _ (fun s n => giveNotice_sau n s) ns s
@[simp] theorem giveNotices_channels (ns : List Notice) (s : State) : (giveNotices ns s).channels = s.channels := foldl_keeps (fun s => s.channels) _ (fun s n => giveNotice_channels n s) ns s
@[simp] theorem giveNotices_serial (ns : List Notice) (s : State) : (giveNotices ns s).serial = s.serial := foldl_keeps (fun s => s.serial) _ (fun s n => giveNotice_serial n s) ns s

/-! ## A reply changes only its link -/

@[simp] theorem placeReply_pending (l : Link) (a : Answer) (s : State) : (placeReply l a s).pending = s.pending := setLink_pending s l _
@[simp] theorem placeReply_power (l : Link) (a : Answer) (s : State) : (placeReply l a s).power = s.power := setLink_power s l _
@[simp] theorem placeReply_ctrl (l : Link) (a : Answer) (s : State) : (placeReply l a s).ctrl = s.ctrl := setLink_ctrl s l _
@[simp] theorem placeReply_time (l : Link) (a : Answer) (s : State) : (placeReply l a s).time = s.time := setLink_time s l _
@[simp] theorem placeReply_routes (l : Link) (a : Answer) (s : State) : (placeReply l a s).routes = s.routes := setLink_routes s l _
@[simp] theorem placeReply_cards (l : Link) (a : Answer) (s : State) : (placeReply l a s).cards = s.cards := setLink_cards s l _
@[simp] theorem placeReply_holds (l : Link) (a : Answer) (s : State) : (placeReply l a s).holds = s.holds := setLink_holds s l _
@[simp] theorem placeReply_pools (l : Link) (a : Answer) (s : State) : (placeReply l a s).pools = s.pools := setLink_pools s l _
@[simp] theorem placeReply_sweep (l : Link) (a : Answer) (s : State) : (placeReply l a s).sweep = s.sweep := setLink_sweep s l _
@[simp] theorem placeReply_journal (l : Link) (a : Answer) (s : State) : (placeReply l a s).journal = s.journal := setLink_journal s l _
@[simp] theorem placeReply_shops (l : Link) (a : Answer) (s : State) : (placeReply l a s).shops = s.shops := setLink_shops s l _
@[simp] theorem placeReply_period (l : Link) (a : Answer) (s : State) : (placeReply l a s).period = s.period := setLink_period s l _
@[simp] theorem placeReply_sau (l : Link) (a : Answer) (s : State) : (placeReply l a s).sau = s.sau := setLink_sau s l _
@[simp] theorem placeReply_channels (l : Link) (a : Answer) (s : State) : (placeReply l a s).channels = s.channels := setLink_channels s l _
@[simp] theorem placeReply_serial (l : Link) (a : Answer) (s : State) : (placeReply l a s).serial = s.serial := setLink_serial s l _

/-! ## An arriving frame changes only its link -/

@[simp] theorem arrive_pending (l : Link) (f : RxFrame) (s : State) : (arrive l f s).pending = s.pending := setLink_pending s l _
@[simp] theorem arrive_power (l : Link) (f : RxFrame) (s : State) : (arrive l f s).power = s.power := setLink_power s l _
@[simp] theorem arrive_ctrl (l : Link) (f : RxFrame) (s : State) : (arrive l f s).ctrl = s.ctrl := setLink_ctrl s l _
@[simp] theorem arrive_time (l : Link) (f : RxFrame) (s : State) : (arrive l f s).time = s.time := setLink_time s l _
@[simp] theorem arrive_routes (l : Link) (f : RxFrame) (s : State) : (arrive l f s).routes = s.routes := setLink_routes s l _
@[simp] theorem arrive_cards (l : Link) (f : RxFrame) (s : State) : (arrive l f s).cards = s.cards := setLink_cards s l _
@[simp] theorem arrive_holds (l : Link) (f : RxFrame) (s : State) : (arrive l f s).holds = s.holds := setLink_holds s l _
@[simp] theorem arrive_pools (l : Link) (f : RxFrame) (s : State) : (arrive l f s).pools = s.pools := setLink_pools s l _
@[simp] theorem arrive_sweep (l : Link) (f : RxFrame) (s : State) : (arrive l f s).sweep = s.sweep := setLink_sweep s l _
@[simp] theorem arrive_journal (l : Link) (f : RxFrame) (s : State) : (arrive l f s).journal = s.journal := setLink_journal s l _
@[simp] theorem arrive_shops (l : Link) (f : RxFrame) (s : State) : (arrive l f s).shops = s.shops := setLink_shops s l _
@[simp] theorem arrive_period (l : Link) (f : RxFrame) (s : State) : (arrive l f s).period = s.period := setLink_period s l _
@[simp] theorem arrive_sau (l : Link) (f : RxFrame) (s : State) : (arrive l f s).sau = s.sau := setLink_sau s l _
@[simp] theorem arrive_channels (l : Link) (f : RxFrame) (s : State) : (arrive l f s).channels = s.channels := setLink_channels s l _
@[simp] theorem arrive_serial (l : Link) (f : RxFrame) (s : State) : (arrive l f s).serial = s.serial := setLink_serial s l _

/-! ## A request in progress stands only in its link -/

@[simp] theorem begun_pending (l : Link) (kind tag : Nat) (s : State) : (begun l kind tag s).pending = s.pending := setLink_pending s l _
@[simp] theorem begun_power (l : Link) (kind tag : Nat) (s : State) : (begun l kind tag s).power = s.power := setLink_power s l _
@[simp] theorem begun_ctrl (l : Link) (kind tag : Nat) (s : State) : (begun l kind tag s).ctrl = s.ctrl := setLink_ctrl s l _
@[simp] theorem begun_time (l : Link) (kind tag : Nat) (s : State) : (begun l kind tag s).time = s.time := setLink_time s l _
@[simp] theorem begun_routes (l : Link) (kind tag : Nat) (s : State) : (begun l kind tag s).routes = s.routes := setLink_routes s l _
@[simp] theorem begun_cards (l : Link) (kind tag : Nat) (s : State) : (begun l kind tag s).cards = s.cards := setLink_cards s l _
@[simp] theorem begun_holds (l : Link) (kind tag : Nat) (s : State) : (begun l kind tag s).holds = s.holds := setLink_holds s l _
@[simp] theorem begun_pools (l : Link) (kind tag : Nat) (s : State) : (begun l kind tag s).pools = s.pools := setLink_pools s l _
@[simp] theorem begun_sweep (l : Link) (kind tag : Nat) (s : State) : (begun l kind tag s).sweep = s.sweep := setLink_sweep s l _
@[simp] theorem begun_journal (l : Link) (kind tag : Nat) (s : State) : (begun l kind tag s).journal = s.journal := setLink_journal s l _
@[simp] theorem begun_shops (l : Link) (kind tag : Nat) (s : State) : (begun l kind tag s).shops = s.shops := setLink_shops s l _
@[simp] theorem begun_period (l : Link) (kind tag : Nat) (s : State) : (begun l kind tag s).period = s.period := setLink_period s l _
@[simp] theorem begun_sau (l : Link) (kind tag : Nat) (s : State) : (begun l kind tag s).sau = s.sau := setLink_sau s l _
@[simp] theorem begun_channels (l : Link) (kind tag : Nat) (s : State) : (begun l kind tag s).channels = s.channels := setLink_channels s l _
@[simp] theorem begun_serial (l : Link) (kind tag : Nat) (s : State) : (begun l kind tag s).serial = s.serial := setLink_serial s l _

/-! ## A reply placed stands only in its link -/

@[simp] theorem replied_pending (l : Link) (kind tag : Nat) (a : Answer) (s : State) : (replied l kind tag a s).pending = s.pending := setLink_pending s l _
@[simp] theorem replied_power (l : Link) (kind tag : Nat) (a : Answer) (s : State) : (replied l kind tag a s).power = s.power := setLink_power s l _
@[simp] theorem replied_ctrl (l : Link) (kind tag : Nat) (a : Answer) (s : State) : (replied l kind tag a s).ctrl = s.ctrl := setLink_ctrl s l _
@[simp] theorem replied_time (l : Link) (kind tag : Nat) (a : Answer) (s : State) : (replied l kind tag a s).time = s.time := setLink_time s l _
@[simp] theorem replied_routes (l : Link) (kind tag : Nat) (a : Answer) (s : State) : (replied l kind tag a s).routes = s.routes := setLink_routes s l _
@[simp] theorem replied_cards (l : Link) (kind tag : Nat) (a : Answer) (s : State) : (replied l kind tag a s).cards = s.cards := setLink_cards s l _
@[simp] theorem replied_holds (l : Link) (kind tag : Nat) (a : Answer) (s : State) : (replied l kind tag a s).holds = s.holds := setLink_holds s l _
@[simp] theorem replied_pools (l : Link) (kind tag : Nat) (a : Answer) (s : State) : (replied l kind tag a s).pools = s.pools := setLink_pools s l _
@[simp] theorem replied_sweep (l : Link) (kind tag : Nat) (a : Answer) (s : State) : (replied l kind tag a s).sweep = s.sweep := setLink_sweep s l _
@[simp] theorem replied_journal (l : Link) (kind tag : Nat) (a : Answer) (s : State) : (replied l kind tag a s).journal = s.journal := setLink_journal s l _
@[simp] theorem replied_shops (l : Link) (kind tag : Nat) (a : Answer) (s : State) : (replied l kind tag a s).shops = s.shops := setLink_shops s l _
@[simp] theorem replied_period (l : Link) (kind tag : Nat) (a : Answer) (s : State) : (replied l kind tag a s).period = s.period := setLink_period s l _
@[simp] theorem replied_sau (l : Link) (kind tag : Nat) (a : Answer) (s : State) : (replied l kind tag a s).sau = s.sau := setLink_sau s l _
@[simp] theorem replied_channels (l : Link) (kind tag : Nat) (a : Answer) (s : State) : (replied l kind tag a s).channels = s.channels := setLink_channels s l _
@[simp] theorem replied_serial (l : Link) (kind tag : Nat) (a : Answer) (s : State) : (replied l kind tag a s).serial = s.serial := setLink_serial s l _

/-! ## The end of a request changes only its link -/


@[simp] theorem finish_pending (l : Link) (d : Done) : (finish l d).pending = d.state.pending := by
  unfold finish
  rw [giveNotices_pending]
  split
  · exact placeReply_pending l _ _
  · rfl
@[simp] theorem finish_power (l : Link) (d : Done) : (finish l d).power = d.state.power := by
  unfold finish
  rw [giveNotices_power]
  split
  · exact placeReply_power l _ _
  · rfl
@[simp] theorem finish_ctrl (l : Link) (d : Done) : (finish l d).ctrl = d.state.ctrl := by
  unfold finish
  rw [giveNotices_ctrl]
  split
  · exact placeReply_ctrl l _ _
  · rfl
@[simp] theorem finish_time (l : Link) (d : Done) : (finish l d).time = d.state.time := by
  unfold finish
  rw [giveNotices_time]
  split
  · exact placeReply_time l _ _
  · rfl
@[simp] theorem finish_routes (l : Link) (d : Done) : (finish l d).routes = d.state.routes := by
  unfold finish
  rw [giveNotices_routes]
  split
  · exact placeReply_routes l _ _
  · rfl
@[simp] theorem finish_cards (l : Link) (d : Done) : (finish l d).cards = d.state.cards := by
  unfold finish
  rw [giveNotices_cards]
  split
  · exact placeReply_cards l _ _
  · rfl
@[simp] theorem finish_holds (l : Link) (d : Done) : (finish l d).holds = d.state.holds := by
  unfold finish
  rw [giveNotices_holds]
  split
  · exact placeReply_holds l _ _
  · rfl
@[simp] theorem finish_pools (l : Link) (d : Done) : (finish l d).pools = d.state.pools := by
  unfold finish
  rw [giveNotices_pools]
  split
  · exact placeReply_pools l _ _
  · rfl
@[simp] theorem finish_sweep (l : Link) (d : Done) : (finish l d).sweep = d.state.sweep := by
  unfold finish
  rw [giveNotices_sweep]
  split
  · exact placeReply_sweep l _ _
  · rfl
@[simp] theorem finish_journal (l : Link) (d : Done) : (finish l d).journal = d.state.journal := by
  unfold finish
  rw [giveNotices_journal]
  split
  · exact placeReply_journal l _ _
  · rfl
@[simp] theorem finish_shops (l : Link) (d : Done) : (finish l d).shops = d.state.shops := by
  unfold finish
  rw [giveNotices_shops]
  split
  · exact placeReply_shops l _ _
  · rfl
@[simp] theorem finish_period (l : Link) (d : Done) : (finish l d).period = d.state.period := by
  unfold finish
  rw [giveNotices_period]
  split
  · exact placeReply_period l _ _
  · rfl
@[simp] theorem finish_sau (l : Link) (d : Done) : (finish l d).sau = d.state.sau := by
  unfold finish
  rw [giveNotices_sau]
  split
  · exact placeReply_sau l _ _
  · rfl
@[simp] theorem finish_channels (l : Link) (d : Done) : (finish l d).channels = d.state.channels := by
  unfold finish
  rw [giveNotices_channels]
  split
  · exact placeReply_channels l _ _
  · rfl
@[simp] theorem finish_serial (l : Link) (d : Done) : (finish l d).serial = d.state.serial := by
  unfold finish
  rw [giveNotices_serial]
  split
  · exact placeReply_serial l _ _
  · rfl

/-! ## A posting changes only shops -/

@[simp] theorem postShop_pending (i : Nat) (d : Posting) (s : State) : (postShop i d s).pending = s.pending := rfl
@[simp] theorem postShop_power (i : Nat) (d : Posting) (s : State) : (postShop i d s).power = s.power := rfl
@[simp] theorem postShop_ctrl (i : Nat) (d : Posting) (s : State) : (postShop i d s).ctrl = s.ctrl := rfl
@[simp] theorem postShop_time (i : Nat) (d : Posting) (s : State) : (postShop i d s).time = s.time := rfl
@[simp] theorem postShop_tLink (i : Nat) (d : Posting) (s : State) : (postShop i d s).tLink = s.tLink := rfl
@[simp] theorem postShop_aLink (i : Nat) (d : Posting) (s : State) : (postShop i d s).aLink = s.aLink := rfl
@[simp] theorem postShop_routes (i : Nat) (d : Posting) (s : State) : (postShop i d s).routes = s.routes := rfl
@[simp] theorem postShop_cards (i : Nat) (d : Posting) (s : State) : (postShop i d s).cards = s.cards := rfl
@[simp] theorem postShop_holds (i : Nat) (d : Posting) (s : State) : (postShop i d s).holds = s.holds := rfl
@[simp] theorem postShop_pools (i : Nat) (d : Posting) (s : State) : (postShop i d s).pools = s.pools := rfl
@[simp] theorem postShop_sweep (i : Nat) (d : Posting) (s : State) : (postShop i d s).sweep = s.sweep := rfl
@[simp] theorem postShop_journal (i : Nat) (d : Posting) (s : State) : (postShop i d s).journal = s.journal := rfl
@[simp] theorem postShop_period (i : Nat) (d : Posting) (s : State) : (postShop i d s).period = s.period := rfl
@[simp] theorem postShop_sau (i : Nat) (d : Posting) (s : State) : (postShop i d s).sau = s.sau := rfl
@[simp] theorem postShop_channels (i : Nat) (d : Posting) (s : State) : (postShop i d s).channels = s.channels := rfl
@[simp] theorem postShop_serial (i : Nat) (d : Posting) (s : State) : (postShop i d s).serial = s.serial := rfl

/-! ## A sponsor charge changes only shops -/

@[simp] theorem postSponsor_pending (k : EntryKind) (s : State) (p : EntryPart) : (postSponsor k s p).pending = s.pending := by
  unfold postSponsor
  split
  · split <;> rfl
  · rfl
@[simp] theorem postSponsor_power (k : EntryKind) (s : State) (p : EntryPart) : (postSponsor k s p).power = s.power := by
  unfold postSponsor
  split
  · split <;> rfl
  · rfl
@[simp] theorem postSponsor_ctrl (k : EntryKind) (s : State) (p : EntryPart) : (postSponsor k s p).ctrl = s.ctrl := by
  unfold postSponsor
  split
  · split <;> rfl
  · rfl
@[simp] theorem postSponsor_time (k : EntryKind) (s : State) (p : EntryPart) : (postSponsor k s p).time = s.time := by
  unfold postSponsor
  split
  · split <;> rfl
  · rfl
@[simp] theorem postSponsor_tLink (k : EntryKind) (s : State) (p : EntryPart) : (postSponsor k s p).tLink = s.tLink := by
  unfold postSponsor
  split
  · split <;> rfl
  · rfl
@[simp] theorem postSponsor_aLink (k : EntryKind) (s : State) (p : EntryPart) : (postSponsor k s p).aLink = s.aLink := by
  unfold postSponsor
  split
  · split <;> rfl
  · rfl
@[simp] theorem postSponsor_routes (k : EntryKind) (s : State) (p : EntryPart) : (postSponsor k s p).routes = s.routes := by
  unfold postSponsor
  split
  · split <;> rfl
  · rfl
@[simp] theorem postSponsor_cards (k : EntryKind) (s : State) (p : EntryPart) : (postSponsor k s p).cards = s.cards := by
  unfold postSponsor
  split
  · split <;> rfl
  · rfl
@[simp] theorem postSponsor_holds (k : EntryKind) (s : State) (p : EntryPart) : (postSponsor k s p).holds = s.holds := by
  unfold postSponsor
  split
  · split <;> rfl
  · rfl
@[simp] theorem postSponsor_pools (k : EntryKind) (s : State) (p : EntryPart) : (postSponsor k s p).pools = s.pools := by
  unfold postSponsor
  split
  · split <;> rfl
  · rfl
@[simp] theorem postSponsor_sweep (k : EntryKind) (s : State) (p : EntryPart) : (postSponsor k s p).sweep = s.sweep := by
  unfold postSponsor
  split
  · split <;> rfl
  · rfl
@[simp] theorem postSponsor_journal (k : EntryKind) (s : State) (p : EntryPart) : (postSponsor k s p).journal = s.journal := by
  unfold postSponsor
  split
  · split <;> rfl
  · rfl
@[simp] theorem postSponsor_period (k : EntryKind) (s : State) (p : EntryPart) : (postSponsor k s p).period = s.period := by
  unfold postSponsor
  split
  · split <;> rfl
  · rfl
@[simp] theorem postSponsor_sau (k : EntryKind) (s : State) (p : EntryPart) : (postSponsor k s p).sau = s.sau := by
  unfold postSponsor
  split
  · split <;> rfl
  · rfl
@[simp] theorem postSponsor_channels (k : EntryKind) (s : State) (p : EntryPart) : (postSponsor k s p).channels = s.channels := by
  unfold postSponsor
  split
  · split <;> rfl
  · rfl
@[simp] theorem postSponsor_serial (k : EntryKind) (s : State) (p : EntryPart) : (postSponsor k s p).serial = s.serial := by
  unfold postSponsor
  split
  · split <;> rfl
  · rfl

/-! ## The postings of an entry change only shops -/

@[simp] theorem postPositions_pending (e : Entry) (s : State) : (postPositions e s).pending = s.pending := by
  unfold postPositions
  rw [foldl_keeps (fun s => s.pending) _ (fun s p => postSponsor_pending e.kind s p)]
  split <;> rfl
@[simp] theorem postPositions_power (e : Entry) (s : State) : (postPositions e s).power = s.power := by
  unfold postPositions
  rw [foldl_keeps (fun s => s.power) _ (fun s p => postSponsor_power e.kind s p)]
  split <;> rfl
@[simp] theorem postPositions_ctrl (e : Entry) (s : State) : (postPositions e s).ctrl = s.ctrl := by
  unfold postPositions
  rw [foldl_keeps (fun s => s.ctrl) _ (fun s p => postSponsor_ctrl e.kind s p)]
  split <;> rfl
@[simp] theorem postPositions_time (e : Entry) (s : State) : (postPositions e s).time = s.time := by
  unfold postPositions
  rw [foldl_keeps (fun s => s.time) _ (fun s p => postSponsor_time e.kind s p)]
  split <;> rfl
@[simp] theorem postPositions_tLink (e : Entry) (s : State) : (postPositions e s).tLink = s.tLink := by
  unfold postPositions
  rw [foldl_keeps (fun s => s.tLink) _ (fun s p => postSponsor_tLink e.kind s p)]
  split <;> rfl
@[simp] theorem postPositions_aLink (e : Entry) (s : State) : (postPositions e s).aLink = s.aLink := by
  unfold postPositions
  rw [foldl_keeps (fun s => s.aLink) _ (fun s p => postSponsor_aLink e.kind s p)]
  split <;> rfl
@[simp] theorem postPositions_routes (e : Entry) (s : State) : (postPositions e s).routes = s.routes := by
  unfold postPositions
  rw [foldl_keeps (fun s => s.routes) _ (fun s p => postSponsor_routes e.kind s p)]
  split <;> rfl
@[simp] theorem postPositions_cards (e : Entry) (s : State) : (postPositions e s).cards = s.cards := by
  unfold postPositions
  rw [foldl_keeps (fun s => s.cards) _ (fun s p => postSponsor_cards e.kind s p)]
  split <;> rfl
@[simp] theorem postPositions_holds (e : Entry) (s : State) : (postPositions e s).holds = s.holds := by
  unfold postPositions
  rw [foldl_keeps (fun s => s.holds) _ (fun s p => postSponsor_holds e.kind s p)]
  split <;> rfl
@[simp] theorem postPositions_pools (e : Entry) (s : State) : (postPositions e s).pools = s.pools := by
  unfold postPositions
  rw [foldl_keeps (fun s => s.pools) _ (fun s p => postSponsor_pools e.kind s p)]
  split <;> rfl
@[simp] theorem postPositions_sweep (e : Entry) (s : State) : (postPositions e s).sweep = s.sweep := by
  unfold postPositions
  rw [foldl_keeps (fun s => s.sweep) _ (fun s p => postSponsor_sweep e.kind s p)]
  split <;> rfl
@[simp] theorem postPositions_journal (e : Entry) (s : State) : (postPositions e s).journal = s.journal := by
  unfold postPositions
  rw [foldl_keeps (fun s => s.journal) _ (fun s p => postSponsor_journal e.kind s p)]
  split <;> rfl
@[simp] theorem postPositions_period (e : Entry) (s : State) : (postPositions e s).period = s.period := by
  unfold postPositions
  rw [foldl_keeps (fun s => s.period) _ (fun s p => postSponsor_period e.kind s p)]
  split <;> rfl
@[simp] theorem postPositions_sau (e : Entry) (s : State) : (postPositions e s).sau = s.sau := by
  unfold postPositions
  rw [foldl_keeps (fun s => s.sau) _ (fun s p => postSponsor_sau e.kind s p)]
  split <;> rfl
@[simp] theorem postPositions_channels (e : Entry) (s : State) : (postPositions e s).channels = s.channels := by
  unfold postPositions
  rw [foldl_keeps (fun s => s.channels) _ (fun s p => postSponsor_channels e.kind s p)]
  split <;> rfl
@[simp] theorem postPositions_serial (e : Entry) (s : State) : (postPositions e s).serial = s.serial := by
  unfold postPositions
  rw [foldl_keeps (fun s => s.serial) _ (fun s p => postSponsor_serial e.kind s p)]
  split <;> rfl

/-! ## Pending expiry changes only pools -/

@[simp] theorem addPending_pending (p a : Nat) (s : State) : (addPending p a s).pending = s.pending := rfl
@[simp] theorem addPending_power (p a : Nat) (s : State) : (addPending p a s).power = s.power := rfl
@[simp] theorem addPending_ctrl (p a : Nat) (s : State) : (addPending p a s).ctrl = s.ctrl := rfl
@[simp] theorem addPending_time (p a : Nat) (s : State) : (addPending p a s).time = s.time := rfl
@[simp] theorem addPending_tLink (p a : Nat) (s : State) : (addPending p a s).tLink = s.tLink := rfl
@[simp] theorem addPending_aLink (p a : Nat) (s : State) : (addPending p a s).aLink = s.aLink := rfl
@[simp] theorem addPending_routes (p a : Nat) (s : State) : (addPending p a s).routes = s.routes := rfl
@[simp] theorem addPending_cards (p a : Nat) (s : State) : (addPending p a s).cards = s.cards := rfl
@[simp] theorem addPending_holds (p a : Nat) (s : State) : (addPending p a s).holds = s.holds := rfl
@[simp] theorem addPending_sweep (p a : Nat) (s : State) : (addPending p a s).sweep = s.sweep := rfl
@[simp] theorem addPending_journal (p a : Nat) (s : State) : (addPending p a s).journal = s.journal := rfl
@[simp] theorem addPending_shops (p a : Nat) (s : State) : (addPending p a s).shops = s.shops := rfl
@[simp] theorem addPending_period (p a : Nat) (s : State) : (addPending p a s).period = s.period := rfl
@[simp] theorem addPending_sau (p a : Nat) (s : State) : (addPending p a s).sau = s.sau := rfl
@[simp] theorem addPending_channels (p a : Nat) (s : State) : (addPending p a s).channels = s.channels := rfl
@[simp] theorem addPending_serial (p a : Nat) (s : State) : (addPending p a s).serial = s.serial := rfl

/-! ## Several amounts to pending expiry change only pools -/

@[simp] theorem addPendings_pending (ps : List (Nat × Nat)) (s : State) : (addPendings ps s).pending = s.pending := foldl_keeps (fun s => s.pending) (fun s p => addPending p.1 p.2 s) (fun _ _ => rfl) ps s
@[simp] theorem addPendings_power (ps : List (Nat × Nat)) (s : State) : (addPendings ps s).power = s.power := foldl_keeps (fun s => s.power) (fun s p => addPending p.1 p.2 s) (fun _ _ => rfl) ps s
@[simp] theorem addPendings_ctrl (ps : List (Nat × Nat)) (s : State) : (addPendings ps s).ctrl = s.ctrl := foldl_keeps (fun s => s.ctrl) (fun s p => addPending p.1 p.2 s) (fun _ _ => rfl) ps s
@[simp] theorem addPendings_time (ps : List (Nat × Nat)) (s : State) : (addPendings ps s).time = s.time := foldl_keeps (fun s => s.time) (fun s p => addPending p.1 p.2 s) (fun _ _ => rfl) ps s
@[simp] theorem addPendings_tLink (ps : List (Nat × Nat)) (s : State) : (addPendings ps s).tLink = s.tLink := foldl_keeps (fun s => s.tLink) (fun s p => addPending p.1 p.2 s) (fun _ _ => rfl) ps s
@[simp] theorem addPendings_aLink (ps : List (Nat × Nat)) (s : State) : (addPendings ps s).aLink = s.aLink := foldl_keeps (fun s => s.aLink) (fun s p => addPending p.1 p.2 s) (fun _ _ => rfl) ps s
@[simp] theorem addPendings_routes (ps : List (Nat × Nat)) (s : State) : (addPendings ps s).routes = s.routes := foldl_keeps (fun s => s.routes) (fun s p => addPending p.1 p.2 s) (fun _ _ => rfl) ps s
@[simp] theorem addPendings_cards (ps : List (Nat × Nat)) (s : State) : (addPendings ps s).cards = s.cards := foldl_keeps (fun s => s.cards) (fun s p => addPending p.1 p.2 s) (fun _ _ => rfl) ps s
@[simp] theorem addPendings_holds (ps : List (Nat × Nat)) (s : State) : (addPendings ps s).holds = s.holds := foldl_keeps (fun s => s.holds) (fun s p => addPending p.1 p.2 s) (fun _ _ => rfl) ps s
@[simp] theorem addPendings_sweep (ps : List (Nat × Nat)) (s : State) : (addPendings ps s).sweep = s.sweep := foldl_keeps (fun s => s.sweep) (fun s p => addPending p.1 p.2 s) (fun _ _ => rfl) ps s
@[simp] theorem addPendings_journal (ps : List (Nat × Nat)) (s : State) : (addPendings ps s).journal = s.journal := foldl_keeps (fun s => s.journal) (fun s p => addPending p.1 p.2 s) (fun _ _ => rfl) ps s
@[simp] theorem addPendings_shops (ps : List (Nat × Nat)) (s : State) : (addPendings ps s).shops = s.shops := foldl_keeps (fun s => s.shops) (fun s p => addPending p.1 p.2 s) (fun _ _ => rfl) ps s
@[simp] theorem addPendings_period (ps : List (Nat × Nat)) (s : State) : (addPendings ps s).period = s.period := foldl_keeps (fun s => s.period) (fun s p => addPending p.1 p.2 s) (fun _ _ => rfl) ps s
@[simp] theorem addPendings_sau (ps : List (Nat × Nat)) (s : State) : (addPendings ps s).sau = s.sau := foldl_keeps (fun s => s.sau) (fun s p => addPending p.1 p.2 s) (fun _ _ => rfl) ps s
@[simp] theorem addPendings_channels (ps : List (Nat × Nat)) (s : State) : (addPendings ps s).channels = s.channels := foldl_keeps (fun s => s.channels) (fun s p => addPending p.1 p.2 s) (fun _ _ => rfl) ps s
@[simp] theorem addPendings_serial (ps : List (Nat × Nat)) (s : State) : (addPendings ps s).serial = s.serial := foldl_keeps (fun s => s.serial) (fun s p => addPending p.1 p.2 s) (fun _ _ => rfl) ps s

/-! ## The pool postings of an entry change only pools -/

@[simp] theorem postPools_pending (e : Entry) (s : State) : (postPools e s).pending = s.pending := by
  unfold postPools
  rw [addPendings_pending]
  exact foldl_keeps (fun s => s.pending) (fun s p => s.setPool p.pool (movePool e.kind p.amount (s.pool p.pool))) (fun _ _ => rfl) e.parts s
@[simp] theorem postPools_power (e : Entry) (s : State) : (postPools e s).power = s.power := by
  unfold postPools
  rw [addPendings_power]
  exact foldl_keeps (fun s => s.power) (fun s p => s.setPool p.pool (movePool e.kind p.amount (s.pool p.pool))) (fun _ _ => rfl) e.parts s
@[simp] theorem postPools_ctrl (e : Entry) (s : State) : (postPools e s).ctrl = s.ctrl := by
  unfold postPools
  rw [addPendings_ctrl]
  exact foldl_keeps (fun s => s.ctrl) (fun s p => s.setPool p.pool (movePool e.kind p.amount (s.pool p.pool))) (fun _ _ => rfl) e.parts s
@[simp] theorem postPools_time (e : Entry) (s : State) : (postPools e s).time = s.time := by
  unfold postPools
  rw [addPendings_time]
  exact foldl_keeps (fun s => s.time) (fun s p => s.setPool p.pool (movePool e.kind p.amount (s.pool p.pool))) (fun _ _ => rfl) e.parts s
@[simp] theorem postPools_tLink (e : Entry) (s : State) : (postPools e s).tLink = s.tLink := by
  unfold postPools
  rw [addPendings_tLink]
  exact foldl_keeps (fun s => s.tLink) (fun s p => s.setPool p.pool (movePool e.kind p.amount (s.pool p.pool))) (fun _ _ => rfl) e.parts s
@[simp] theorem postPools_aLink (e : Entry) (s : State) : (postPools e s).aLink = s.aLink := by
  unfold postPools
  rw [addPendings_aLink]
  exact foldl_keeps (fun s => s.aLink) (fun s p => s.setPool p.pool (movePool e.kind p.amount (s.pool p.pool))) (fun _ _ => rfl) e.parts s
@[simp] theorem postPools_routes (e : Entry) (s : State) : (postPools e s).routes = s.routes := by
  unfold postPools
  rw [addPendings_routes]
  exact foldl_keeps (fun s => s.routes) (fun s p => s.setPool p.pool (movePool e.kind p.amount (s.pool p.pool))) (fun _ _ => rfl) e.parts s
@[simp] theorem postPools_cards (e : Entry) (s : State) : (postPools e s).cards = s.cards := by
  unfold postPools
  rw [addPendings_cards]
  exact foldl_keeps (fun s => s.cards) (fun s p => s.setPool p.pool (movePool e.kind p.amount (s.pool p.pool))) (fun _ _ => rfl) e.parts s
@[simp] theorem postPools_holds (e : Entry) (s : State) : (postPools e s).holds = s.holds := by
  unfold postPools
  rw [addPendings_holds]
  exact foldl_keeps (fun s => s.holds) (fun s p => s.setPool p.pool (movePool e.kind p.amount (s.pool p.pool))) (fun _ _ => rfl) e.parts s
@[simp] theorem postPools_sweep (e : Entry) (s : State) : (postPools e s).sweep = s.sweep := by
  unfold postPools
  rw [addPendings_sweep]
  exact foldl_keeps (fun s => s.sweep) (fun s p => s.setPool p.pool (movePool e.kind p.amount (s.pool p.pool))) (fun _ _ => rfl) e.parts s
@[simp] theorem postPools_journal (e : Entry) (s : State) : (postPools e s).journal = s.journal := by
  unfold postPools
  rw [addPendings_journal]
  exact foldl_keeps (fun s => s.journal) (fun s p => s.setPool p.pool (movePool e.kind p.amount (s.pool p.pool))) (fun _ _ => rfl) e.parts s
@[simp] theorem postPools_shops (e : Entry) (s : State) : (postPools e s).shops = s.shops := by
  unfold postPools
  rw [addPendings_shops]
  exact foldl_keeps (fun s => s.shops) (fun s p => s.setPool p.pool (movePool e.kind p.amount (s.pool p.pool))) (fun _ _ => rfl) e.parts s
@[simp] theorem postPools_period (e : Entry) (s : State) : (postPools e s).period = s.period := by
  unfold postPools
  rw [addPendings_period]
  exact foldl_keeps (fun s => s.period) (fun s p => s.setPool p.pool (movePool e.kind p.amount (s.pool p.pool))) (fun _ _ => rfl) e.parts s
@[simp] theorem postPools_sau (e : Entry) (s : State) : (postPools e s).sau = s.sau := by
  unfold postPools
  rw [addPendings_sau]
  exact foldl_keeps (fun s => s.sau) (fun s p => s.setPool p.pool (movePool e.kind p.amount (s.pool p.pool))) (fun _ _ => rfl) e.parts s
@[simp] theorem postPools_channels (e : Entry) (s : State) : (postPools e s).channels = s.channels := by
  unfold postPools
  rw [addPendings_channels]
  exact foldl_keeps (fun s => s.channels) (fun s p => s.setPool p.pool (movePool e.kind p.amount (s.pool p.pool))) (fun _ _ => rfl) e.parts s
@[simp] theorem postPools_serial (e : Entry) (s : State) : (postPools e s).serial = s.serial := by
  unfold postPools
  rw [addPendings_serial]
  exact foldl_keeps (fun s => s.serial) (fun s p => s.setPool p.pool (movePool e.kind p.amount (s.pool p.pool))) (fun _ _ => rfl) e.parts s

/-! ## An entry changes only the journal, shops, pools and links -/

@[simp] theorem writeEntry_pending (e : Entry) (s : State) : (writeEntry e s).pending = s.pending := by
  simp [writeEntry]
@[simp] theorem writeEntry_power (e : Entry) (s : State) : (writeEntry e s).power = s.power := by
  simp [writeEntry]
@[simp] theorem writeEntry_ctrl (e : Entry) (s : State) : (writeEntry e s).ctrl = s.ctrl := by
  simp [writeEntry]
@[simp] theorem writeEntry_time (e : Entry) (s : State) : (writeEntry e s).time = s.time := by
  simp [writeEntry]
@[simp] theorem writeEntry_routes (e : Entry) (s : State) : (writeEntry e s).routes = s.routes := by
  simp [writeEntry]
@[simp] theorem writeEntry_cards (e : Entry) (s : State) : (writeEntry e s).cards = s.cards := by
  simp [writeEntry]
@[simp] theorem writeEntry_holds (e : Entry) (s : State) : (writeEntry e s).holds = s.holds := by
  simp [writeEntry]
@[simp] theorem writeEntry_sweep (e : Entry) (s : State) : (writeEntry e s).sweep = s.sweep := by
  simp [writeEntry]
@[simp] theorem writeEntry_period (e : Entry) (s : State) : (writeEntry e s).period = s.period := by
  simp [writeEntry]
@[simp] theorem writeEntry_sau (e : Entry) (s : State) : (writeEntry e s).sau = s.sau := by
  simp [writeEntry]
@[simp] theorem writeEntry_channels (e : Entry) (s : State) : (writeEntry e s).channels = s.channels := by
  simp [writeEntry]
@[simp] theorem writeEntry_serial (e : Entry) (s : State) : (writeEntry e s).serial = s.serial := by
  simp [writeEntry]

@[simp] theorem writeEntry_journal (e : Entry) (s : State) : (writeEntry e s).journal = pushEntry e s.journal := by simp [writeEntry]

theorem writeEntry_shops (e : Entry) (s : State) :
    (writeEntry e s).shops = (postPositions e { s with journal := pushEntry e s.journal }).shops := by simp [writeEntry]

theorem writeEntry_pools (e : Entry) (s : State) :
    (writeEntry e s).pools = (postPools e (postPositions e { s with journal := pushEntry e s.journal })).pools := by
  simp [writeEntry]

/-! ## The end of a hold changes only cards, holds and pools -/

@[simp] theorem endHold_pending (n : Nat) (back : Split) (x : LastEnd) (s : State) : (endHold n back x s).pending = s.pending := by
  unfold endHold
  split
  · rfl
  · dsimp only
    split <;> simp
@[simp] theorem endHold_power (n : Nat) (back : Split) (x : LastEnd) (s : State) : (endHold n back x s).power = s.power := by
  unfold endHold
  split
  · rfl
  · dsimp only
    split <;> simp
@[simp] theorem endHold_ctrl (n : Nat) (back : Split) (x : LastEnd) (s : State) : (endHold n back x s).ctrl = s.ctrl := by
  unfold endHold
  split
  · rfl
  · dsimp only
    split <;> simp
@[simp] theorem endHold_time (n : Nat) (back : Split) (x : LastEnd) (s : State) : (endHold n back x s).time = s.time := by
  unfold endHold
  split
  · rfl
  · dsimp only
    split <;> simp
@[simp] theorem endHold_tLink (n : Nat) (back : Split) (x : LastEnd) (s : State) : (endHold n back x s).tLink = s.tLink := by
  unfold endHold
  split
  · rfl
  · dsimp only
    split <;> simp
@[simp] theorem endHold_aLink (n : Nat) (back : Split) (x : LastEnd) (s : State) : (endHold n back x s).aLink = s.aLink := by
  unfold endHold
  split
  · rfl
  · dsimp only
    split <;> simp
@[simp] theorem endHold_routes (n : Nat) (back : Split) (x : LastEnd) (s : State) : (endHold n back x s).routes = s.routes := by
  unfold endHold
  split
  · rfl
  · dsimp only
    split <;> simp
@[simp] theorem endHold_sweep (n : Nat) (back : Split) (x : LastEnd) (s : State) : (endHold n back x s).sweep = s.sweep := by
  unfold endHold
  split
  · rfl
  · dsimp only
    split <;> simp
@[simp] theorem endHold_journal (n : Nat) (back : Split) (x : LastEnd) (s : State) : (endHold n back x s).journal = s.journal := by
  unfold endHold
  split
  · rfl
  · dsimp only
    split <;> simp
@[simp] theorem endHold_shops (n : Nat) (back : Split) (x : LastEnd) (s : State) : (endHold n back x s).shops = s.shops := by
  unfold endHold
  split
  · rfl
  · dsimp only
    split <;> simp
@[simp] theorem endHold_period (n : Nat) (back : Split) (x : LastEnd) (s : State) : (endHold n back x s).period = s.period := by
  unfold endHold
  split
  · rfl
  · dsimp only
    split <;> simp
@[simp] theorem endHold_sau (n : Nat) (back : Split) (x : LastEnd) (s : State) : (endHold n back x s).sau = s.sau := by
  unfold endHold
  split
  · rfl
  · dsimp only
    split <;> simp
@[simp] theorem endHold_channels (n : Nat) (back : Split) (x : LastEnd) (s : State) : (endHold n back x s).channels = s.channels := by
  unfold endHold
  split
  · rfl
  · dsimp only
    split <;> simp
@[simp] theorem endHold_serial (n : Nat) (back : Split) (x : LastEnd) (s : State) : (endHold n back x s).serial = s.serial := by
  unfold endHold
  split
  · rfl
  · dsimp only
    split <;> simp

/-! ## A changed entry changes only the journal -/

@[simp] theorem amendEntry_pending (q : Nat) (f : Entry → Entry) (s : State) : (amendEntry q f s).pending = s.pending := rfl
@[simp] theorem amendEntry_power (q : Nat) (f : Entry → Entry) (s : State) : (amendEntry q f s).power = s.power := rfl
@[simp] theorem amendEntry_ctrl (q : Nat) (f : Entry → Entry) (s : State) : (amendEntry q f s).ctrl = s.ctrl := rfl
@[simp] theorem amendEntry_time (q : Nat) (f : Entry → Entry) (s : State) : (amendEntry q f s).time = s.time := rfl
@[simp] theorem amendEntry_tLink (q : Nat) (f : Entry → Entry) (s : State) : (amendEntry q f s).tLink = s.tLink := rfl
@[simp] theorem amendEntry_aLink (q : Nat) (f : Entry → Entry) (s : State) : (amendEntry q f s).aLink = s.aLink := rfl
@[simp] theorem amendEntry_routes (q : Nat) (f : Entry → Entry) (s : State) : (amendEntry q f s).routes = s.routes := rfl
@[simp] theorem amendEntry_cards (q : Nat) (f : Entry → Entry) (s : State) : (amendEntry q f s).cards = s.cards := rfl
@[simp] theorem amendEntry_holds (q : Nat) (f : Entry → Entry) (s : State) : (amendEntry q f s).holds = s.holds := rfl
@[simp] theorem amendEntry_pools (q : Nat) (f : Entry → Entry) (s : State) : (amendEntry q f s).pools = s.pools := rfl
@[simp] theorem amendEntry_sweep (q : Nat) (f : Entry → Entry) (s : State) : (amendEntry q f s).sweep = s.sweep := rfl
@[simp] theorem amendEntry_shops (q : Nat) (f : Entry → Entry) (s : State) : (amendEntry q f s).shops = s.shops := rfl
@[simp] theorem amendEntry_period (q : Nat) (f : Entry → Entry) (s : State) : (amendEntry q f s).period = s.period := rfl
@[simp] theorem amendEntry_sau (q : Nat) (f : Entry → Entry) (s : State) : (amendEntry q f s).sau = s.sau := rfl
@[simp] theorem amendEntry_channels (q : Nat) (f : Entry → Entry) (s : State) : (amendEntry q f s).channels = s.channels := rfl
@[simp] theorem amendEntry_serial (q : Nat) (f : Entry → Entry) (s : State) : (amendEntry q f s).serial = s.serial := rfl

/-! ## A payout record changes only shops -/

@[simp] theorem setPayoutState_pending (i : Nat) (x : PayoutState) (s : State) : (setPayoutState i x s).pending = s.pending := rfl
@[simp] theorem setPayoutState_power (i : Nat) (x : PayoutState) (s : State) : (setPayoutState i x s).power = s.power := rfl
@[simp] theorem setPayoutState_ctrl (i : Nat) (x : PayoutState) (s : State) : (setPayoutState i x s).ctrl = s.ctrl := rfl
@[simp] theorem setPayoutState_time (i : Nat) (x : PayoutState) (s : State) : (setPayoutState i x s).time = s.time := rfl
@[simp] theorem setPayoutState_tLink (i : Nat) (x : PayoutState) (s : State) : (setPayoutState i x s).tLink = s.tLink := rfl
@[simp] theorem setPayoutState_aLink (i : Nat) (x : PayoutState) (s : State) : (setPayoutState i x s).aLink = s.aLink := rfl
@[simp] theorem setPayoutState_routes (i : Nat) (x : PayoutState) (s : State) : (setPayoutState i x s).routes = s.routes := rfl
@[simp] theorem setPayoutState_cards (i : Nat) (x : PayoutState) (s : State) : (setPayoutState i x s).cards = s.cards := rfl
@[simp] theorem setPayoutState_holds (i : Nat) (x : PayoutState) (s : State) : (setPayoutState i x s).holds = s.holds := rfl
@[simp] theorem setPayoutState_pools (i : Nat) (x : PayoutState) (s : State) : (setPayoutState i x s).pools = s.pools := rfl
@[simp] theorem setPayoutState_sweep (i : Nat) (x : PayoutState) (s : State) : (setPayoutState i x s).sweep = s.sweep := rfl
@[simp] theorem setPayoutState_journal (i : Nat) (x : PayoutState) (s : State) : (setPayoutState i x s).journal = s.journal := rfl
@[simp] theorem setPayoutState_period (i : Nat) (x : PayoutState) (s : State) : (setPayoutState i x s).period = s.period := rfl
@[simp] theorem setPayoutState_sau (i : Nat) (x : PayoutState) (s : State) : (setPayoutState i x s).sau = s.sau := rfl
@[simp] theorem setPayoutState_channels (i : Nat) (x : PayoutState) (s : State) : (setPayoutState i x s).channels = s.channels := rfl
@[simp] theorem setPayoutState_serial (i : Nat) (x : PayoutState) (s : State) : (setPayoutState i x s).serial = s.serial := rfl

/-! ## Payout records change only shops -/

@[simp] theorem setPayoutStates_pending (is : List Nat) (x : PayoutState) (s : State) : (setPayoutStates is x s).pending = s.pending := foldl_keeps (fun s => s.pending) (fun s i => setPayoutState i x s) (fun _ _ => rfl) is s
@[simp] theorem setPayoutStates_power (is : List Nat) (x : PayoutState) (s : State) : (setPayoutStates is x s).power = s.power := foldl_keeps (fun s => s.power) (fun s i => setPayoutState i x s) (fun _ _ => rfl) is s
@[simp] theorem setPayoutStates_ctrl (is : List Nat) (x : PayoutState) (s : State) : (setPayoutStates is x s).ctrl = s.ctrl := foldl_keeps (fun s => s.ctrl) (fun s i => setPayoutState i x s) (fun _ _ => rfl) is s
@[simp] theorem setPayoutStates_time (is : List Nat) (x : PayoutState) (s : State) : (setPayoutStates is x s).time = s.time := foldl_keeps (fun s => s.time) (fun s i => setPayoutState i x s) (fun _ _ => rfl) is s
@[simp] theorem setPayoutStates_tLink (is : List Nat) (x : PayoutState) (s : State) : (setPayoutStates is x s).tLink = s.tLink := foldl_keeps (fun s => s.tLink) (fun s i => setPayoutState i x s) (fun _ _ => rfl) is s
@[simp] theorem setPayoutStates_aLink (is : List Nat) (x : PayoutState) (s : State) : (setPayoutStates is x s).aLink = s.aLink := foldl_keeps (fun s => s.aLink) (fun s i => setPayoutState i x s) (fun _ _ => rfl) is s
@[simp] theorem setPayoutStates_routes (is : List Nat) (x : PayoutState) (s : State) : (setPayoutStates is x s).routes = s.routes := foldl_keeps (fun s => s.routes) (fun s i => setPayoutState i x s) (fun _ _ => rfl) is s
@[simp] theorem setPayoutStates_cards (is : List Nat) (x : PayoutState) (s : State) : (setPayoutStates is x s).cards = s.cards := foldl_keeps (fun s => s.cards) (fun s i => setPayoutState i x s) (fun _ _ => rfl) is s
@[simp] theorem setPayoutStates_holds (is : List Nat) (x : PayoutState) (s : State) : (setPayoutStates is x s).holds = s.holds := foldl_keeps (fun s => s.holds) (fun s i => setPayoutState i x s) (fun _ _ => rfl) is s
@[simp] theorem setPayoutStates_pools (is : List Nat) (x : PayoutState) (s : State) : (setPayoutStates is x s).pools = s.pools := foldl_keeps (fun s => s.pools) (fun s i => setPayoutState i x s) (fun _ _ => rfl) is s
@[simp] theorem setPayoutStates_sweep (is : List Nat) (x : PayoutState) (s : State) : (setPayoutStates is x s).sweep = s.sweep := foldl_keeps (fun s => s.sweep) (fun s i => setPayoutState i x s) (fun _ _ => rfl) is s
@[simp] theorem setPayoutStates_journal (is : List Nat) (x : PayoutState) (s : State) : (setPayoutStates is x s).journal = s.journal := foldl_keeps (fun s => s.journal) (fun s i => setPayoutState i x s) (fun _ _ => rfl) is s
@[simp] theorem setPayoutStates_period (is : List Nat) (x : PayoutState) (s : State) : (setPayoutStates is x s).period = s.period := foldl_keeps (fun s => s.period) (fun s i => setPayoutState i x s) (fun _ _ => rfl) is s
@[simp] theorem setPayoutStates_sau (is : List Nat) (x : PayoutState) (s : State) : (setPayoutStates is x s).sau = s.sau := foldl_keeps (fun s => s.sau) (fun s i => setPayoutState i x s) (fun _ _ => rfl) is s
@[simp] theorem setPayoutStates_channels (is : List Nat) (x : PayoutState) (s : State) : (setPayoutStates is x s).channels = s.channels := foldl_keeps (fun s => s.channels) (fun s i => setPayoutState i x s) (fun _ _ => rfl) is s
@[simp] theorem setPayoutStates_serial (is : List Nat) (x : PayoutState) (s : State) : (setPayoutStates is x s).serial = s.serial := foldl_keeps (fun s => s.serial) (fun s i => setPayoutState i x s) (fun _ _ => rfl) is s

/-! ## A rollover changes the Time Base; a reaction changes the block that reacts -/

/-- 11 R188: a notice changes the two links and nothing else. -/
theorem giveNotice_frame (n : Notice) (s : State) :
    giveNotice n s = { s with tLink := (giveNotice n s).tLink, aLink := (giveNotice n s).aLink } := by
  unfold giveNotice
  split
  · rfl
  · split <;> rfl

/-- 09 R164: all that the Time Base's action does: the new day, the blocks it is handed to, DAY_ROLLED on the links. -/
theorem rollDay_frame (cause : Nat) (s : State) :
    rollDay cause s = { s with
      time := { s.time with
        day := if s.time.day = 65535 then 0 else s.time.day + 1
        handed := s.time.handed ++ reactors }
      tLink := (rollDay cause s).tLink
      aLink := (rollDay cause s).aLink } :=
  giveNotice_frame _ _

/-- 09 R164: the block that reacts next is one of those that have yet to react, whatever the free choice. -/
theorem nextReactor_mem {s : State} {b : Reactor} (h : nextReactor s = some b) : b ∈ s.time.handed := by
  unfold nextReactor at h
  split at h
  · cases h
  · rename_i e
    cases h
    rw [e]
    exact List.mem_singleton_self _
  · exact List.mem_of_getElem? h

/-- 09 R164: while a block has yet to react, one reacts next. -/
theorem nextReactor_isSome {s : State} (h : s.time.handed ≠ []) : ∃ b, nextReactor s = some b := by
  unfold nextReactor
  split
  · contradiction
  · exact ⟨_, rfl⟩
  · exact ⟨_, List.getElem?_eq_getElem (Nat.mod_lt _ (List.length_pos_iff.2 h))⟩

/-- 04 R78, 05 R92, 07 R126: all that a reaction may change: the sweep, the shops and the period at a close, the links. -/
theorem react_frame (b : Reactor) (s : State) :
    react b s = { s with
      sweep := (react b s).sweep, shops := (react b s).shops, period := (react b s).period
      tLink := (react b s).tLink, aLink := (react b s).aLink } := by
  have h : ∀ t u : State, t.pending = u.pending → t.power = u.power → t.ctrl = u.ctrl → t.time = u.time → t.routes = u.routes →
      t.cards = u.cards → t.holds = u.holds → t.pools = u.pools → t.journal = u.journal → t.sau = u.sau →
      t.channels = u.channels → t.serial = u.serial →
      t = { u with sweep := t.sweep, shops := t.shops, period := t.period, tLink := t.tLink, aLink := t.aLink } := by
    rintro ⟨⟩ ⟨⟩ rfl rfl rfl rfl rfl rfl rfl rfl rfl rfl rfl rfl
    rfl
  cases b with
  | poolTable => apply h <;> simp [react, startSweep]
  | periodController =>
    unfold react scheduleClose
    dsimp only
    split
    · split <;> rfl
    · rfl
  | journal =>
    unfold react
    dsimp only
    split
    · apply h <;> simp
    · rfl

/-! ## The entering of offers changes the channels and the A-link -/

/-- 08 R149: an offer's entering changes its channel and the A-link queue. -/
theorem enterOffer_frame (n : Nat) (s : State) :
    enterOffer n s = { s with channels := (enterOffer n s).channels, aLink := (enterOffer n s).aLink } := by
  unfold enterOffer
  split <;> rfl

/-- 11 R189: the entering of all that fit changes the channels and the A-link queue. -/
theorem enterOffers_frame (s : State) :
    enterOffers s = { s with channels := (enterOffers s).channels, aLink := (enterOffers s).aLink } := by
  have h : ∀ (l : List Nat) (t : State), ∃ cs k,
      l.foldl (fun s n => if offerMayEnter s n then enterOffer n s else s) t = { t with channels := cs, aLink := k } := by
    intro l
    induction l with
    | nil => exact fun t => ⟨_, _, rfl⟩
    | cons n l ih =>
      intro t
      rw [List.foldl_cons]
      split
      · obtain ⟨cs, k, e⟩ := ih (enterOffer n t)
        exact ⟨cs, k, by rw [e, enterOffer_frame]⟩
      · exact ih t
  obtain ⟨cs, k, e⟩ := h (List.range Config.channelCount) s
  rw [enterOffers, e]

end Sys2Proof.Laws
end

