-- ==== Sys2Proof/Laws/Requests.lean ====
section
/-! SUPPORT. The laws of taking and answering a request, and of the events. -/

namespace Sys2Proof.Laws

open Sys2Proof.Machine

/-! ## Nothing due -/

/-- A fold whose every step does nothing from a state does nothing. -/
theorem foldl_id {α β : Type} (f : β → α → β) (b : β) (l : List α) (h : ∀ a ∈ l, f b a = b) : l.foldl f b = b := by
  induction l with
  | nil => rfl
  | cons a l ih =>
    rw [List.foldl_cons, h a List.mem_cons_self]
    exact ih (fun x hx => h x (List.mem_cons_of_mem _ hx))

theorem quiet_parts {s : State} (h : quiet s = true) :
    (∀ n ∈ List.range Config.channelCount, offerMayEnter s n = false ∧ timeoutDue (s.channel n) = false) ∧ expiredSlots s = [] ∧
      intervalDue s = false ∧ s.time.rolloverDue = false ∧ drained s = false := by
  simp only [quiet, Bool.and_eq_true, List.all_eq_true, Bool.not_eq_true', List.isEmpty_iff] at h
  exact ⟨fun n hn => h.1.1.1.1 n hn, h.1.1.1.2, h.1.1.2, h.1.2, h.2⟩

theorem enterOffers_quiet {s : State} (h : quiet s = true) : enterOffers s = s :=
  foldl_id _ _ _ (fun n hn => by simp [((quiet_parts h).1 n hn).1])

/-- Where nothing is due, nothing acts before a command. -/
theorem settle_quiet {s : State} (h : quiet s = true) : settle s = s := by
  have p := quiet_parts h
  have t : timeOuts s = s := foldl_id _ _ _ (fun n hn => by simp [(p.1 n hn).2])
  simp [settle, enterOffers_quiet h, p.2.1, t, intervalExpiry, p.2.2.1, takeRollover, p.2.2.2.1, restartDrained,
    p.2.2.2.2]

/-! ## Checks -/

@[simp] theorem require_none (b : Bool) (c : Result) (p : List Fld) : (require b c p = none) = (b = true) := by
  cases b <;> simp [require]

@[simp] theorem firstFailing_nil : firstFailing [] = none := rfl

@[simp] theorem firstFailing_pass (cs : List Check) : firstFailing (none :: cs) = firstFailing cs := rfl

@[simp] theorem firstFailing_fail (a : Answer) (cs : List Check) : firstFailing (some a :: cs) = some a := rfl

/-- All checks pass exactly where each passes. -/
theorem firstFailing_none (cs : List Check) : firstFailing cs = none ↔ ∀ c ∈ cs, c = none := by
  induction cs with
  | nil => simp
  | cons c cs ih => cases c <;> simp [ih]

theorem ruled_pass {cs : List Check} {e : Done} {s : State} (h : firstFailing cs = none) : ruled cs e s = e := by simp [ruled, h]

theorem ruled_fail {cs : List Check} {e : Done} {s : State} {a : Answer} (h : firstFailing cs = some a) :
    ruled cs e s = answered s a := by simp [ruled, h]

/-- 10 R172: what the permission and mode checks ask. -/
theorem modeCheck_none (l : Link) (kind : Nat) (s : State) :
    linkAndModeCheck l kind s = none ↔
      (l = .a ∨ terminalKind kind = true) ∧ s.ctrl.initInFlight = false ∧ (s.ctrl.store = .valid ∨ blankKind kind = true) ∧
        (s.ctrl.mode = .opened ∨ movingKind kind = false) ∧ (s.ctrl.mode = .config ∨ kind ≠ 0x75) := by
  simp [linkAndModeCheck, firstFailing_none]

/-- The permission and mode checks read only Mode Control. -/
@[simp] theorem modeCheck_begun (l m : Link) (kind k tag : Nat) (s : State) :
    linkAndModeCheck l kind (begun m k tag s) = linkAndModeCheck l kind s := by cases m <;> rfl

/-! ## Taking -/

theorem ready_parts {l : Link} {s : State} (h : ready l s = true) :
    s.power = true ∧ quiet s = true ∧ mayTake l s = true ∧ (s.link l).rx = [] ∧ (s.link l).inBreak = false := by
  simp only [ready, Bool.and_eq_true, Bool.not_eq_true', List.isEmpty_iff] at h
  exact ⟨h.1.1.1.1, h.1.1.1.2, h.1.1.2, h.1.2, h.2⟩

theorem ready_busy {l : Link} {s : State} (h : ready l s = true) : (s.link l).busy = none := by
  have := (ready_parts h).2.2.1
  simp only [mayTake, Bool.and_eq_true, Option.isNone_iff_eq_none] at this
  exact this.1.2

/-- 11 R185: a request that arrives on a ready link is taken, its place reserved, and nothing else has happened. -/
theorem taken_ready {c : Instr} {s : State} (h : ready (requestLink c) s = true) :
    taken c s = some (begun (requestLink c) (requestFrame c).kind (requestFrame c).tag s) := by
  obtain ⟨hp, hq, hm, hr, hb⟩ := ready_parts h
  have hn : isNext c s = true := by simp [isNext, hr, hb]
  simp only [taken, hp, if_true, settle_quiet hq, takeFrame, hm, hn, Bool.and_self, begun, inProgress,
    withoutHead, hr, List.tail_nil]

/-- A request on a ready link is carried out. -/
theorem takeRequest_ready {c : Instr} {rule : State → Done} {s : State} (h : ready (requestLink c) s = true) :
    takeRequest c rule s = .next (carryOut c rule (begun (requestLink c) (requestFrame c).kind (requestFrame c).tag s)) := by
  simp [takeRequest, taken_ready h]

/-- A request command always leads to a next state: it is carried out, or its frame waits. -/
theorem takeRequest_next (c : Instr) (rule : State → Done) (s : State) :
    takeRequest c rule s = .next (match taken c s with
      | some t => carryOut c rule t
      | none => untaken c s) := rfl

/-! ## Answering -/

/-- 11 R185 to R187: the reply of the request begun on a link. -/
theorem placeReply_begun (l : Link) (kind tag : Nat) (a : Answer) (s : State) :
    placeReply l a (begun l kind tag s) = replied l kind tag a s := by
  cases l <;> simp [placeReply, begun, replied, linkReply, State.setLink, State.link]

/-- A taken request whose permission and mode checks pass is finished with what its rule does. -/
theorem carryOut_pass {c : Instr} {rule : State → Done} {t : State}
    (h : linkAndModeCheck (requestLink c) (requestFrame c).kind t = none) :
    carryOut c rule t = finish (requestLink c) (rule t) := by simp [carryOut, h]

/-- A taken request that fails a permission or mode check is answered, and nothing else changes. -/
theorem carryOut_fail {c : Instr} {rule : State → Done} {t : State} {a : Answer}
    (h : linkAndModeCheck (requestLink c) (requestFrame c).kind t = some a) :
    carryOut c rule t = placeReply (requestLink c) a t := by simp [carryOut, h, finish, answered, giveNotices]

/-- What a rule that answers at once and gives no notice after its reply ends in. -/
theorem finish_plain (l : Link) (s : State) (a : Answer) :
    finish l { state := s, answer := some a, after := [] } = placeReply l a s := rfl

/-- A request on a ready link whose rule, from the state with the request in progress, leaves that request in progress, answers and
gives nothing after: the state it leaves, with the reply placed. -/
theorem request_replies {c : Instr} {rule : State → Done} {s u : State} {a : Answer} (hr : ready (requestLink c) s = true)
    (hm : linkAndModeCheck (requestLink c) (requestFrame c).kind s = none)
    (h : rule (begun (requestLink c) (requestFrame c).kind (requestFrame c).tag s) =
      { state := begun (requestLink c) (requestFrame c).kind (requestFrame c).tag u, answer := some a, after := [] }) :
    takeRequest c rule s = .next (replied (requestLink c) (requestFrame c).kind (requestFrame c).tag a u) := by
  rw [takeRequest_ready hr, carryOut_pass (by simpa using hm), h, finish_plain, placeReply_begun]

/-- A refused request on a ready link: the reply, and nothing else. -/
theorem request_refused {c : Instr} {rule : State → Done} {s : State} {a : Answer} (hr : ready (requestLink c) s = true)
    (hm : linkAndModeCheck (requestLink c) (requestFrame c).kind s = some a) :
    takeRequest c rule s = .next (replied (requestLink c) (requestFrame c).kind (requestFrame c).tag a s) := by
  rw [takeRequest_ready hr, carryOut_fail (by simpa using hm), placeReply_begun]

/-! ## Events -/

theorem event_quiet {f : State → State} {s : State} (hp : s.power = true) (hq : quiet s = true) : event f s = .next (f s) := by
  simp [event, hp, settle_quiet hq]

theorem dueEvent_power {f : State → State} {s : State} (hp : s.power = true) : dueEvent f s = .next (f (enterOffers s)) := by
  simp [dueEvent, hp]

theorem lineEvent_power {f : State → State} {s : State} (hp : s.power = true) : lineEvent f s = .next (f s) := by
  simp [lineEvent, hp]

end Sys2Proof.Laws
end

