-- ==== Sys2Proof/Tests/Slice0.lean ====
section
/-! SUPPORT. Tests: ill-formed commands that WellFormed refuses, frames written out from the encoding tables of 11, worked examples of the
reference, and for each obligation with hypotheses a state and operands that meet them. -/

-- Checked one after another: a hundred kernel evaluations side by side would each take a thread's stack.
set_option Elab.async false

namespace Sys2Proof.Tests

open Sys2Proof.Machine

/-! ## WellFormed refuses (11, Field encodings) -/

theorem test_wf_tag : (Instr.identify .a 65536).wf = false := by decide
theorem test_wf_card : (Instr.balance .t 1 (2 ^ 64) none).wf = false := by decide
theorem test_wf_shop : (Instr.lookupReference .t 1 65536 0).wf = false := by decide
theorem test_wf_amount : (Instr.redeem .t 1 1 1 (2 ^ 32) false 0).wf = false := by decide
theorem test_wf_reference : (Instr.voidSale .t 1 1 1 (2 ^ 32)).wf = false := by decide
theorem test_wf_optional_reference : (Instr.captureHold .t 1 1 1 1 1 (some (2 ^ 32))).wf = false := by decide
theorem test_wf_slot : (Instr.releaseHold .t 1 65536 1 1).wf = false := by decide
theorem test_wf_generation : (Instr.extendHold .t 1 1 65536 1).wf = false := by decide
theorem test_wf_pool : (Instr.grantPromo .a 1 1 256 1).wf = false := by decide
theorem test_wf_schedule : (Instr.stageSchedule .a 1 1 ⟨65536, 0, 0, 0, none⟩).wf = false := by decide
theorem test_wf_lifetime : (Instr.defineShop .a 1 1 1 1 ⟨0, 0, 0, 0, some 65536⟩).wf = false := by decide
theorem test_wf_pool_fields : (Instr.definePool .a 1 1 ⟨none, 0, 0, 2 ^ 32, 1, 0, false, 0⟩).wf = false := by decide
theorem test_wf_seek : (Instr.journalSeek .a 1 (.seq (2 ^ 32))).wf = false := by decide
theorem test_wf_signed : (Instr.adjustCarry .a 1 1 (2 ^ 63) none).wf = false := by decide
theorem test_wf_range : (Instr.setChannel .a 1 0 ⟨true, some (0, 65536), false, 5⟩).wf = false := by decide
theorem test_wf_route : (Instr.setRoute .a 1 (some (256, 0))).wf = false := by decide
theorem test_wf_payload : (Instr.unknownRequest .a 1 0 (List.replicate 241 0)).wf = false := by decide +kernel
theorem test_wf_hold_slot : (Instr.holdExpiry 1024).wf = false := by decide
theorem test_wf_channel : (Instr.runWalkStep 4).wf = false := by decide
theorem test_wf_timer_channel : (Instr.confirmTimeout 4).wf = false := by decide

/-! ## Frames written out from 11, Frame envelope, Field encodings and Kind codes -/

/-- SELL_CARD, 0x10: card 258, shop 511, amount 65,536, reloadable, bonus pool 15, reference 1. -/
theorem test_frame_sellCard :
    decodeRequest .t ⟨0x10, 0x0203, [0, 0, 0, 0, 0, 0, 1, 2, 1, 0xFF, 0, 1, 0, 0, 1, 1, 15, 0, 0, 0, 1]⟩ =
      .sellCard .t 515 258 511 65536 true (some 15) 1 := by decide +kernel

/-- CAPTURE_HOLD, 0x15: slot 1,023, generation 2, shop 7, amount 300, no reference. -/
theorem test_frame_captureHold :
    decodeRequest .a ⟨0x15, 9, [3, 0xFF, 0, 2, 0, 7, 0, 0, 1, 0x2C, 0]⟩ = .captureHold .a 9 1023 2 7 300 none := by decide +kernel

/-- GRANT_PROMO, 0x25. -/
theorem test_frame_grantPromo :
    decodeRequest .a ⟨0x25, 1, [0, 0, 0, 0, 0, 0, 0, 9, 4, 0, 0, 0x13, 0x88]⟩ = .grantPromo .a 1 9 4 5000 := by decide +kernel

/-- ADD_BUDGET, 0x31: 8 bytes of amount. -/
theorem test_frame_addBudget :
    decodeRequest .a ⟨0x31, 1, [2, 0, 0, 0, 0x17, 0x48, 0x76, 0xE8, 0]⟩ = .addBudget .a 1 2 100000000000 := by decide +kernel

/-- JOURNAL_SEEK, 0x38: OLDEST is 1. -/
theorem test_frame_journalSeek : decodeRequest .a ⟨0x38, 1, [1]⟩ = .journalSeek .a 1 .oldest := by decide +kernel

/-- ADJUST_CARRY, 0x45: amount −2 in two's complement, reference 3. -/
theorem test_frame_adjustCarry :
    decodeRequest .a ⟨0x45, 1, [0, 12, 0xFF, 0xFF, 0xFF, 0xFF, 0xFF, 0xFF, 0xFF, 0xFE, 1, 0, 0, 0, 3]⟩ =
      .adjustCarry .a 1 12 (-2) (some 3) := by decide +kernel

/-- SET_SCHEDULER, 0x51: MANUAL 0, DAILY 1, INTERVAL 2. -/
theorem test_frame_setScheduler : decodeRequest .a ⟨0x51, 1, [2, 0, 60]⟩ = .setScheduler .a 1 2 60 := by decide +kernel

/-- SET_CHANNEL, 0x58: channel 3, enabled, range 128..255, no auto-start, timeout 30. -/
theorem test_frame_setChannel :
    decodeRequest .a ⟨0x58, 1, [3, 1, 1, 0, 128, 0, 255, 0, 0, 30]⟩ =
      .setChannel .a 1 3 ⟨true, some (128, 255), false, 30⟩ := by decide +kernel

/-- SET_ROLLOVER, 0x62: second 86,399 in 4 bytes. -/
theorem test_frame_setRollover :
    decodeRequest .a ⟨0x62, 1, [0, 1, 0x51, 0x7F]⟩ = .setRollover .a 1 86399 := by decide +kernel

/-- SET_ROUTE, 0x76: one class, DAY_ROLLED 2, route NONE 3. -/
theorem test_frame_setRoute : decodeRequest .a ⟨0x76, 1, [0, 2, 3]⟩ = .setRoute .a 1 (some (2, 3)) := by decide +kernel

/-- A flag byte of 2, a missing byte and a byte too many fail the shape (11 R185). -/
theorem test_frame_shape :
    decodeRequest .a ⟨0x63, 1, [2]⟩ = .unknownRequest .a 1 0x63 [2] ∧
      decodeRequest .a ⟨0x61, 1, [0]⟩ = .unknownRequest .a 1 0x61 [0] ∧
      decodeRequest .a ⟨0x70, 1, [0]⟩ = .unknownRequest .a 1 0x70 [0] := by decide +kernel

/-- 11 R183: the check value of the CRC. -/
theorem test_crc : crc [0x31, 0x32, 0x33, 0x34, 0x35, 0x36, 0x37, 0x38, 0x39] = 0x29B1 := by decide +kernel

/-! ## A part at work

Business day 10, OPEN; shops 2 and 511 trade; pool 15 is OPEN, funded by shop 2; the card with the highest id holds a bucket of pool 15
and has slot 1,023 for a hold. -/

/-- A shop that trades. -/
def shop : Shop := { unusedShop with state := .trading, category := 1 }

/-- A pool that grants a tenth, at most 500, for 30 days. -/
def pool : Pool :=
  { emptyPool with state := .opened, funder := some 2, mask := 0xFFFF, rate := 1000, cap := 500, validity := 30, budget := 100000,
                   granted := 700 }

/-- The card's id: the highest. -/
def id : Nat := 9999999999999999

/-- A card with base 3,000 and 200 of pool 15 until day 40. -/
def card : Card :=
  { slot := 0, state := .active, reloadable := true, base := 3000, buckets := [⟨15, 40, 200⟩], holds := [], issuer := 511,
    saleDay := 10, closedPeriod := none }

/-- The redemption of 1,000 that took 500 of pool 15 from the card, as entry 5. -/
def redemption : Entry :=
  { seq := 5, kind := .redeem, period := 1, day := 10, clock := 1000, card := some id, shop := some 511, ref := some 77,
    amount := 1000, base := some 500, parts := [⟨15, 500, some 40⟩], original := none, target := none, forfeited := [],
    refunded := some ⟨0, [0]⟩, voided := none, swept := none }

/-- The part. -/
def desk : State :=
  { State.reset with
    ctrl := { mode := .opened, store := .valid, initInFlight := false, lastRestart := .powerOn, formatMark := true, draining := false }
    time := { clock := 1000, timeSet := true, day := 10, rolloverSecond := 14400, trading := true, rolloverDue := false, handed := [], turn := 0 }
    cards := [(id, card)]
    pools := [(15, pool)]
    shops := [(2, shop), (511, shop)]
    journal := { emptyJournal with entries := [redemption], writePos := 1, next := 6 } }

/-- The part in CONFIG. -/
def desk0 : State := { desk with ctrl := { desk.ctrl with mode := .config } }

/-! ## Worked examples of the reference -/

/-- A part on business day 118 with pools 2 (mask includes category 6) and 5 (mask excludes it), for 01, Worked example: a redemption split. -/
def day118 : State :=
  { desk with
    time := { desk.time with day := 118 }
    pools := [(2, { pool with mask := 0x0040 }), (5, { pool with mask := 0xFFBF })]
    shops := [(1, { shop with category := 6 })]
    cards := [(id, { card with base := 4000, buckets := [⟨2, 120, 600⟩, ⟨5, 131, 1000⟩] })] }

/-- 01, Worked example: 2,000 takes 600 of pool 2 and 1,400 of base, and leaves base 2,600 with pool 5: 1,000. -/
theorem test_redeem_split :
    splitOf day118 1 2000 (day118.card id) = { promo := [⟨2, 120, 600⟩], base := 1400 } ∧
      (match exec (.redeem .t 1 id 1 2000 false 9) day118 with
        | .next t => decide ((t.card id).base = 2600 ∧ (t.card id).buckets = [⟨5, 131, 1000⟩])
        | _ => false) = true := by decide +kernel

/-- 01, Worked example: 5,000 exceeds the spendable 4,600; partial allowed takes it all. -/
theorem test_redeem_partial :
    spendable day118 1 (day118.card id) = 4600 ∧
      (match exec (.redeem .t 1 id 1 5000 true 9) day118 with
        | .next t => decide ((t.card id).base = 0 ∧ (t.card id).buckets = [⟨5, 131, 1000⟩])
        | _ => false) = true := by decide +kernel

/-- 01, Worked example: a PLACE_HOLD keeps the pool 2 bucket at 0 in the list. -/
theorem test_placeHold_keeps_bucket :
    (match exec (.placeHold .t 1 id 1 2000 false 9) day118 with
      | .next t => decide ((t.card id).buckets = [⟨2, 120, 0⟩, ⟨5, 131, 1000⟩] ∧ (t.card id).base = 2600)
      | _ => false) = true := by decide +kernel

/-- 03, Worked example: an original of 10,000 (pool 3 part 2,500, base 7,500), refunded 3,333, 3,333 and 3,334. -/
def original : Entry := { redemption with amount := 10000, base := some 7500, parts := [⟨3, 2500, some 310⟩] }

/-- 03, Worked example: 2,500 and 833, then 5,000 and 1,666, then 7,500 and 2,500 are refunded; nothing remains. -/
theorem test_refund_shares :
    (grownOriginal 3333 original).refunded = some ⟨2500, [833]⟩ ∧
      (grownOriginal 3333 (grownOriginal 3333 original)).refunded = some ⟨5000, [1666]⟩ ∧
      (grownOriginal 3334 (grownOriginal 3333 (grownOriginal 3333 original))).refunded = some ⟨7500, [2500]⟩ ∧
      refundRemainder (grownOriginal 3334 (grownOriginal 3333 (grownOriginal 3333 original))) = 0 := by decide +kernel

/-- 03, Worked example: on day 290 the share comes back in a new bucket ahead of pool 6's; on day 312 it is forfeited. -/
theorem test_refund_placement :
    placeShare { desk with time := { desk.time with day := 290 }, pools := [(3, pool)] } 3 310 833 [⟨6, 330, 200⟩] =
        some (310, [⟨3, 310, 833⟩, ⟨6, 330, 200⟩]) ∧
      placeShare { desk with time := { desk.time with day := 312 }, pools := [(3, pool)] } 3 310 834 [⟨6, 330, 200⟩] = none := by
  decide +kernel

/-- 03, Worked example: the bonus of a sale of 5,000 at 1,000 bp is 500, reason FULL, expiry day 180. -/
def day150 : State :=
  { desk with
    time := { desk.time with day := 150 }
    pools := [(2, { pool with funder := none, cap := 5000 })]
    shops := [(12, shop), (40, shop)]
    cards := [] }

/-- 03, Worked example: the sale, and its void on the same day, which closes the card. -/
theorem test_sale_and_void :
    (match exec (.sellCard .t 1 id 12 5000 false (some 2) 7) day150 with
      | .next t =>
        decide ((t.card id).base = 5000 ∧ (t.card id).buckets = [⟨2, 180, 500⟩]) &&
          (match exec (.voidSale .t 2 6 12 8) t with
            | .next u =>
              decide ((u.card id).state = .closed ∧ (u.card id).closedPeriod = some 1 ∧ (u.shop 12).live.voided = 5000 ∧
                (u.pool 2).ungranted = 500)
            | _ => false)
      | _ => false) = true := by decide +kernel

/-- 03, Worked example: the day after, the void is refused and nothing changes. -/
theorem test_void_window :
    (match exec (.sellCard .t 1 id 12 5000 false (some 2) 7) day150 with
      | .next t =>
        (match exec (.voidSale .t 2 6 12 8) { t with time := { t.time with day := 151 } } with
          | .next u => decide (u.cards = t.cards ∧ u.journal = t.journal)
          | _ => false)
      | _ => false) = true := by decide +kernel

/-- 04, Worked example: pool 2 has 13,000 available, is POOL_LOW, and 17,500 outstanding. -/
theorem test_pool_account :
    let p : Pool :=
      { pool with budget := 50000, granted := 40000, ungranted := 1000, redeemed := 20000, returned := 500, expired := 2000,
                  recycled := 2000, pending := 0, low := 14000 }
    available p = 13000 ∧ poolLow p = true ∧ poolOutstanding p = 17500 := by decide +kernel

/-- 04, Worked example: the visit of slot 1 takes pool 4's bucket (CLOSED) and leaves pool 2's. -/
theorem test_sweep_visit :
    (match exec .sweepVisit
        { desk with
          sweep := { inFlight := true, day := 201, cursor := 1, swept := [] }
          pools := [(2, pool), (4, { pool with state := .closed, pending := 300 })]
          cards := [(id, { card with slot := 1, base := 0, buckets := [⟨2, 215, 400⟩, ⟨4, 240, 250⟩] })] } with
      | .next t => decide ((t.card id).buckets = [⟨2, 215, 400⟩] ∧ (t.pool 4).pending = 550 ∧ t.sweep.cursor = 2)
      | _ => false) = true := by decide +kernel

/-- 02 R41: 900 more on 2,900 with one extension used stands at 3,600 with two. -/
theorem test_extendHold_clamp :
    extendedHold desk 511 { absentHold with remaining := 2900, extensions := 1 } =
      { absentHold with remaining := 3600, extensions := 2 } := by decide +kernel

/-- 07, Worked example: shop 37 of period 58. -/
def shop37 : Shop :=
  { shop with
    closing := { zeroPosition with sold := 1250000, voided := 50000, redeemedBase := 3418750, refundedBase := 18750,
                                   redeemedPromo := 212500, refundedPromo := 1250, count := 412 }
    closingSchedule := { redemptionRate := 12500, fixedFee := 5, commissionRate := 7500, minPayout := 100000, lifetime := 900 }
    carry := -2340
    result := { zeroResult with computed := false } }

/-- 07, Worked example: F 47,201, K 9,000, T 2,370,709, all of it due. -/
theorem test_close_shop37 :
    (match exec .closeComputeStep
        { desk with
          shops := [(37, shop37)]
          period := { initialPeriod with live := 59, closing := 58, state := .closing, roster := [37], cursor := 0 } } with
      | .next t => decide ((t.shop 37).result =
          { fee := 47201, commission := 9000, net := 2370709, due := 2370709, newCarry := 0, computed := true, held := false })
      | _ => false) = true := by decide +kernel

/-- 07, Worked example: the two ties of R130. -/
theorem test_round_half_even :
    roundHalfEven (1000100 * 5000) 1000000 = 5000 ∧ roundHalfEven (1000300 * 5000) 1000000 = 5002 := by decide +kernel

/-- 11, Worked example: with 13 frames and one place reserved a notice enters, and the next sets the notice-lost mark. -/
theorem test_crowded_link :
    let k : LinkState := { idleLink with tx := List.replicate 13 (.notice 0 []), busy := some ⟨0x13, 1, false⟩ }
    let n : Notice := { cls := .holdExpired, payload := [.u16 40] }
    (queueNotice k n).tx.length = 14 ∧ (queueNotice k n).marks = clearMarks ∧
      (queueNotice (queueNotice k n) n).tx.length = 14 ∧ (queueNotice (queueNotice k n) n).marks.noticeLost = true := by
  decide +kernel

/-- 09 R165: a clock set to one second before the rollover second is followed, at the next tick, by a rollover. -/
theorem test_tick_rollover :
    (match exec (.setTime .a 1 14399) desk with
      | .next t => match exec .tick t with
        | .next u => match exec .dayRollover u with
          | .next v => decide (u.time.rolloverDue = true ∧ v.time.day = 11)
          | _ => false
        | _ => false
      | _ => false) = true := by decide +kernel

/-! ## Witnesses: for each obligation with hypotheses, a state and operands that meet them, clause by clause -/

/-- A hold of 1,000 in the highest slot, drawn from the card: 100 of pool 15 and 900 of base. -/
def hold : Hold :=
  { card := id, shop := 511, total := 1000, parts := { promo := [⟨15, 40, 100⟩], base := 900 }, remaining := 900, extensions := 2, ref := 5 }

/-- The part with the hold PLACED. -/
def held : State :=
  { desk with
    cards := [(id, { card with holds := [⟨1023, 65535⟩] })]
    holds := [(1023, { gen := 65535, lastEnd := .expired, hold := some hold })] }

theorem test_meets_StepRunsFrontCommand : State.reset.pending = [] := rfl

/-- The part with a tick waiting. -/
def ticking : State := { held with pending := [.tick] }

theorem test_ticking_steps : ∃ t, step ticking = .next t := ⟨_, rfl⟩

theorem test_ticking_tables : tablesFormed ticking ∧ cardsOrdered ticking := by
  unfold tablesFormed cardsOrdered bucketsOrdered
  decide +kernel

/-- The shops of the part, read at any number. -/
theorem test_desk_shop (i : Nat) : desk.shop i = shop ∨ desk.shop i = unusedShop := by
  by_cases h : i = 2
  · subst h; exact .inl rfl
  · by_cases k : i = 511
    · subst k; exact .inl rfl
    · right
      simp [State.shop, desk, tableRead, tableGet, Ne.symm h, Ne.symm k]

theorem test_meets_PositionsStayBounded : positionsBounded ticking := by
  intro i
  have h := test_desk_shop i
  have e : ticking.shop i = desk.shop i := rfl
  rw [e]
  rcases h with h | h <;> rw [h] <;> decide +kernel

theorem test_meets_LinksStayBounded : linksBounded ticking := by
  unfold linksBounded
  decide +kernel

theorem test_meets_RegistersStayInRange :
    journalBounded ticking ∧ timeBounded ticking ∧ queueFormed ticking ∧ countersBounded ticking ∧ modeLegal ticking ∧
      pendingCloseBusy ticking ∧ periodsOrdered ticking ∧ ticking.period.live + 2 ≤ 4294967295 := by
  unfold journalBounded timeBounded queueFormed countersBounded modeLegal pendingCloseBusy periodsOrdered journalOrdered
  decide +kernel

/-- The holds of the part, read at any slot. -/
theorem test_held_slot (n : Nat) (h : Hold) (hh : (held.holdSlot n).hold = some h) : n = 1023 ∧ h = hold := by
  by_cases k : n = 1023
  · subst k
    refine ⟨rfl, ?_⟩
    have e : (held.holdSlot 1023).hold = some hold := rfl
    rw [e] at hh
    exact (Option.some.inj hh).symm
  · simp [State.holdSlot, held, tableRead, tableGet, Ne.symm k, freeHoldSlot] at hh

/-- The part with the hold PLACED is sound. -/
theorem test_held_sound : valueSound held := by
  refine ⟨test_ticking_tables.1, test_ticking_tables.2, ?_, ?_, ?_⟩
  · intro n h hh
    obtain ⟨rfl, rfl⟩ := test_held_slot n h hh
    exact ⟨⟨{ card with holds := [⟨1023, 65535⟩] }, by decide +kernel, by decide +kernel, by decide +kernel⟩, by decide +kernel,
      by decide +kernel⟩
  · unfold partsSound
    decide +kernel
  · unfold closedEmpty
    decide +kernel

theorem test_meets_TablesAndBucketsStayOrdered : tablesFormed ticking ∧ cardsOrdered ticking ∧ valueSound ticking :=
  ⟨test_ticking_tables.1, test_ticking_tables.2, test_held_sound⟩

/-- The part with the hold PLACED, its journal's counters those of the 4,200 it holds, and the capture of the hold waiting. -/
def worth : State :=
  { held with
    journal := { held.journal with counters := { held.journal.counters with issuedBase := 4100, grantedPromo := 100 } }
    pending := [.captureHold .t 1 1023 65535 511 1000 none] }

theorem test_meets_ValueIsConserved :
    valueSound worth ∧ surplus worth = 0 ∧ (∃ t, step worth = .next t) ∧
      (∃ t, exec (.captureHold .t 1 1023 65535 511 1000 none) worth = .next t) ∧
      Instr.captureHold .t 1 1023 65535 511 1000 none ≠ .storeInitialiseComplete ∧
      Instr.captureHold .t 1 1023 65535 511 1000 none ≠ .powerOn :=
  ⟨test_held_sound, by decide +kernel, ⟨_, rfl⟩, ⟨_, rfl⟩, nofun, nofun⟩

theorem test_meets_UnreleasedEntriesSurvive :
    quiet desk = true ∧ journalBounded desk ∧ journalOrdered desk ∧ redemption ∈ desk.journal.entries ∧
      releasable desk.journal redemption = false ∧ ∃ t, exec (.refund .t 1 5 511 1000 none 9) desk = .next t := by
  refine ⟨by decide +kernel, ?_, ?_, by decide +kernel, by decide +kernel, ⟨_, rfl⟩⟩
  · unfold journalBounded
    decide +kernel
  · unfold journalOrdered
    decide +kernel

theorem test_meets_RequestIsAnsweredOrRefused :
    isRequest (.balance .t 65535 id none) = true ∧ ready (requestLink (.balance .t 65535 id none)) desk = true ∧
      Instr.balance .t 65535 id none ≠ .storeInitialise .t 65535 := by decide +kernel

/-- A T-link that has no free transmit place: 16 frames stand in it. -/
def fullT : State := { desk with tLink := { idleLink with tx := List.replicate 16 (.notice 0 []) } }

/-- The part with two frames waiting on the T-link. -/
def waiting : State :=
  { desk with
    tLink := { idleLink with rx := [requestFrame (.redeem .t 4 id 511 1 false 0), requestFrame (.balance .t 6 id none)] } }

theorem test_meets_RequestsWaitAndAreTakenInOrder :
    (quiet fullT = true ∧ mayTake .t fullT = false ∧ fullT.power = true ∧ fullT.tLink.inBreak = false) ∧
      (quiet waiting = true ∧ mayTake .t waiting = true ∧ waiting.power = true ∧ waiting.tLink.inBreak = false ∧
        waiting.tLink.rx = [requestFrame (.redeem .t 4 id 511 1 false 0), requestFrame (.balance .t 6 id none)] ∧
        decodeRequest .t (requestFrame (.redeem .t 4 id 511 1 false 0)) = .redeem .t 4 id 511 1 false 0 ∧
        decodeRequest .t (requestFrame (.redeem .t 4 id 511 1 false 0)) ≠ .redeem .t 5 id 511 1 false 0) := by decide +kernel

theorem test_meets_RequestsReadBackAsSent :
    isRequest (.adjustCarry .a 65535 65535 (-(2 ^ 63)) (some (2 ^ 32 - 1))) = true ∧
      (Instr.adjustCarry .a 65535 65535 (-(2 ^ 63)) (some (2 ^ 32 - 1))).wf = true := by decide +kernel

theorem test_meets_SentFrameIsReceived :
    desk.power = true ∧ desk.tLink.partialRx = [] ∧ desk.tLink.inBreak = false ∧ (255 : Nat) < 256 ∧ (65535 : Nat) < 65536 ∧
      (List.replicate 240 (0xA5 : Byte)).length ≤ 240 := by decide +kernel

theorem test_meets_LinkEventsActOnTheirLink :
    (desk.power = true ∧ quiet desk = true ∧ desk.aLink.inBreak = false) ∧
      (let s : State := { desk with aLink := { idleLink with inBreak := true } };
        s.power = true ∧ quiet s = true ∧ s.aLink.inBreak = true) := by decide +kernel

theorem test_meets_NoticesKeepTheLastPlace : desk.ctrl.draining = false := rfl

theorem test_meets_SaleCreatesTheCard :
    ready .t desk = true ∧ trades desk = true ∧ cardIdOk 1 = true ∧ shopOk 511 = true ∧ amountOk 5000000 = true ∧
      (some 15).all poolOk = true ∧ (desk.shop 511).state = .trading ∧ desk.card? 1 = none ∧ desk.cards.length < 262144 ∧
      64 < writable desk.journal := by decide +kernel

theorem test_meets_ReloadAddsToTheBase :
    ready .t desk = true ∧ trades desk = true ∧ cardIdOk id = true ∧ amountOk 4996800 = true ∧ desk.card? id = some card ∧
      card.state = .active ∧ card.reloadable = true ∧ cardValue desk card + 4996800 ≤ 5000000 := by decide +kernel

theorem test_meets_BonusIsTheSmallestLimit :
    (desk.pool 15).state = .opened ∧ (desk.pool 0).state ≠ .opened ∧
      ((card.buckets.all (fun x => !(x.pool == 15 && x.expiry == grantExpiry desk 15))) = false ∧ ¬4 ≤ card.buckets.length) ∧
      maskHas (desk.pool 15).mask (desk.shop 511).category = true := by decide +kernel

theorem test_meets_CardAndHoldReadsChangeNothing :
    ready .t desk = true ∧ ready .a desk = true ∧ storeValid desk = true ∧ cardIdOk id = true ∧ desk.card? id = some card ∧
      shopOk 511 = true ∧ (desk.shop 511).state ≠ .unused ∧ (1023 : Nat) < 1024 := by decide +kernel

theorem test_meets_CardStateRequestsSetTheState :
    ready .a desk = true ∧ storeValid desk = true ∧ cardIdOk id = true ∧ desk.card? id = some card ∧ card.state ≠ .closed := by
  decide +kernel

theorem test_meets_SplitsCoverTheAmount :
    3200 ≤ spendable desk 511 card ∧ 1000 ≤ splitTotal hold.parts := by decide +kernel

theorem test_meets_RedeemTakesTheSplit :
    ready .t desk = true ∧ trades desk = true ∧ cardIdOk id = true ∧ shopOk 511 = true ∧ amountOk 5000000 = true ∧
      (desk.shop 511).state = .trading ∧ desk.card? id = some card ∧ card.state = .active ∧ 64 < writable desk.journal ∧
      (3200 ≤ spendable desk 511 card) ∧ (¬5000000 ≤ spendable desk 511 card ∧ spendable desk 511 card ≠ 0) := by decide +kernel

theorem test_desk_positions : positionsBounded desk := test_meets_PositionsStayBounded

theorem test_meets_EntriesPostPositions :
    positionsBounded desk ∧ redemption.kind = .redeem ∧ redemption.shop = some 511 ∧ 0 ≤ basePart redemption ∧
      (desk.shop 511).live.redeemedBase + basePart redemption ≤ Config.positionLimit ∧
      (desk.shop 511).live.redeemedPromo + partsSum redemption ≤ Config.positionLimit ∧
      (desk.shop 511).live.count + 1 ≤ Config.countLimit ∧
      (desk.shop 2).live.sponsor + fundedSum desk 2 redemption.parts ≤ Config.positionLimit ∧
      withinLimit ((desk.shop 511).live.refundedBase + basePart redemption) = true ∧
      -Config.positionLimit ≤ (desk.shop 2).live.sponsor - fundedSum desk 2 redemption.parts ∧
      withinLimit ((desk.shop 511).live.voided + basePart redemption) = true ∧
      withinLimit ((desk.shop 511).live.sold + basePart redemption) = true := by
  refine ⟨test_desk_positions, ?_⟩
  decide +kernel

/-- A hold table with every slot PLACED. -/
def fullTable : Table HoldSlot :=
  (List.range 1024).map (fun n => (n, { gen := 0, lastEnd := .released, hold := some { hold with card := 1 } }))

/-- The part with every slot PLACED, by holds of another card. -/
def fullHolds : State := { desk with holds := fullTable }

/-- What a table of consecutive numbers reads. -/
theorem test_table_of_range {α : Type} (v : α) (n k a : Nat) (h : k < n) :
    tableGet (a + k) ((List.range' a n).map (fun i => (i, v))) = some v := by
  induction n generalizing a k with
  | zero => omega
  | succ n ih =>
    rw [List.range'_succ, List.map_cons, tableGet]
    split
    · rfl
    · cases k with
      | zero => omega
      | succ k =>
        have e : a + (k + 1) = (a + 1) + k := by omega
        rw [e]
        exact ih k (a + 1) (by omega)

theorem test_fullTable_formed : tableCanonical freeHoldSlot fullTable = true := by
  have r : tableRising fullTable = true := by
    simp only [tableRising, fullTable, decide_eq_true_eq, List.pairwise_map]
    exact List.pairwise_lt_range
  rw [tableCanonical, r, Bool.true_and, List.all_eq_true]
  intro e he
  simp only [fullTable, List.mem_map] at he
  obtain ⟨n, -, rfl⟩ := he
  rfl

theorem test_fullHolds_holds : fullHolds.holds = fullTable := by rw [fullHolds]

theorem test_meets_LowestFreeSlotIsAllocated :
    tablesFormed desk ∧ (ready .t desk = true) ∧
      (ready .t fullHolds = true ∧ trades fullHolds = true ∧ cardIdOk id = true ∧ shopOk 511 = true ∧ amountOk 1 = true ∧
        (fullHolds.shop 511).state = .trading ∧ fullHolds.card? id = some card ∧ card.state = .active ∧ card.holds.length < 4) ∧
      tablesFormed fullHolds ∧ ∀ n, n < 1024 → (fullHolds.holdSlot n).hold.isSome = true := by
  refine ⟨?_, by decide +kernel, by decide +kernel, ⟨by decide +kernel, test_fullHolds_holds ▸ test_fullTable_formed, by decide +kernel, by decide +kernel,
    by decide +kernel⟩, ?_⟩
  · unfold tablesFormed
    decide +kernel
  · intro n h
    have g := test_table_of_range (v := ({ gen := 0, lastEnd := .released, hold := some { hold with card := 1 } } : HoldSlot))
      1024 n 0 h
    rw [Nat.zero_add] at g
    have e : fullHolds.holds = (List.range' 0 1024).map
        (fun i => (i, ({ gen := 0, lastEnd := .released, hold := some { hold with card := 1 } } : HoldSlot))) := by
      rw [← List.range_eq_range', test_fullHolds_holds, fullTable]
    rw [State.holdSlot, tableRead, e, g]
    rfl

theorem test_meets_PlaceHoldSetsValueAside :
    ready .t held = true ∧ trades held = true ∧ cardIdOk id = true ∧ shopOk 511 = true ∧ amountOk 3200 = true ∧
      (held.shop 511).state = .trading ∧ (held.card id).state = .active ∧ (held.card id).holds.length < 4 ∧
      held.lowestFreeHoldSlot < 1024 ∧ 3200 ≤ spendable held 511 (held.card id) ∧
      (amountOk 5000000 = true ∧ ¬5000000 ≤ spendable held 511 (held.card id)) := by decide +kernel

theorem test_meets_StaleReferencesAreAnswered :
    ready .t held = true ∧ trades held = true ∧ shopOk 511 = true ∧ amountOk 1 = true ∧
      (1024 : Nat) ≥ 1024 ∧ ((held.holdSlot 1023).hold.isSome = true ∧ (held.holdSlot 1023).gen = 65535) ∧
      ((held.holdSlot 1023).gen = 65534 + 1 ∧ (held.holdSlot 1023).lastEnd = .expired) ∧
      ((held.holdSlot 0).hold = none ∧ (held.holdSlot 0).gen = 0 ∧ (held.holdSlot 0).lastEnd = .released) ∧
      (∀ h, (held.holdSlot 1023).hold = some h → h.shop ≠ 2) := by
  refine ⟨by decide +kernel, by decide +kernel, by decide +kernel, by decide +kernel, by decide +kernel, by decide +kernel,
    by decide +kernel, by decide +kernel, ?_⟩
  intro h hh
  obtain ⟨-, rfl⟩ := test_held_slot 1023 h hh
  decide +kernel

theorem test_meets_ReleaseReturnsTheParts :
    (bucketsOrdered card.buckets ∧ hold.parts.promo.all (fun p => hasBucket p.pool p.expiry card.buckets) = true) ∧
    ready .t held = true ∧ trades held = true ∧ shopOk 511 = true ∧ (1023 : Nat) < 1024 ∧ (held.holdSlot 1023).hold = some hold ∧
      hold.shop = 511 ∧ (held.shop 511).state ≠ .unused ∧ (held.card? hold.card).isSome = true := by
  unfold bucketsOrdered
  decide +kernel

theorem test_meets_CaptureConsumesTheHold :
    ready .t held = true ∧ trades held = true ∧ amountOk 1000 = true ∧ (held.holdSlot 1023).hold = some hold ∧
      (held.shop 511).state = .trading ∧ 1000 ≤ hold.total ∧ 64 < writable held.journal ∧
      (held.card? hold.card).isSome = true := by decide +kernel

theorem test_meets_ExtensionAddsTheLifetime :
    ready .t held = true ∧ trades held = true ∧ shopOk 511 = true ∧ (held.holdSlot 1023).hold = some hold ∧ hold.shop = 511 ∧
      (held.shop 511).state = .trading ∧ (held.card? hold.card).isSome = true ∧ (held.card hold.card).state = .active ∧
      hold.extensions < 3 := by decide +kernel

theorem test_meets_RefundSharesAreFloorsAndPlaced :
    (original.refunded = some ⟨0, [0]⟩ ∧ 1 ≤ original.amount ∧ refundedOf original = ((0 : Nat) : Int) ∧
        ((0 + 10000 : Nat) : Int) ≤ original.amount ∧ original.parts.length ≤ 4 ∧ (partsSum original : Int) ≤ original.amount ∧
        ([0] : List Nat) = original.parts.map (fun p => 0 * p.amount / original.amount.toNat)) ∧
      ((9 : Nat) < desk.time.day) ∧ (desk.time.day ≤ 10 ∧ (desk.pool 15).state ≠ .closed) ∧
      hasBucket 15 40 card.buckets = true ∧ (hasBucket 15 10 card.buckets = false ∧ card.buckets.length < 4) ∧
      (hasBucket 15 10 [⟨1, 20, 1⟩, ⟨2, 20, 1⟩, ⟨3, 20, 1⟩, ⟨15, 20, 1⟩] = false) := by decide +kernel

theorem test_meets_RefundPlacesTheShares :
    ready .t desk = true ∧ trades desk = true ∧ seqOk 5 = true ∧ shopOk 511 = true ∧ amountOk 1000 = true ∧
      desk.entry? 5 = some redemption ∧ redemption.kind = .redeem ∧ redemption.shop = some 511 ∧
      ((1000 : Nat) : Int) ≤ refundRemainder redemption ∧ (desk.shop 511).state = .trading ∧ 64 < writable desk.journal ∧
      (cardIdOk 1 = true ∧ desk.card? 1 = none ∧ some 1 ≠ redemption.card) ∧ desk.card? id = some card ∧
      0 ≤ (card.base : Int) + baseShare redemption 1000 ∧
      (cardValue desk card : Int) + returnedValue desk redemption 1000 card ≤ 5000000 := by decide +kernel

/-- The part with the SALE of the card present as entry 5. -/
def sold : State :=
  { desk with
    journal := { desk.journal with entries := [{ redemption with
      kind := .sale, base := some 3000, amount := 3000, parts := [⟨15, 200, some 40⟩], refunded := none, voided := some false }] } }

theorem test_meets_VoidTakesTheSaleBack :
    ready .t sold = true ∧ trades sold = true ∧ seqOk 5 = true ∧ (sold.entry? 5).isSome = true ∧ (sold.entry 5).kind = .sale ∧
      (sold.entry 5).voided ≠ some true ∧ (sold.entry 5).day = sold.time.day ∧ (sold.entry 5).shop = some 511 ∧
      (sold.shop 511).state = .trading ∧ sold.card? id = some card ∧ card.state ≠ .closed ∧ card.holds = [] ∧
      valueLeft (sold.entry 5) card = true ∧ 64 < writable sold.journal := by decide +kernel

theorem test_meets_GrantCreditsTheAmount :
    ready .a desk = true ∧ storeValid desk = true ∧ cardIdOk id = true ∧ poolOk 15 = true ∧ amountOk 99300 = true ∧
      desk.card? id = some card ∧ (desk.pool 15).state = .opened ∧ 99300 ≤ available (desk.pool 15) ∧
      cardValue desk card + 99300 ≤ 5000000 ∧ (credit 15 40 99300 card.buckets).isSome = true ∧
      min (desk.time.day + (desk.pool 15).validity) 65535 = 40 ∧ 64 < writable desk.journal := by decide +kernel

theorem test_meets_PoolRequestsChangeThePool :
    ready .a desk = true ∧ storeValid desk = true ∧ poolOk 15 = true ∧ poolOk 0 = true ∧ (desk.pool 0).state = .empty ∧
      (shopOk 511 = true ∧ (desk.shop 511).state = .trading) ∧ (desk.pool 15).state = .opened ∧
      ((2, PoolState.suspended) = (1, .opened) ∨ (2, PoolState.suspended) = (2, .suspended) ∨ (2, PoolState.suspended) = (3, .closed)) ∧
      (desk.pool 15).state ≠ .suspended ∧
      (PoolArg.mk (some 511) 0 10000 5000000 1 0 false 0).rate ≤ 10000 := by decide +kernel

/-- The part whose A-link cursor stands at a number. -/
def cursorAt (n : Nat) : State := { desk with aLink := { idleLink with cursor := .at n } }

theorem test_meets_JournalReadsAnswer :
    ready .a desk = true ∧ storeValid desk = true ∧ seqOk 5 = true ∧ (desk.entry? 5).isSome = true ∧
      desk.aLink.cursor = .oldest ∧ shopOk 511 = true ∧
      (ready .a (cursorAt 6) = true ∧ (cursorAt 6).aLink.cursor = .at (cursorAt 6).journal.next) ∧
      (ready .a (cursorAt 5) = true ∧ (5 : Nat) ≠ (cursorAt 5).journal.next ∧ ((cursorAt 5).entry? 5).isSome = true) ∧
      (ready .a (cursorAt 4) = true ∧ (4 : Nat) ≠ (cursorAt 4).journal.next ∧ (cursorAt 4).entry? 4 = none ∧
        oldestSeq (cursorAt 4).journal = some 5) := by decide +kernel

theorem test_meets_ShopRequestsWriteTheRecord :
    ready .a desk = true ∧ storeValid desk = true ∧ shopOk 0 = true ∧ (desk.shop 0).state = .unused ∧ (15 : Nat) < 16 ∧
      (ScheduleArg.mk 50000 500 50000 0 none).redemptionRate ≤ 50000 ∧
      (ready .a desk0 = true ∧ storeValid desk0 = true ∧ (desk0.shop 511).state ≠ .unused ∧ desk0.ctrl.mode = .config) ∧
      (desk.shop 511).state ≠ .unused ∧ desk.ctrl.mode = .opened ∧ desk.period.state ≠ .closing := by decide +kernel

/-- The part with shop 511 DEPARTED and pool 15 funded by no shop. -/
def departed (x : Shop) : State :=
  { desk with shops := [(511, { x with state := .departed })], pools := [(15, { pool with funder := none })] }

/-- The part in SETTLING with shop 511, DEPARTED and paid, alone in the roster. -/
def lastDeparted : State :=
  { departed { shop with payout := { state := .paid, amount := 100, serial := 9 } } with
    period := { initialPeriod with live := 59, closing := 58, state := .settling, roster := [511], cursor := 512 } }

theorem test_meets_RemovalNeedsASettledShop :
    (ready .a lastDeparted = true ∧ storeValid lastDeparted = true ∧ (lastDeparted.shop 511).state = .departed ∧
        (lastDeparted.shop 511).carry = 0 ∧ (lastDeparted.shop 511).live = zeroPosition ∧ lastDeparted.placedHolds = [] ∧
        (List.range 16).any (fun p => (lastDeparted.pool p).state ≠ .empty && (lastDeparted.pool p).funder = some 511) = false ∧
        lastDeparted.period.state = .settling ∧ (lastDeparted.shop 511).result.computed = true ∧
        (lastDeparted.shop 511).result.newCarry = 0 ∧ (lastDeparted.shop 511).payout.state = .paid ∧
        releaseHolds { lastDeparted with shops := [], period := { lastDeparted.period with roster := [] } } = true) ∧
    ready .a desk = true ∧ storeValid desk = true ∧ shopOk 511 = true ∧ (desk.shop 511).state ≠ .departed ∧
      (ready .a (departed { shop with carry := 1 }) = true ∧ ((departed { shop with carry := 1 }).shop 511).carry ≠ 0) ∧
      ((departed { shop with live := { zeroPosition with count := 1 } }).shop 511).live ≠ zeroPosition ∧
      (({ departed shop with holds := held.holds } : State).placedHolds.any (fun e => e.2.shop = 511)) = true ∧
      ((({ departed shop with pools := [(15, { pool with funder := some 511 })] } : State).pool 15).funder = some 511) ∧
      (({ departed shop with period := { initialPeriod with state := .closing } } : State).period.state = .closing) ∧
      (ready .a (departed shop) = true ∧ ((departed shop).shop 511).live = zeroPosition ∧
        (departed shop).period.state = .released ∧ releaseHolds (departed shop) = false) := by decide +kernel

/-- The part with a closing record in a state. -/
def period (x : ClosingState) (roster : List Nat) (cursor : Nat) : State :=
  { desk with period := { initialPeriod with live := 59, closing := 58, state := x, roster := roster, cursor := cursor } }

theorem test_meets_AdjustmentMovesTheCarry :
    ready .a desk = true ∧ storeValid desk = true ∧ shopOk 511 = true ∧ withinLimit 100000000000 = true ∧
      (desk.shop 511).state ≠ .unused ∧ desk.period.state = .released ∧ 64 < writable desk.journal ∧
      (ready .a (period .settling [] 512) = true ∧ (period .settling [] 512).period.state ≠ .released) := by decide +kernel

theorem test_meets_ClosePeriodTakesTheClose :
    ready .a desk = true ∧ storeValid desk = true ∧ desk.period.state = .released ∧ desk.period.live < 4294967295 ∧
      (ready .a (period .closing [] 0) = true ∧ (period .closing [] 0).period.state ≠ .released) := by decide +kernel

/-- The part in INTERVAL mode with the countdown at 0. -/
def countedDown (x : ClosingState) : State :=
  { desk with period := { initialPeriod with state := x, mode := .interval, countdown := 0 } }

theorem test_meets_SchedulerRequestsCloses :
    (ready .a desk = true ∧ storeValid desk = true) ∧
      ((∀ n, n < 4 → offerMayEnter (countedDown .released) n = false) ∧ (countedDown .released).power = true ∧
        (countedDown .released).period.mode = .interval ∧ (countedDown .released).period.countdown = 0) ∧
      ((countedDown .released).period.state = .released ∧ (countedDown .released).period.live < 4294967295) ∧
      ((countedDown .settling).period.state ≠ .released) := by decide +kernel

/-- A summary of a period. -/
def summary (n : Nat) : Summary :=
  { period := n, cause := .daily, day := 1, clock := 1, firstSeq := 1, rosterCount := 1, computation := none, release := none }

/-- The part that holds the summaries of periods 57 and 58. -/
def summarised : State := { desk with period := { (period .released [] 512).period with summaries := [summary 57, summary 58] } }

theorem test_meets_PeriodReadsChangeNothing :
    ready .a summarised = true ∧ storeValid summarised = true ∧
      (summary 57 ∈ summarised.period.summaries ∧ (∀ x ∈ summarised.period.summaries, x.period = 57 → x = summary 57)) ∧
      (summary 58 ∈ summarised.period.summaries ∧ (summary 58).period = summarised.period.closing) ∧
      (ready .a desk = true ∧ ∀ m ∈ desk.period.summaries, m.period ≠ desk.period.closing) ∧
      ((∀ m ∈ summarised.period.summaries, m.period ≠ 4294967295) ∧ summarised.period.summaries.head? = some (summary 57) ∧
        summarised.period.summaries.getLast? = some (summary 58)) := by decide +kernel

/-- The part in CLOSING with the walk over shop 511 to come, and the same in CONFIG. -/
def closing0 : State := { period .closing [511] 511 with ctrl := desk0.ctrl }

theorem test_meets_CloseStepComputesTheShop :
    (quiet (period .closing [511] 511) = true ∧ (period .closing [511] 511).power = true ∧
        (period .closing [511] 511).ctrl.mode = .opened ∧
        (period .closing [511] 511).period.roster.find? (fun i => (period .closing [511] 511).period.cursor ≤ i) = some 511) ∧
      (quiet (period .closing [511] 512) = true ∧
        (period .closing [511] 512).period.roster.find? (fun i => (period .closing [511] 512).period.cursor ≤ i) = none) ∧
      (quiet closing0 = true ∧ closing0.period.state = .closing ∧ closing0.ctrl.mode = .config) := by decide +kernel

/-- A shop of the roster with a computed payout due, channel 3 enabled for it. -/
def dueShop : Shop := { shop with result := { zeroResult with due := 100, net := 100 } }

/-- The part at the end of a computation that leaves a payout DUE. -/
def computed : State :=
  { period .closing [2, 511] 512 with
    shops := [(2, shop), (511, dueShop)]
    channels := [(3, { idleChannel with enabled := true, range := some (511, 511), autoStart := true })] }

/-- The part at the end of a computation that leaves none. -/
def computedNone : State := period .closing [2, 511] 512

theorem test_meets_ComputationEndAssignsPayouts :
    (computed.power = true ∧ quiet computed = true ∧ computed.period.state = .closing ∧ computed.ctrl.mode = .opened ∧
        computed.period.roster.find? (fun i => computed.period.cursor ≤ i) = none ∧
        (∀ n, n < 4 → (computed.channel n).offer = none)) ∧
      (511 ∈ computed.period.roster ∧ (computed.shop 511).result.held = false ∧ 0 < (computed.shop 511).result.due ∧
        (computed.channel 3).enabled = true ∧ inRange 511 (computed.channel 3).range = true) ∧
      (quiet computedNone = true ∧ (∀ n, n < 4 → (computedNone.channel n).offer = none) ∧
        (∀ i ∈ computedNone.period.roster, (computedNone.shop i).result.held = true ∨ (computedNone.shop i).result.due ≤ 0) ∧
        computedNone.period.closePending = none) := by decide +kernel

/-- The part in SETTLING with one payout record, of shop 511. -/
def settling (x : PayoutState) : State :=
  { period .settling [511] 512 with
    shops := [(2, shop), (511, { shop with payout := { state := x, amount := 100, serial := 9 } })]
    channels := [(3, { idleChannel with enabled := true, range := some (511, 511) })] }

theorem test_meets_ReleaseBringsCarryForward :
    tablesFormed (settling .paid) ∧ releaseHolds (settling .paid) = true ∧ (settling .paid).period.closePending = none ∧
      (let s : State := { settling .failed with period := { (settling .failed).period with closePending := some .daily } };
        tablesFormed s ∧ releaseHolds s = true ∧ s.period.closePending = some .daily ∧ s.period.live < 4294967295 ∧
          (s.shop 2).state ≠ .unused ∧ (s.shop 0).state = .unused) := by
  unfold tablesFormed
  decide +kernel

/-- The part with channel 3 in a state, its range that of shop 511. -/
def channelIn (x : ChannelState) (o : Option Offer) : State :=
  { settling .due with
    channels := [(3, { idleChannel with enabled := true, range := some (511, 511), state := x, offer := o, remaining := 5 })] }

/-- A queued offer of shop 511. -/
def offer : Offer := { shop := 511, serial := 9, queued := true, reoffer := false }

theorem test_meets_ChannelRequestsWriteTheChannel :
    (ready .a desk = true ∧ storeValid desk = true ∧ (3 : Nat) < 4 ∧ (0 ≤ 511 ∧ 511 ≤ 511) ∧ (desk.channel 3).state = .idle ∧
        desk.period.state ≠ .settling ∧ (ready .a desk0 = true ∧ desk0.ctrl.mode = .config) ∧
        (∀ m, m < 4 → m ≠ 3 → (desk.channel m).enabled = true → rangesMeet (desk.channel m).range (some (0, 511)) = false)) ∧
      (ready .a (channelIn .idle none) = true ∧ (channelIn .idle none).period.state = .settling ∧
        ((channelIn .idle none).channel 3).state = .idle) ∧
      (ready .a (channelIn .running none) = true ∧ ((channelIn .running none).channel 3).state = .running) ∧
      (ready .a (channelIn .offerWait (some offer)) = true ∧ ((channelIn .offerWait (some offer)).channel 3).state = .offerWait) ∧
      (ready .a (channelIn .suspended (some offer)) = true ∧ ((channelIn .suspended (some offer)).channel 3).state = .suspended) ∧
      (ready .a (channelIn .fault (some offer)) = true ∧ ((channelIn .fault (some offer)).channel 3).state = .fault) := by
  decide +kernel

/-- The part in SETTLING with shop 511 DUE and shop 2 UNCERTAIN. -/
def twoRecords : State :=
  { settling .due with
    period := (period .settling [2, 511] 512).period
    shops := [(2, { shop with payout := { state := .uncertain, amount := 50, serial := 8 } }),
              (511, { shop with payout := { state := .due, amount := 100, serial := 0 } })] }

theorem test_meets_DisablingAndResettingDefer :
    ready .a twoRecords = true ∧ storeValid twoRecords = true ∧ (twoRecords.channel 3).state = .idle ∧
      twoRecords.period.state = .settling ∧ (twoRecords.channel 3).enabled = true ∧ tablesFormed twoRecords ∧
      2 ∈ twoRecords.period.roster ∧ (twoRecords.shop 2).payout.state = .uncertain ∧ (twoRecords.channel 3).offer = none ∧
      2 ∉ (twoRecords.shops.filter (fun e => inRange e.1 (twoRecords.channel 3).range && e.2.payout.state = .due)).map
        (fun e => e.1) ∧ (twoRecords.channel 3).range = some (511, 511) ∧
      (let s : State := { twoRecords with ctrl := desk0.ctrl };
        ready .a s = true ∧ storeValid s = true ∧ s.ctrl.mode = .config ∧ (s.channel 3).range ≠ some (0, 511) ∧
          ∀ m, m < 4 → m ≠ 3 → (s.channel m).enabled = true → rangesMeet (s.channel m).range (some (0, 511)) = false) ∧
      (ready .a (settling .due) = true ∧ ((settling .due).channel 3).enabled = true ∧
        releaseHolds { settling .due with
          shops := [(2, shop), (511, { shop with payout := { state := .deferred, amount := 100, serial := 9 } })] } = true) := by
  unfold tablesFormed
  decide +kernel

/-- The part with channel 3 RUNNING over shop 511, which is DUE, the serial counter at its top. -/
def running : State := { channelIn .running none with serial := 4294967295 }

/-- The part with channel 3 RUNNING over an empty range. -/
def idleRun : State := { running with channels := [(3, { idleChannel with state := .running })] }

/-- The part with an offer waiting on channel 3. -/
def offering : State := channelIn .running (some { offer with queued := false })

/-- Offers waiting on channels 1 and 3, the A-link queue holding a number of frames. -/
def twoWaiting (frames : Nat) : State :=
  let waits := fun (i : Nat) (x : ChannelState) (t : Nat) => { idleChannel with
    enabled := true, range := some (i, i), state := x, timeout := t
    offer := some { shop := i, serial := i, queued := false, reoffer := true } }
  { settling .offered with
    channels := [(1, waits 2 .suspended 5), (3, waits 511 .running 7)]
    aLink := { idleLink with tx := List.replicate frames (.notice 0 []) } }

/-- 11 R189: FRAME_SENT at a queue of 15 frames leaves room for one more offer frame: that of the lowest channel enters. -/
theorem test_frameSent_lets_one_offer_in :
    ∃ t, exec (.frameSent .a) (twoWaiting 15) = .next t ∧ t.aLink.tx.length = 15 ∧ offerWaits (t.channel 1) = false ∧
      (t.channel 1).state = .suspended ∧ offerWaits (t.channel 3) = true := ⟨_, rfl, by decide +kernel⟩

/-- 11 R189, R190, 08 R160: LINK_RESET empties the queue: both offers enter, and the RUNNING channel waits for its result. -/
theorem test_linkReset_lets_offers_in :
    ∃ t, exec (.linkReset .a) (twoWaiting 16) = .next t ∧ t.aLink.tx.length = 2 ∧ offerWaits (t.channel 1) = false ∧
      offerWaits (t.channel 3) = false ∧ (t.channel 3).state = .offerWait ∧ (t.channel 3).remaining = 7 :=
  ⟨_, rfl, by decide +kernel⟩

theorem test_meets_OffersAreMadeAndQueued :
    (running.power = true ∧ quiet running = true ∧ tablesFormed running ∧ (running.channel 3).state = .running ∧
        (running.channel 3).offer = none) ∧
      ((running.shop 511).payout.state = .due ∧ inRange 511 (running.channel 3).range = true ∧
        (running.channel 3).cursor = none ∧
        ∀ k, inRange k (running.channel 3).range = true → 511 ≤ k) ∧
      (quiet idleRun = true ∧ (idleRun.channel 3).state = .running ∧ (idleRun.channel 3).offer = none ∧
        ∀ i, inRange i (idleRun.channel 3).range = false) ∧
      (offering.power = true ∧ offering.ctrl.draining = false ∧ 2 ≤ freePlaces offering.aLink ∧
        (offering.channel 3).offer = some { offer with queued := false } ∧
        ∀ m, m < 3 → offerWaits (offering.channel m) = false) ∧
      (2 ≤ freePlaces (twoWaiting 12).aLink ∧ offerWaits ((twoWaiting 12).channel 3) = true ∧
        ((twoWaiting 12).channel 1).offer = some { shop := 2, serial := 2, queued := false, reoffer := true } ∧
        ∀ m, m < 1 → offerWaits ((twoWaiting 12).channel m) = false) ∧
      (freePlaces (twoWaiting 15).aLink < 2 ∧ (∀ n, n < 4 → offerWaits (desk.channel n) = false)) := by
  refine ⟨?_, ⟨by decide +kernel, by decide +kernel, by decide +kernel, ?_⟩, ⟨by decide +kernel, by decide +kernel, by decide +kernel, fun _ => rfl⟩, by decide +kernel, by decide +kernel, by decide +kernel⟩
  · unfold tablesFormed
    decide +kernel
  · intro k h
    have e : (running.channel 3).range = some (511, 511) := rfl
    rw [e] at h
    simp [inRange] at h
    omega

/-- The part that waits for the result of an offer of shop 511 while shop 2 is UNCERTAIN. -/
def resulting : State :=
  { twoRecords with
    shops := [(2, { shop with payout := { state := .uncertain, amount := 50, serial := 8 } }),
              (511, { shop with payout := { state := .offered, amount := 100, serial := 9 } })]
    channels := (channelIn .offerWait (some offer)).channels }

/-- The shops whose record is UNCERTAIN, read at any number. -/
theorem test_uncertain_shop (k : Nat) (h : (resulting.shop k).payout.state = .uncertain) : k = 2 := by
  by_cases a : k = 2
  · exact a
  · by_cases b : k = 511
    · subst b
      exact absurd h (by decide +kernel)
    · simp [State.shop, resulting, tableRead, tableGet, Ne.symm a, Ne.symm b, unusedShop, noPayout] at h

theorem test_meets_ResultsResolveOffers :
    (let s : State := { settling .offered with channels := (channelIn .offerWait (some offer)).channels };
      ready .a s = true ∧ storeValid s = true ∧ (s.channel 3).offer = some offer ∧ releaseHolds (settling .paid) = true) ∧
    (ready .a resulting = true ∧ storeValid resulting = true ∧ (resulting.channel 3).offer = some offer ∧
        (resulting.channel 3).state = .offerWait ∧ 2 ∈ resulting.period.roster ∧
        (resulting.shop 2).payout.state = .uncertain) ∧
      ((resulting.channel 0).offer = none ∧ tablesFormed resulting ∧ (resulting.shop 2).payout.serial = 8 ∧
        (∀ k, (resulting.shop k).payout.state = .uncertain → (resulting.shop k).payout.serial = 8 → k = 2) ∧
        511 ∈ resulting.period.roster ∧ (resulting.shop 511).payout.state = .offered) ∧
      (∀ k, (resulting.shop k).payout.state = .uncertain → (resulting.shop k).payout.serial ≠ 7) := by
  refine ⟨by decide +kernel, by decide +kernel, ⟨by decide +kernel, ?_, by decide +kernel, fun k h _ => test_uncertain_shop k h, by decide +kernel,
    by decide +kernel⟩, ?_⟩
  · unfold tablesFormed
    decide +kernel
  · intro k h
    rw [test_uncertain_shop k h]
    decide +kernel

theorem test_meets_TimeRequestsWriteOneField :
    ready .a desk = true ∧ desk.ctrl.initInFlight = false ∧ desk.ctrl.store = .valid ∧ (86399 : Nat) ≤ 86399 ∧
      (86399 : Nat) < 86400 := by decide +kernel

theorem test_meets_TickCountsEveryTimer :
    let s : State := { held with time := { desk.time with clock := 4294967295 } }
    s.power = true ∧ quiet s = true ∧ s.time.clock < 4294967296 := by decide +kernel

/-- The part with the hold's seconds run out. -/
def expired : State :=
  { held with holds := [(1023, { gen := 65535, lastEnd := .expired, hold := some { hold with remaining := 0 } })] }

/-- The part with channel 3's confirm timer run out. -/
def timedOut : State :=
  { channelIn .offerWait (some offer) with
    channels := [(3, { idleChannel with state := .offerWait, offer := some offer, remaining := 0 })] }

theorem test_meets_TimersThatRunOutAct :
    ((∀ m, m < 4 → offerMayEnter held m = false) ∧ (held.holdSlot 1023).hold = some hold ∧ (held.card? id).isSome = true ∧
        hold.remaining ≠ 0) ∧
      ((∀ m, m < 4 → offerMayEnter expired m = false) ∧ (expired.holdSlot 1023).hold = some { hold with remaining := 0 } ∧
        (expired.card? id).isSome = true) ∧
      ((∀ m, m < 4 → offerMayEnter timedOut m = false) ∧ (timedOut.channel 3).state = .offerWait ∧
        (timedOut.channel 3).remaining = 0 ∧ (timedOut.channel 3).offer = some offer ∧ timedOut.power = true) := by decide +kernel

/-- The part with blocks that a rollover has been handed to and that have yet to react. -/
def handedTo (bs : List Reactor) : State := { desk with time := { desk.time with handed := bs } }

theorem test_meets_RolloverStartsTheDay :
    (ready .a desk = true ∧ storeValid desk = true ∧ ready .a (handedTo [.journal]) = true ∧
        storeValid (handedTo [.journal]) = true) ∧
      (let s : State := { handedTo [.periodController] with
          time := { desk.time with day := 65535, rolloverDue := true, handed := [.periodController] } };
        s.power = true ∧ (∀ m, m < 4 → offerMayEnter s m = false) ∧ s.time.rolloverDue = true) ∧
      (∀ bs ∈ [[], [Reactor.poolTable], [.periodController], [.journal], [.poolTable, .periodController, .journal]],
        (handedTo bs).power = true ∧ (∀ m, m < 4 → offerMayEnter (handedTo bs) m = false) ∧
          (handedTo bs).time.rolloverDue = false ∧ (handedTo bs).time.handed = bs) ∧
      (handedTo [.periodController]).period.mode ≠ .daily ∧
      ∀ x ∈ [ClosingState.settling, .released],
        let s : State := { handedTo [.periodController] with period := { initialPeriod with mode := .daily, state := x } };
        s.power = true ∧ (∀ m, m < 4 → offerMayEnter s m = false) ∧ s.period.mode = .daily := by decide +kernel

theorem test_dayRollover_acts : ∃ r, exec .dayRollover (handedTo [.journal]) = .next r := ⟨_, rfl⟩

/-- 09 R164: a request taken while reactions wait finds them untaken. -/
theorem test_request_before_reactions :
    (let s := handedTo [.poolTable, .periodController, .journal];
      ready .t s = true ∧ isRequest (.balance .t 1 id none) = true ∧
        ∃ t, exec (.balance .t 1 id none) s = .next t ∧ t.time.handed = [.poolTable, .periodController, .journal] ∧
          t.sweep.inFlight = false) := ⟨by decide +kernel, by decide +kernel, _, rfl, by decide +kernel⟩

/-- 09 R164: a loss of power after the Pool Table's reaction, or after the Journal's alone, leaves the others untaken. -/
theorem test_loss_leaves_reactions :
    (∃ t, exec .dayRollover (handedTo [.poolTable]) = .next t ∧ t.sweep.inFlight = true ∧ t.time.handed = []) ∧
      ∃ t, exec .lossOfPower (handedTo [.poolTable, .periodController]) = .next t ∧ t.time.handed = [] ∧
        t.sweep.inFlight = false :=
  ⟨⟨_, rfl, by decide +kernel⟩, ⟨_, rfl, by decide +kernel⟩⟩

/-- The part with the sweep at a cursor. -/
def sweeping (cursor : Nat) : State := { desk with sweep := { inFlight := true, day := 41, cursor := cursor, swept := [] } }

/-- The part at the end of a sweep with a journal that has no writable entry. -/
def fullJournal : State :=
  { sweeping 1 with journal := { (sweeping 1).journal with entries := List.replicate 65536 redemption } }

theorem test_fullJournal_writable : writable fullJournal.journal = 0 := by
  have e : fullJournal.journal.entries = List.replicate 65536 redemption := by rw [fullJournal]
  have r : releasable fullJournal.journal redemption = false := rfl
  simp only [writable, releasableCount, e, List.length_replicate, List.countP_replicate, r]
  rfl

/-- The end of a sweep that holds value of pools 3 and 15, in a full ring whose oldest entry alone is releasable. -/
def nearlyFull : State :=
  { sweeping 1 with
    pools := [(3, { pool with pending := 70 }), (15, { pool with pending := 30 })]
    journal := { (sweeping 1).journal with entries := { redemption with period := 0 } :: List.replicate 65535 redemption } }

theorem test_nearlyFull_ring :
    nearlyFull.journal.entries.length = 65536 ∧ writable nearlyFull.journal = 1 ∧ journalOrdered nearlyFull := by
  have e : nearlyFull.journal.entries = { redemption with period := 0 } :: List.replicate 65535 redemption := by rw [nearlyFull]
  have r : releasable nearlyFull.journal redemption = false := rfl
  have q : releasable nearlyFull.journal { redemption with period := 0 } = true := rfl
  refine ⟨by rw [e, List.length_cons, List.length_replicate], ?_, ?_⟩
  · simp only [writable, releasableCount, e, List.length_cons, List.length_replicate, List.countP_cons, List.countP_replicate, r, q]
    rfl
  · unfold journalOrdered
    rw [e]
    refine ⟨List.pairwise_cons.2 ⟨fun b _ => Nat.zero_le _, List.pairwise_replicate.2 (.inr (Nat.le_refl _))⟩, ?_, by decide +kernel⟩
    intro x hx
    rcases List.mem_cons.1 hx with h | h
    · subst h
      decide +kernel
    · rw [List.eq_of_mem_replicate h]
      decide +kernel

theorem test_meets_SweepCollectsAndJournals :
    (quiet (sweeping 0) = true ∧ (sweeping 0).sweep.inFlight = true ∧ tablesFormed (sweeping 0) ∧
        (id, card) ∈ (sweeping 0).cards ∧ (sweeping 0).sweep.cursor ≤ card.slot ∧
        (∀ e ∈ (sweeping 0).cards, e.1 ≠ id → (sweeping 0).sweep.cursor ≤ e.2.slot → card.slot < e.2.slot)) ∧
      (quiet (sweeping 1) = true ∧ (sweeping 1).power = true ∧ (sweeping 1).sweep.inFlight = true ∧
        (∀ e ∈ (sweeping 1).cards, e.2.slot < (sweeping 1).sweep.cursor) ∧
        (sweeping 1).journal.released < (sweeping 1).period.live ∧ 16 ≤ writable (sweeping 1).journal ∧
        (sweeping 1).journal.entries.length + 16 ≤ 65536 ∧ (sweeping 1).journal.next ≤ 4000000000) ∧
      (quiet fullJournal = true ∧ fullJournal.power = true ∧ fullJournal.sweep.inFlight = true ∧
        (∀ e ∈ fullJournal.cards, e.2.slot < fullJournal.sweep.cursor) ∧
        fullJournal.journal.released < fullJournal.period.live ∧ writable fullJournal.journal = 0) ∧
      (quiet nearlyFull = true ∧ nearlyFull.power = true ∧ nearlyFull.sweep.inFlight = true ∧
        (∀ e ∈ nearlyFull.cards, e.2.slot < nearlyFull.sweep.cursor) ∧ writable nearlyFull.journal = 1 ∧
        journalOrdered nearlyFull ∧ nearlyFull.journal.entries.length ≤ 65536) := by
  refine ⟨?_, by decide +kernel,
    ⟨by decide +kernel, rfl, rfl, by decide +kernel, by decide +kernel, test_fullJournal_writable⟩,
    by decide +kernel, rfl, rfl, by decide +kernel, test_nearlyFull_ring.2.1, test_nearlyFull_ring.2.2,
    by rw [test_nearlyFull_ring.1]⟩
  unfold tablesFormed
  decide +kernel

theorem test_meets_PartRequestsSetTheMode :
    (ready .a desk = true ∧ desk.ctrl.initInFlight = false ∧ desk.ctrl.store = .valid ∧ desk.ctrl.mode = .opened ∧
        desk.placedHolds = [] ∧ desk.period.state ≠ .closing ∧ (∀ n, n < 4 → (desk.channel n).state = .idle)) ∧
      (ready .a held = true ∧ held.ctrl.mode = .opened ∧ held.placedHolds ≠ []) ∧
      (ready .a desk0 = true ∧ desk0.ctrl.store = .valid ∧ desk0.ctrl.mode = .config) ∧
      (noticeClassOf 8 = some .channelFault ∧ routeOf 3 = some .none) := by decide +kernel

theorem test_meets_ChecksBeforeTheRuleRefuse :
    (ready .t desk = true ∧ isRequest (.identify .t 1) = true ∧ ¬(0x10 ≤ (requestFrame (.identify .t 1)).kind ∧
        (requestFrame (.identify .t 1)).kind ≤ 0x1A)) ∧
      (ready .a ({ desk0 with ctrl := { desk0.ctrl with store := .blank, initInFlight := true } } : State) = true) ∧
      (ready .a State.reset = true ∧ State.reset.ctrl.store = .blank ∧ State.reset.ctrl.initInFlight = false) ∧
      (ready .t desk0 = true ∧ desk0.ctrl.store = .valid ∧ desk0.ctrl.mode = .config) ∧
      (desk.ctrl.mode = .opened ∧ (requestFrame (.storeInitialise .a 1)).kind = 0x75) ∧
      (decodeFields .t 1 0x77 [] = none ∧ decodeFields .t 1 0x1A [] = none ∧ decodeFields .t 1 0x70 [0] = none) := by decide +kernel

/-- The part with the hold PLACED, shop 511 and the card in given states, and the card's SALE as entry 6. -/
def refusing (x : ShopState) (y : CardState) : State :=
  { held with
    shops := [(2, shop), (511, { shop with state := x })]
    cards := [(id, { card with state := y, holds := [⟨1023, 65535⟩] })]
    journal := { emptyJournal with entries := [redemption, { (sold.entry 5) with seq := 6 }], writePos := 2, next := 7 } }

/-- The same without the card. -/
def refusingNone : State := { refusing .trading .active with cards := [], holds := [] }

theorem test_meets_ShopAndCardStatesRefuse :
    (∀ x ∈ [ShopState.unused, .trading, .barred, .departed], ∀ y ∈ [CardState.active, .frozen, .closed],
      let s := refusing x y;
      ready .t s = true ∧ ready .a s = true ∧ trades s = true ∧ storeValid s = true ∧ (s.shop 511).state = x ∧
        s.card? id = some { card with state := y, holds := [⟨1023, 65535⟩] } ∧ (s.holdSlot 1023).hold = some hold ∧
        s.entry? 5 = some redemption ∧ s.entry? 6 = some { (sold.entry 5) with seq := 6 }) ∧
      (ready .t refusingNone = true ∧ ready .a refusingNone = true ∧ trades refusingNone = true ∧ refusingNone.card? id = none ∧
        refusingNone.entry? 5 = some redemption ∧ refusingNone.entry? 6 = some { (sold.entry 5) with seq := 6 }) ∧
      (cardIdOk id = true ∧ shopOk 511 = true ∧ amountOk 1000 = true ∧ seqOk 5 = true ∧ poolOk 15 = true ∧
        hold.shop = 511 ∧ redemption.kind = .redeem ∧ redemption.shop = some 511 ∧ ((1000 : Nat) : Int) ≤ refundRemainder redemption ∧
        (sold.entry 5).kind = .sale ∧ (sold.entry 5).shop = some 511 ∧ (sold.entry 5).voided ≠ some true ∧
        (sold.entry 5).day = desk.time.day) ∧
      (∀ x ∈ [ShopState.unused, .departed],
        let s := refusing x .active;
        ready .a s = true ∧ storeValid s = true ∧ (s.shop 511).state = x ∧ withinLimit (-100000000000) = true ∧
          (PoolArg.mk (some 511) 0xFFFF 10000 5000000 1 0 true 0).rate ≤ 10000 ∧
          (PoolArg.mk (some 511) 0xFFFF 10000 5000000 1 0 true 0).cap ≤ 5000000 ∧
          1 ≤ (PoolArg.mk (some 511) 0xFFFF 10000 5000000 1 0 true 0).validity) := by decide +kernel

/-- The part with STORE_INITIALISE in progress. -/
def initialising : State :=
  { desk0 with
    ctrl := { desk0.ctrl with store := .blank, formatMark := false, initInFlight := true }
    aLink := { idleLink with busy := some { kind := 0x75, tag := 3, discard := false } } }

theorem test_meets_InitialiseAndRestartAreTaken :
    (ready .a desk0 = true ∧ desk0.ctrl.initInFlight = false ∧ desk0.ctrl.mode = .config ∧ desk0.ctrl.store = .valid) ∧
      (initialising.power = true ∧ quiet initialising = true ∧ initialising.ctrl.initInFlight = true ∧
        initialising.aLink.busy = some { kind := 0x75, tag := 3, discard := false }) := by decide +kernel

/-- The part with a RESTART taken and the queues drained. -/
def draining : State := { held with ctrl := { held.ctrl with draining := true } }

theorem test_meets_PowerAndRestartKeepTheStore :
    held.power = true ∧ State.reset.ctrl.formatMark = false ∧ (valueSound held ∧ held.ctrl.formatMark = true) ∧
      (({ held with power := false } : State).power = false ∧ Instr.tick ≠ .powerOn) ∧
      (valueSound draining ∧ draining.power = true ∧ draining.ctrl.store = .valid ∧ drained draining = true ∧
        expiredSlots draining = [] ∧ (∀ n, n < 4 → timeoutDue (draining.channel n) = false) ∧ intervalDue draining = false ∧
        draining.time.rolloverDue = false) :=
  ⟨rfl, rfl, ⟨test_held_sound, rfl⟩, ⟨rfl, nofun⟩, test_held_sound, by decide +kernel⟩

end Sys2Proof.Tests
end

section
/-! The proofs about a hold's slot: which slot PLACE_HOLD fills (02 R28), and what EXTEND_HOLD makes of one (02 R41). -/

namespace Sys2Proof.Proofs.HoldSlots

open Sys2Proof.Machine Sys2Proof.Laws

/-! ## Look-ups of the sparse tables by membership -/

theorem mem_of_tableGet {α : Type} {k : Nat} {v : α} {t : Table α} (h : tableGet k t = some v) : (k, v) ∈ t := by
  induction t with
  | nil => simp at h
  | cons e t ih =>
    obtain ⟨j, w⟩ := e
    unfold tableGet at h
    split at h
    · rename_i hj
      obtain rfl : w = v := Option.some.inj h
      exact hj ▸ List.mem_cons_self
    · exact List.mem_cons_of_mem _ (ih h)

/-- In a rising table a number is listed at most once, so the look-up finds whatever is listed. -/
theorem tableGet_of_mem {α : Type} {k : Nat} {v : α} {t : Table α} (hr : tableRising t = true) (hm : (k, v) ∈ t) :
    tableGet k t = some v := by
  simp only [tableRising, decide_eq_true_eq] at hr
  induction t with
  | nil => simp at hm
  | cons e t ih =>
    obtain ⟨hlt, hr⟩ := List.pairwise_cons.1 hr
    rcases List.mem_cons.1 hm with rfl | hm
    · simp [tableGet]
    · have hk : e.1 < k := hlt _ hm
      simp [tableGet, Nat.ne_of_lt hk, ih hm hr]

/-! ## The least number that a list leaves out -/

/-- The least number that does not stand in the list; both tables of numbered slots are searched so (01 R2, 02 R28). -/
def firstMissing (used : List Nat) : Nat :=
  ((List.range (used.length + 1)).find? (fun n => !used.contains n)).getD used.length

/-- A list leaves out one of the numbers up to its length. -/
theorem exists_le_length_not_mem (used : List Nat) : ∃ n ≤ used.length, n ∉ used := by
  by_contra! h
  have hsub : List.range (used.length + 1) ⊆ used := fun n hn => h n (Nat.lt_succ_iff.1 (List.mem_range.1 hn))
  have hle := (List.subperm_of_subset List.nodup_range hsub).length_le
  rw [List.length_range] at hle
  omega

theorem firstMissing_spec (used : List Nat) : firstMissing used ∉ used ∧ ∀ m < firstMissing used, m ∈ used := by
  unfold firstMissing
  cases hf : (List.range (used.length + 1)).find? (fun n => !used.contains n) with
  | none =>
    obtain ⟨n, hn, hmem⟩ := exists_le_length_not_mem used
    have hall := List.find?_eq_none.1 hf n (List.mem_range.2 (Nat.lt_succ_iff.2 hn))
    simp [hmem] at hall
  | some n =>
    obtain ⟨hn, -, hlt⟩ := List.find?_range_eq_some.1 hf
    exact ⟨by simpa using hn, fun m hm => by simpa using hlt m hm⟩

/-- The least number left out depends only on which numbers are listed. -/
theorem firstMissing_congr {a b : List Nat} (h : ∀ n, n ∈ a ↔ n ∈ b) : firstMissing a = firstMissing b := by
  obtain ⟨ha, hla⟩ := firstMissing_spec a
  obtain ⟨hb, hlb⟩ := firstMissing_spec b
  rcases Nat.lt_trichotomy (firstMissing a) (firstMissing b) with hlt | heq | hgt
  · exact absurd ((h _).2 (hlb _ hlt)) ha
  · exact heq
  · exact absurd ((h _).1 (hla _ hgt)) hb

/-! ## The lowest FREE slot (02 R28) -/

/-- The numbers of the PLACED slots. -/
def placedNumbers (s : State) : List Nat := (s.holds.filter (fun e => e.2.hold.isSome)).map (fun e => e.1)

theorem lowestFreeHoldSlot_eq (s : State) : s.lowestFreeHoldSlot = firstMissing (placedNumbers s) := rfl

theorem mem_placedNumbers {s : State} (hf : tablesFormed s) (n : Nat) :
    n ∈ placedNumbers s ↔ (s.holdSlot n).hold.isSome = true := by
  obtain ⟨-, hholds, -⟩ := hf
  have hr : tableRising s.holds = true := (Bool.and_eq_true_iff.1 hholds).1
  simp only [placedNumbers, List.mem_map, List.mem_filter, State.holdSlot, tableRead]
  constructor
  · rintro ⟨⟨k, x⟩, ⟨hm, hx⟩, rfl⟩
    simpa [tableGet_of_mem hr hm] using hx
  · intro hx
    cases hg : tableGet n s.holds with
    | none => simp [hg, freeHoldSlot] at hx
    | some x => exact ⟨(n, x), ⟨mem_of_tableGet hg, by simpa [hg] using hx⟩, rfl⟩

theorem lowestFreeHoldSlot_free {s : State} (hf : tablesFormed s) : (s.holdSlot s.lowestFreeHoldSlot).hold = none := by
  have hmiss := (firstMissing_spec (placedNumbers s)).1
  rw [← lowestFreeHoldSlot_eq, mem_placedNumbers hf] at hmiss
  simpa using hmiss

theorem placed_of_lt_lowestFreeHoldSlot {s : State} (hf : tablesFormed s) {m : Nat} (hm : m < s.lowestFreeHoldSlot) :
    (s.holdSlot m).hold.isSome = true :=
  (mem_placedNumbers hf m).1 ((firstMissing_spec (placedNumbers s)).2 m hm)

theorem lowestFreeHoldSlot_congr {s u : State} (hs : tablesFormed s) (hu : tablesFormed u)
    (h : ∀ n, (s.holdSlot n).hold.isSome = (u.holdSlot n).hold.isSome) : s.lowestFreeHoldSlot = u.lowestFreeHoldSlot := by
  have hmem : ∀ n, n ∈ placedNumbers s ↔ n ∈ placedNumbers u := fun n => by rw [mem_placedNumbers hs, mem_placedNumbers hu, h]
  rw [lowestFreeHoldSlot_eq, lowestFreeHoldSlot_eq, firstMissing_congr hmem]

theorem lowestFreeHoldSlot_of_full {s : State} (hf : tablesFormed s) (hfull : ∀ n, n < 1024 → (s.holdSlot n).hold.isSome = true) :
    1024 ≤ s.lowestFreeHoldSlot := by
  by_contra! hlt
  simpa [lowestFreeHoldSlot_free hf] using hfull _ hlt

/-! ## What a request in progress leaves as it is -/

@[simp] theorem begun_card? (l : Link) (kind tag : Nat) (s : State) (i : Nat) : (begun l kind tag s).card? i = s.card? i :=
  card?_setLink s l _ i

@[simp] theorem begun_card (l : Link) (kind tag : Nat) (s : State) (i : Nat) : (begun l kind tag s).card i = s.card i :=
  card_setLink s l _ i

@[simp] theorem begun_shop (l : Link) (kind tag : Nat) (s : State) (i : Nat) : (begun l kind tag s).shop i = s.shop i :=
  shop_setLink s l _ i

@[simp] theorem begun_holdSlot (l : Link) (kind tag : Nat) (s : State) (n : Nat) :
    (begun l kind tag s).holdSlot n = s.holdSlot n := holdSlot_setLink s l _ n

@[simp] theorem begun_hold (l : Link) (kind tag : Nat) (s : State) (n : Nat) : (begun l kind tag s).hold n = s.hold n := by
  simp [State.hold]

@[simp] theorem begun_lowestFreeHoldSlot (l : Link) (kind tag : Nat) (s : State) :
    (begun l kind tag s).lowestFreeHoldSlot = s.lowestFreeHoldSlot := by simp [State.lowestFreeHoldSlot]

theorem begun_setHoldSlot (l : Link) (kind tag : Nat) (s : State) (n : Nat) (x : HoldSlot) :
    (begun l kind tag s).setHoldSlot n x = begun l kind tag (s.setHoldSlot n x) := by
  simp [begun, setHoldSlot_setLink]

/-! ## The checks that a trading part, a TRADING shop, an ACTIVE card and a current reference pass -/

/-- 10 R172: a part that trades takes every terminal request on either link. -/
theorem modeCheck_of_trades {l : Link} {kind : Nat} {s : State} (ht : trades s = true) (hk : terminalKind kind = true) :
    linkAndModeCheck l kind s = none := by
  simp only [trades, storeValid, Bool.and_eq_true, decide_eq_true_eq, Bool.not_eq_true'] at ht
  obtain ⟨⟨hstore, hinit⟩, hmode⟩ := ht
  have hne : kind ≠ 0x75 := by
    rintro rfl
    simp [terminalKind] at hk
  exact (modeCheck_none l kind s).2 ⟨.inr hk, hinit, .inl hstore, .inl hmode, .inr hne⟩

theorem mustTrade_of_trading {s : State} {shop : Nat} (h : (s.shop shop).state = .trading) : mustTrade s shop = none := by
  simp [mustTrade, h]

theorem mustBeActive_of_active {c : Card} (h : c.state = .active) : mustBeActive c = none := by simp [mustBeActive, h]

theorem hold_of_placed {s : State} {n : Nat} {h : Hold} (hh : (s.holdSlot n).hold = some h) : s.hold n = h := by
  simp [State.hold, hh]

/-- 02 R27: a reference with the slot's own generation names the hold PLACED there. -/
theorem resolveHold_current {s : State} {n : Nat} {h : Hold} (hn : n < 1024) (hh : (s.holdSlot n).hold = some h) :
    resolveHold s n (s.holdSlot n).gen = none := by
  simp [resolveHold, hn, hh]

theorem sameShop_of_defined {s : State} {n shop : Nat} (hs : shop = (s.hold n).shop) (hd : (s.shop shop).state ≠ .unused) :
    sameShop s n shop = none := by
  simpa [sameShop] using ⟨hs, hd⟩

theorem resolveHold_begun (l : Link) (kind tag : Nat) (s : State) (n gen : Nat) :
    resolveHold (begun l kind tag s) n gen = resolveHold s n gen := by simp [resolveHold]

theorem mustTrade_begun (l : Link) (kind tag : Nat) (s : State) (shop : Nat) :
    mustTrade (begun l kind tag s) shop = mustTrade s shop := by simp [mustTrade]

theorem sameShop_begun (l : Link) (kind tag : Nat) (s : State) (n shop : Nat) :
    sameShop (begun l kind tag s) n shop = sameShop s n shop := by simp [sameShop]

/-! ## How a rule and a taken request end -/

/-- A rule changes nothing, or has its effect after every check has passed. -/
theorem ruled_cases (cs : List Check) (e : Done) (s : State) :
    (ruled cs e s).state = s ∨ (firstFailing cs = none ∧ ruled cs e s = e) := by
  cases h : firstFailing cs with
  | none => exact .inr ⟨rfl, ruled_pass h⟩
  | some a => exact .inl (by rw [ruled_fail h, answered])

/-- What a request on a ready link makes of a hold slot is nothing, or what its rule makes of it. -/
theorem request_holdSlot {c : Instr} {rule : State → Done} {s t : State} (hr : ready (requestLink c) s = true)
    (ht : takeRequest c rule s = .next t) (n : Nat) :
    t.holdSlot n = s.holdSlot n ∨
      t.holdSlot n = (rule (begun (requestLink c) (requestFrame c).kind (requestFrame c).tag s)).state.holdSlot n := by
  rw [takeRequest_ready hr, Host.Outcome.next.injEq] at ht
  subst ht
  cases h : linkAndModeCheck (requestLink c) (requestFrame c).kind s with
  | none => exact .inr (by rw [carryOut_pass (by simpa using h), State.holdSlot, finish_holds, State.holdSlot])
  | some a => exact .inl (by rw [carryOut_fail (by simpa using h), placeReply_begun, State.holdSlot, replied_holds, State.holdSlot])

/-! ## PLACE_HOLD -/

theorem exec_placeHold (l : Link) (tag id shop amount : Nat) (part : Bool) (ref : Nat) (s : State) :
    exec (.placeHold l tag id shop amount part ref) s =
      takeRequest (.placeHold l tag id shop amount part ref) (placeRule id shop amount part ref) s := rfl

/-- 02 R23, R29: the shared checks pass for fields in range, a TRADING shop and an ACTIVE card. -/
theorem takingChecks_pass {id shop amount : Nat} {c : Card} {s : State} (hid : cardIdOk id = true) (hshop : shopOk shop = true)
    (ham : amountOk amount = true) (ht : (s.shop shop).state = .trading) (hc : s.card? id = some c) (ha : c.state = .active) :
    takingChecks id shop amount s = [none, none, none, none] := by
  simp [takingChecks, require, hid, hshop, ham, hc, card_of_card? hc, mustTrade_of_trading ht, mustBeActive_of_active ha]

theorem takingChecks_begun (l : Link) (kind tag id shop amount : Nat) (s : State) :
    takingChecks id shop amount (begun l kind tag s) = takingChecks id shop amount s := by
  simp [takingChecks, mustTrade_begun]

/-- 02 R29: past the shared checks and the card's own limit, a full table is the first check to fail. -/
theorem placeChecks_full {id shop amount : Nat} {part : Bool} {s : State}
    (htake : takingChecks id shop amount s = [none, none, none, none]) (hlen : (s.card id).holds.length < 4)
    (hfull : 1024 ≤ s.lowestFreeHoldSlot) :
    firstFailing (placeChecks id shop amount part s) = some ⟨.holdTableFull, []⟩ := by
  simp [placeChecks, htake, require, hlen, Nat.not_lt.2 hfull]

/-- 02 R30: the effect writes one slot, the lowest FREE one. -/
theorem placeEffect_holdSlot_other {id shop amount ref n : Nat} {s : State} (hn : n ≠ s.lowestFreeHoldSlot) :
    (placeEffect id shop amount ref s).state.holdSlot n = s.holdSlot n := by
  simp [placeEffect, holdSlot_setHoldSlot, hn]

/-- 02 R28: PLACE_HOLD writes no slot but the lowest FREE one, and only where that is one of the 1,024. -/
theorem placeRule_holdSlot (id shop amount : Nat) (part : Bool) (ref : Nat) (s : State) (n : Nat) :
    (placeRule id shop amount part ref s).state.holdSlot n = s.holdSlot n ∨ (n = s.lowestFreeHoldSlot ∧ n < 1024) := by
  rcases ruled_cases (placeChecks id shop amount part s) (placeEffect id shop amount ref s) s with hsame | ⟨hpass, heff⟩
  · exact .inl (by rw [placeRule, hsame])
  · by_cases hn : n = s.lowestFreeHoldSlot
    · have hroom := (firstFailing_none _).1 hpass (require (s.lowestFreeHoldSlot < Config.holdSlots) .holdTableFull)
        (by simp [placeChecks])
      exact .inr ⟨hn, by simpa [hn] using hroom⟩
    · exact .inl (by rw [placeRule, heff, placeEffect_holdSlot_other hn])

/-- 02 R28: the request as a whole, whichever way it ends. -/
theorem placeHold_holdSlot {l : Link} {tag id shop amount : Nat} {part : Bool} {ref : Nat} {s t : State} (hr : ready l s = true)
    (ht : exec (.placeHold l tag id shop amount part ref) s = .next t) (n : Nat) :
    t.holdSlot n = s.holdSlot n ∨ (n = s.lowestFreeHoldSlot ∧ n < 1024) := by
  rw [exec_placeHold] at ht
  rcases request_holdSlot (c := .placeHold l tag id shop amount part ref) hr ht n with hsame | hrule
  · exact .inl hsame
  · have hslot := placeRule_holdSlot id shop amount part ref (begun l 0x14 tag s) n
    rw [begun_holdSlot, begun_lowestFreeHoldSlot] at hslot
    rw [hrule]
    exact hslot

/-- 02 R28: a PLACE_HOLD that finds no slot FREE is refused. -/
theorem placeHold_full {l : Link} {tag id shop amount : Nat} {part : Bool} {ref : Nat} {c : Card} {s : State}
    (hr : ready l s = true) (htr : trades s = true) (htake : takingChecks id shop amount s = [none, none, none, none])
    (hc : s.card? id = some c) (hlen : c.holds.length < 4) (hfull : 1024 ≤ s.lowestFreeHoldSlot) :
    exec (.placeHold l tag id shop amount part ref) s = .next (replied l 0x14 tag ⟨.holdTableFull, []⟩ s) := by
  refine request_replies (c := .placeHold l tag id shop amount part ref) hr (modeCheck_of_trades htr rfl) (ruled_fail ?_)
  apply placeChecks_full
  · rw [takingChecks_begun, htake]
  · rw [begun_card, card_of_card? hc]
    exact hlen
  · rwa [begun_lowestFreeHoldSlot]

/-- Settles O25: the search for the lowest FREE slot is the least number missing among the PLACED ones, and PLACE_HOLD writes that
slot or none. -/
theorem lowestFreeSlotIsAllocated : Obligations.LowestFreeSlotIsAllocated := by
  refine ⟨fun s hf => ⟨lowestFreeHoldSlot_free hf, fun m hm => placed_of_lt_lowestFreeHoldSlot hf hm⟩,
    fun s u hs hu h => lowestFreeHoldSlot_congr hs hu h, ?_, ?_⟩
  · intro l tag id shop amount part ref c s hr htr hid hshop ham hst hc hact hlen hf hfull
    exact placeHold_full hr htr (takingChecks_pass hid hshop ham hst hc hact) hc hlen (lowestFreeHoldSlot_of_full hf hfull)
  · intro l tag id shop amount part ref s t hr ht n hfree hplaced
    rcases placeHold_holdSlot hr ht n with hsame | hlow
    · exact absurd (hsame ▸ hfree) hplaced
    · exact hlow

/-! ## EXTEND_HOLD -/

theorem exec_extendHold (l : Link) (tag n gen shop : Nat) (s : State) :
    exec (.extendHold l tag n gen shop) s = takeRequest (.extendHold l tag n gen shop) (extendRule n gen shop) s := rfl

/-- 02 R40: every check passes for the current reference of a hold with an extension left, at its TRADING shop, on an ACTIVE card. -/
theorem extendChecks_pass {n shop : Nat} {h : Hold} {c : Card} {s : State} (hok : shopOk shop = true) (hn : n < 1024)
    (hh : (s.holdSlot n).hold = some h) (hs : h.shop = shop) (ht : (s.shop shop).state = .trading)
    (hc : s.card? h.card = some c) (ha : c.state = .active) (hx : h.extensions < 3) :
    firstFailing (extendChecks n (s.holdSlot n).gen shop s) = none := by
  have hhold := hold_of_placed hh
  have hsame : sameShop s n shop = none := sameShop_of_defined (by rw [hhold, hs]) (by simp [ht])
  simp [extendChecks, require, hok, hx, resolveHold_current hn hh, hsame, mustTrade_of_trading ht, hhold, card_of_card? hc,
    mustBeActive_of_active ha]

theorem extendChecks_begun (l : Link) (kind tag n gen shop : Nat) (s : State) :
    extendChecks n gen shop (begun l kind tag s) = extendChecks n gen shop s := by
  simp [extendChecks, resolveHold_begun, sameShop_begun, mustTrade_begun]

/-- 02 R41: the effect writes the slot alone, so it keeps the request in progress. -/
theorem extendEffect_begun (l : Link) (kind tag n shop : Nat) (s : State) :
    extendEffect n shop (begun l kind tag s) =
      { extendEffect n shop s with state := begun l kind tag (extendEffect n shop s).state } := by
  simp [extendEffect, extendedHold, okay, begun_setHoldSlot]

/-- 02 R41: the effect on a PLACED slot, and its answer. -/
theorem extendEffect_of_placed {n shop : Nat} {h : Hold} {s : State} (hh : (s.holdSlot n).hold = some h) :
    extendEffect n shop s =
      okay (s.setHoldSlot n { s.holdSlot n with hold := some (extendedHold s shop h) })
        [.u16 (extendedHold s shop h).remaining, .u8 (extendedHold s shop h).extensions] := by
  simp [extendEffect, hold_of_placed hh]

/-- Settles O30: every check passes, and the effect writes the extended hold into its slot and nothing else. -/
theorem extensionAddsTheLifetime : Obligations.ExtensionAddsTheLifetime := by
  intro l tag n shop h c s hr htr hok hn hh hs hst hc hact hx r
  refine request_replies (c := .extendHold l tag n (s.holdSlot n).gen shop)
    (u := s.setHoldSlot n { s.holdSlot n with hold := some (extendedHold s shop h) }) hr (modeCheck_of_trades htr rfl) ?_
  have hpass := extendChecks_pass hok hn hh hs hst hc hact hx
  rw [extendRule, ruled_pass (by rw [extendChecks_begun, hpass]), extendEffect_begun, extendEffect_of_placed hh]
  rfl

end Sys2Proof.Proofs.HoldSlots
end

section
/-! The two links apart from the rest: what an operation does to every other block does not depend on what stands on the links, and what
it does to the links is to give notices. -/

namespace Sys2Proof.Proofs.Links

open Sys2Proof Sys2Proof.Machine Sys2Proof.Laws

/-! ## The state with other links -/

/-- The state with the T-link and the A-link replaced. -/
def withLinks (k k' : LinkState) (s : State) : State := { s with tLink := k, aLink := k' }

@[simp] theorem withLinks_self (s : State) : withLinks s.tLink s.aLink s = s := rfl

@[simp] theorem withLinks_withLinks (k k' j j' : LinkState) (s : State) :
    withLinks k k' (withLinks j j' s) = withLinks k k' s := rfl

@[simp] theorem withLinks_tLink (k k' : LinkState) (s : State) : (withLinks k k' s).tLink = k := rfl

@[simp] theorem withLinks_aLink (k k' : LinkState) (s : State) : (withLinks k k' s).aLink = k' := rfl

/-- Writing one link is replacing the links. -/
theorem setLink_eq_withLinks (l : Link) (k : LinkState) (s : State) :
    s.setLink l k = withLinks (match l with | .t => k | .a => s.tLink) (match l with | .t => s.aLink | .a => k) s := by
  cases l <;> rfl

/-! ## Notices -/

/-- Whether a route leads to a link. -/
def reaches (l : Link) (r : Route) : Bool :=
  match l, r with
  | .t, .tLink => true
  | .t, .both => true
  | .a, .aLink => true
  | .a, .both => true
  | _, _ => false

/-- One link after a notice, by the routes and whether a RESTART drains. -/
def hear (d : Bool) (r : Routes) (l : Link) (k : LinkState) (n : Notice) : LinkState :=
  if !d && reaches l (routeFor r n.cls) then queueNotice k n else k

/-- 11 R188: a notice acts on each link for itself. -/
theorem giveNotice_eq (n : Notice) (s : State) :
    giveNotice n s =
      withLinks (hear s.ctrl.draining s.routes .t s.tLink n) (hear s.ctrl.draining s.routes .a s.aLink n) s := by
  unfold giveNotice hear
  cases hd : s.ctrl.draining
  · cases hr : routeFor s.routes n.cls <;> simp [reaches, withLinks]
  · simp

/-- 11 R188: notices act on each link for itself. -/
theorem giveNotices_eq (ns : List Notice) (s : State) :
    giveNotices ns s =
      withLinks (ns.foldl (hear s.ctrl.draining s.routes .t) s.tLink) (ns.foldl (hear s.ctrl.draining s.routes .a) s.aLink) s := by
  induction ns generalizing s with
  | nil => rfl
  | cons n ns ih =>
    have h : giveNotices (n :: ns) s = giveNotices ns (giveNotice n s) := rfl
    rw [h, ih, giveNotice_eq]
    rfl

@[simp] theorem giveNotices_nil (s : State) : giveNotices [] s = s := rfl

theorem giveNotices_cons (n : Notice) (ns : List Notice) (s : State) :
    giveNotices (n :: ns) s = giveNotices ns (giveNotice n s) := rfl

theorem giveNotices_append (ns ms : List Notice) (s : State) : giveNotices (ns ++ ms) s = giveNotices ms (giveNotices ns s) := by
  simp [giveNotices]

/-! ## Operations that leave the links alone -/

/-- An operation that neither reads nor writes the links. -/
def Carries (F : State → State) : Prop := ∀ k k' s, F (withLinks k k' s) = withLinks k k' (F s)

/-- A figure that is not read from the links. -/
def LinkFree {α : Type} (f : State → α) : Prop := ∀ k k' s, f (withLinks k k' s) = f s

theorem Carries.tLink {F : State → State} (h : Carries F) (s : State) : (F s).tLink = s.tLink := by
  conv_lhs => rw [← withLinks_self s, h]
  rfl

theorem Carries.aLink {F : State → State} (h : Carries F) (s : State) : (F s).aLink = s.aLink := by
  conv_lhs => rw [← withLinks_self s, h]
  rfl

theorem Carries.link {F : State → State} (h : Carries F) (s : State) (l : Link) : (F s).link l = s.link l := by
  cases l
  · exact h.tLink s
  · exact h.aLink s

theorem Carries.setLink {F : State → State} (h : Carries F) (l : Link) (k : LinkState) (s : State) :
    F (s.setLink l k) = (F s).setLink l k := by
  rw [setLink_eq_withLinks, h, setLink_eq_withLinks, h.tLink, h.aLink]

theorem Carries.begun {F : State → State} (h : Carries F) (l : Link) (kind tag : Nat) (s : State) :
    F (begun l kind tag s) = begun l kind tag (F s) := by
  rw [Machine.begun, h.setLink, Machine.begun, h.link]

theorem LinkFree.setLink {α : Type} {f : State → α} (h : LinkFree f) (l : Link) (k : LinkState) (s : State) :
    f (s.setLink l k) = f s := by rw [setLink_eq_withLinks, h]

theorem LinkFree.begun {α : Type} {f : State → α} (h : LinkFree f) (l : Link) (kind tag : Nat) (s : State) :
    f (begun l kind tag s) = f s := h.setLink l _ s

theorem LinkFree.giveNotices {α : Type} {f : State → α} (h : LinkFree f) (ns : List Notice) (s : State) :
    f (giveNotices ns s) = f s := by rw [giveNotices_eq, h]

/-- An operation that leaves the links alone, and what decides where notices go. -/
structure Silent (F : State → State) : Prop where
  carries : Carries F
  draining : ∀ s, (F s).ctrl.draining = s.ctrl.draining
  routes : ∀ s, (F s).routes = s.routes

theorem Silent.id : Silent (fun s => s) := ⟨fun _ _ _ => rfl, fun _ => rfl, fun _ => rfl⟩

theorem Silent.comp {F G : State → State} (hF : Silent F) (hG : Silent G) : Silent (fun s => F (G s)) :=
  ⟨fun k k' s => by rw [hG.carries, hF.carries], fun s => by rw [hF.draining, hG.draining], fun s => by rw [hF.routes, hG.routes]⟩

/-- Such an operation may be chosen by a figure that is not read from the links. -/
theorem Silent.of_cases {α : Type} {f : State → α} {F : α → State → State} (hf : LinkFree f) (hF : ∀ a, Silent (F a)) :
    Silent (fun s => F (f s) s) :=
  ⟨fun k k' s => by rw [hf, (hF _).carries], fun s => (hF _).draining s, fun s => (hF _).routes s⟩

theorem Silent.foldl {α : Type} {f : State → α → State} (h : ∀ a, Silent (fun s => f s a)) (l : List α) :
    Silent (fun s => l.foldl f s) := by
  induction l with
  | nil => exact Silent.id
  | cons a l ih => exact ih.comp (h a)

/-- Notices and an operation that leaves the links alone may change places. -/
theorem Silent.giveNotices {F : State → State} (h : Silent F) (ns : List Notice) (s : State) :
    F (giveNotices ns s) = giveNotices ns (F s) := by
  rw [giveNotices_eq, h.carries, giveNotices_eq, h.draining, h.routes, h.carries.tLink, h.carries.aLink]

/-! ## Operations that give notices -/

/-- `F` does what `G` does, which leaves the links alone, and gives the notices `N`. -/
structure Notifies (F G : State → State) (N : State → List Notice) : Prop where
  eq : ∀ s, F s = giveNotices (N s) (G s)
  silent : Silent G
  news : LinkFree N

theorem Silent.notifies {F : State → State} (h : Silent F) : Notifies F F (fun _ => []) := ⟨fun _ => rfl, h, fun _ _ _ => rfl⟩

theorem Notifies.comp {F G F' G' : State → State} {N N' : State → List Notice} (h : Notifies F G N) (h' : Notifies F' G' N') :
    Notifies (fun s => F (F' s)) (fun s => G (G' s)) (fun s => N' s ++ N (G' s)) where
  eq s := by rw [h.eq, h'.eq, h.news.giveNotices, h.silent.giveNotices, giveNotices_append]
  silent := h.silent.comp h'.silent
  news k k' s := by
    change N' _ ++ N (G' _) = _
    rw [h'.news, h'.silent.carries, h.news]

theorem Notifies.foldl {α : Type} {f g : State → α → State} {N : State → α → List Notice}
    (h : ∀ a, Notifies (fun s => f s a) (fun s => g s a) (fun s => N s a)) (l : List α) :
    ∃ M, Notifies (fun s => l.foldl f s) (fun s => l.foldl g s) M := by
  induction l with
  | nil => exact ⟨_, Silent.id.notifies⟩
  | cons a l ih =>
    obtain ⟨M, hM⟩ := ih
    exact ⟨_, hM.comp (h a)⟩

/-- An operation that gives notices acts alike while a request is in progress. -/
theorem Notifies.begun {F G : State → State} {N : State → List Notice} (h : Notifies F G N) (l : Link) (kind tag : Nat) (s : State) :
    F (begun l kind tag s) = giveNotices (N s) (begun l kind tag (G s)) := by
  rw [h.eq, h.news.begun, h.silent.carries.begun]

/-! ## The record writes -/

theorem silent_setCard (id : Nat) {c : State → Card} (h : LinkFree c) : Silent (fun s => s.setCard id (c s)) :=
  ⟨fun k k' s => by rw [h]; rfl, fun _ => rfl, fun _ => rfl⟩

theorem silent_setHoldSlot {n : State → Nat} {x : State → HoldSlot} (hn : LinkFree n) (h : LinkFree x) :
    Silent (fun s => s.setHoldSlot (n s) (x s)) :=
  ⟨fun k k' s => by rw [h, hn]; rfl, fun _ => rfl, fun _ => rfl⟩

theorem silent_setPool (p : Nat) {x : State → Pool} (h : LinkFree x) : Silent (fun s => s.setPool p (x s)) :=
  ⟨fun k k' s => by rw [h]; rfl, fun _ => rfl, fun _ => rfl⟩

theorem silent_setShop (i : Nat) {x : State → Shop} (h : LinkFree x) : Silent (fun s => s.setShop i (x s)) :=
  ⟨fun k k' s => by rw [h]; rfl, fun _ => rfl, fun _ => rfl⟩

theorem silent_setChannel (n : Nat) {x : State → Channel} (h : LinkFree x) : Silent (fun s => s.setChannel n (x s)) :=
  ⟨fun k k' s => by rw [h]; rfl, fun _ => rfl, fun _ => rfl⟩

/-! ## Holds, entries and postings -/

theorem silent_addPending (p a : Nat) : Silent (addPending p a) := silent_setPool p (fun _ _ _ => rfl)

theorem silent_addPendings (ps : List (Nat × Nat)) : Silent (addPendings ps) := Silent.foldl (fun _ => silent_addPending _ _) ps

theorem silent_postShop (i : Nat) (d : Posting) : Silent (postShop i d) := silent_setShop i (fun _ _ _ => rfl)

theorem silent_postSponsor (k : EntryKind) (p : EntryPart) : Silent (fun s => postSponsor k s p) := by
  refine Silent.of_cases (f := fun s => (s.pool p.pool).funder)
    (F := fun o s => match o with
      | some i => if sponsorSign k = 0 then s else postShop i { sponsor := sponsorSign k * p.amount } s
      | none => s) (fun _ _ _ => rfl) (fun o => ?_)
  cases o with
  | none => exact Silent.id
  | some i =>
    by_cases hk : sponsorSign k = 0
    · simpa [hk] using Silent.id
    · simpa [hk] using silent_postShop i _

theorem silent_postPositions (e : Entry) : Silent (postPositions e) := by
  refine (Silent.foldl (silent_postSponsor e.kind) e.parts).comp ?_
  split
  · exact silent_postShop _ _
  · exact Silent.id

theorem silent_postPools (e : Entry) : Silent (postPools e) :=
  (silent_addPendings _).comp (Silent.foldl (fun _ => silent_setPool _ (fun _ _ _ => rfl)) e.parts)

/-- 05 R87: all that the writing of an entry does but the notices. -/
def entered (e : Entry) (s : State) : State := postPools e (postPositions e { s with journal := pushEntry e s.journal })

/-- 05 R87: the notices of the writing of an entry. -/
def enteredNotices (e : Entry) (s : State) : List Notice := poolLowEdges s (entered e s) ++ reserveEdge s (entered e s)

theorem silent_entered (e : Entry) : Silent (entered e) :=
  ((silent_postPools e).comp (silent_postPositions e)).comp
    (G := fun s => { s with journal := pushEntry e s.journal }) ⟨fun _ _ _ => rfl, fun _ => rfl, fun _ => rfl⟩

theorem notifies_writeEntry (e : Entry) : Notifies (writeEntry e) (entered e) (enteredNotices e) :=
  ⟨fun _ => rfl, silent_entered e, fun k k' s => by
    unfold enteredNotices
    rw [(silent_entered e).carries]
    rfl⟩

/-- An entry read from the state, which is not read from the links. -/
theorem notifies_writeEntry_of {f : State → Entry} (h : LinkFree f) :
    Notifies (fun s => writeEntry (f s) s) (fun s => entered (f s) s) (fun s => enteredNotices (f s) s) :=
  ⟨fun _ => rfl, Silent.of_cases h silent_entered, fun k k' s => by
    have := (notifies_writeEntry (f s)).news k k' s
    simpa [h k k' s] using this⟩

theorem returnPromo_withLinks (k k' : LinkState) (s : State) (ps : List PromoPart) (bs : List Bucket) :
    returnPromo (withLinks k k' s) ps bs = returnPromo s ps bs := by
  induction ps generalizing bs with
  | nil => rfl
  | cons p ps ih =>
    have hu : usable (withLinks k k' s) = usable s := rfl
    simp only [returnPromo, hu, ih]

theorem silent_endHold (n : Nat) {back : State → Split} (hb : LinkFree back) (x : LastEnd) : Silent (fun s => endHold n (back s) x s) := by
  refine ⟨fun k k' s => ?_, fun s => by simp, fun s => by simp⟩
  rw [hb]
  generalize back s = b
  have hh : (withLinks k k' s).holdSlot n = s.holdSlot n := rfl
  have hc : ∀ i, (withLinks k k' s).card? i = s.card? i := fun _ => rfl
  have hp : ∀ c, pendingOfReturn (withLinks k k' s) b c = pendingOfReturn s b c := fun c => by
    unfold pendingOfReturn
    rw [returnPromo_withLinks]
  have hr : ∀ r c, cardAfterReturn (withLinks k k' s) r b c = cardAfterReturn s r b c := fun r c => by
    unfold cardAfterReturn
    rw [returnPromo_withLinks]
  unfold endHold
  rw [hh]
  cases (s.holdSlot n).hold with
  | none => rfl
  | some h =>
    simp only [hc, hp, hr]
    cases s.card? h.card with
    | none => rfl
    | some c =>
      exact (silent_addPendings (pendingOfReturn s b c)).carries k k'
        ((s.setHoldSlot n (endedSlot (s.holdSlot n) x)).setCard h.card
          (tidyCard (s.setHoldSlot n (endedSlot (s.holdSlot n) x)) (cardAfterReturn s ⟨n, (s.holdSlot n).gen⟩ b c)))

/-! ## Closes, payouts and the release -/

theorem silent_takeClose (x : CloseCause) : Silent (takeClose x) := ⟨fun _ _ _ => rfl, fun _ => rfl, fun _ => rfl⟩

theorem silent_setPayoutState (i : Nat) (x : PayoutState) : Silent (setPayoutState i x) := silent_setShop i (fun _ _ _ => rfl)

theorem silent_setPayoutStates (is : List Nat) (x : PayoutState) : Silent (setPayoutStates is x) :=
  Silent.foldl (fun _ => silent_setPayoutState _ _) is

theorem silent_clearRuns : Silent clearRuns := Silent.foldl (fun _ => silent_setChannel _ (fun _ _ _ => rfl)) _

theorem silent_releaseShops : Silent releaseShops :=
  Silent.of_cases (f := fun s => s.period.roster) (F := fun is s => is.foldl (fun s i => s.setShop i (releaseShop (s.shop i))) s)
    (fun _ _ _ => rfl) (fun is => Silent.foldl (fun _ => silent_setShop _ (fun _ _ _ => rfl)) is)

theorem silent_takePending : Silent takePending := by
  refine Silent.of_cases (f := fun s => s.period.closePending)
    (F := fun o s => match o with
      | some cause =>
        let s1 := takeClose cause s
        { s1 with period := { s1.period with closePending := none } }
      | none => s) (fun _ _ _ => rfl) (fun o => ?_)
  cases o with
  | none => exact Silent.id
  | some x => exact ⟨fun _ _ _ => rfl, fun _ => rfl, fun _ => rfl⟩

/-- 08 R150: the channel of a run that ends. -/
def stoppedRun (c : Channel) : Channel := { c with state := .idle, cursor := none }

theorem notifies_endRun (n period : Nat) :
    Notifies (endRun n period) (fun s => s.setChannel n (stoppedRun (s.channel n)))
      (fun s => [runDoneNotice s n (s.channel n) period]) :=
  ⟨fun _ => rfl, silent_setChannel n (fun _ _ _ => rfl), fun _ _ _ => rfl⟩

/-- 07 R138: one channel at the release. -/
def stopOne (s : State) (n : Nat) : State := if (s.channel n).state = .running then s.setChannel n (stoppedRun (s.channel n)) else s

theorem silent_stopOne (n : Nat) : Silent (fun s => stopOne s n) := by
  refine Silent.of_cases (f := fun s => (s.channel n).state)
    (F := fun x s => if x = .running then s.setChannel n (stoppedRun (s.channel n)) else s) (fun _ _ _ => rfl) (fun x => ?_)
  by_cases hx : x = .running
  · simpa [hx] using silent_setChannel n (fun _ _ _ => rfl)
  · simpa [hx] using Silent.id

theorem notifies_stopOne (period n : Nat) :
    Notifies (fun s => if (s.channel n).state = .running then endRun n period s else s) (fun s => stopOne s n)
      (fun s => if (s.channel n).state = .running then [runDoneNotice s n (s.channel n) period] else []) where
  eq s := by
    unfold stopOne
    split
    · exact (notifies_endRun n period).eq s
    · rfl
  silent := silent_stopOne n
  news k k' s := rfl

/-- 07 R138: all RUNNING channels stopped. -/
def stopRuns (s : State) : State := (List.range Config.channelCount).foldl stopOne s

theorem silent_stopRuns : Silent stopRuns := Silent.foldl silent_stopOne _

theorem notifies_endRuns (period : Nat) : ∃ N, Notifies (endRuns period) stopRuns N :=
  Notifies.foldl (notifies_stopOne period) (List.range Config.channelCount)

end Sys2Proof.Proofs.Links
end

section
/-! The step, the first values, the line events, the routing of notices, and what one posting and one entry move. -/

namespace Sys2Proof.Proofs.Basics

open Sys2Proof Sys2Proof.Machine Sys2Proof.Laws Sys2Proof.Proofs.Links

/-! ## The step -/

/-- Settles O1: a step looks at the queue's front only. -/
theorem stepRunsFrontCommand : Obligations.StepRunsFrontCommand := by
  refine ⟨fun c rest s => rfl, fun s h => ?_⟩
  unfold step
  rw [h]

/-! ## The first values -/

/-- No entry, no posting and no unit of value stands at reset. -/
theorem surplus_reset : surplus State.reset = 0 := by
  have hin : valueInHands State.reset = 0 := rfl
  rw [surplus, hin]
  decide

/-- Settles O3: every table is empty at reset, so each record reads as its first value. -/
theorem resetLeavesBlocksInitialised : Obligations.ResetLeavesBlocksInitialised := by
  refine ⟨⟨rfl, fun _ => rfl, fun _ => rfl, rfl, rfl, rfl, rfl, rfl, fun _ => ⟨rfl, rfl⟩, rfl, rfl, rfl, rfl, fun _ => ⟨rfl, rfl⟩,
    rfl, rfl, rfl, rfl, rfl, rfl, rfl, rfl, surplus_reset⟩, ?_⟩
  refine ⟨⟨rfl, rfl, rfl, rfl, rfl⟩, fun _ => ⟨rfl, rfl⟩, ⟨rfl, rfl⟩, by unfold journalBounded; decide, by unfold timeBounded; decide,
    by unfold countersBounded; decide, ⟨nofun, nofun⟩, nofun, List.forall_mem_nil _,
    nofun, ⟨List.forall_mem_nil _, List.forall_mem_nil _, List.forall_mem_nil _⟩, List.forall_mem_nil _, by unfold periodsOrdered journalOrdered; decide, List.forall_mem_nil _⟩

/-! ## One posting (06 R107) -/

/-- 06 R107: the clamp as its rule states it. -/
theorem clampMoney_eq (z : Int) :
    clampMoney z = if z > 100000000000 then 100000000000 else if z < -100000000000 then -100000000000 else z := by
  simp only [clampMoney, Config.positionLimit]
  split_ifs <;> omega

theorem withinLimit_iff (z : Int) : withinLimit z = true ↔ clampMoney z = z := by
  simp only [withinLimit, clampMoney, Config.positionLimit, Bool.and_eq_true, decide_eq_true_eq]
  constructor <;> intro h <;> omega

theorem withinLimit_clampMoney (z : Int) : withinLimit (clampMoney z) = true := by
  rw [withinLimit_iff, clampMoney_eq, clampMoney_eq]
  split_ifs <;> omega

/-- 06 R107: the mark is set where it was set or where some field passes its limit. -/
theorem post_saturated (d : Posting) (p : Position) :
    (post d p).saturated = true ↔ p.saturated = true ∨ clampMoney (p.sold + d.sold) ≠ p.sold + d.sold ∨
      clampMoney (p.voided + d.voided) ≠ p.voided + d.voided ∨
      clampMoney (p.redeemedBase + d.redeemedBase) ≠ p.redeemedBase + d.redeemedBase ∨
      clampMoney (p.redeemedPromo + d.redeemedPromo) ≠ p.redeemedPromo + d.redeemedPromo ∨
      clampMoney (p.refundedBase + d.refundedBase) ≠ p.refundedBase + d.refundedBase ∨
      clampMoney (p.refundedPromo + d.refundedPromo) ≠ p.refundedPromo + d.refundedPromo ∨
      clampMoney (p.sponsor + d.sponsor) ≠ p.sponsor + d.sponsor ∨ p.count + d.count > Config.countLimit := by
  simp only [post, Bool.or_eq_true, Bool.not_eq_true', Bool.and_eq_false_iff, decide_eq_false_iff_not, ne_eq, ← withinLimit_iff,
    Bool.not_eq_true, Nat.not_le]
  tauto

/-- Settles O24: a posting writes each field's clamped sum, and its mark compares each sum with its clamp. -/
theorem postingsClampAndMark : Obligations.PostingsClampAndMark := by
  intro d p clamp q
  have hc : ∀ z, clamp z = clampMoney z := fun z => (clampMoney_eq z).symm
  simp only [hc]
  refine ⟨rfl, rfl, rfl, rfl, rfl, rfl, rfl, ?_, post_saturated d p⟩
  change min (p.count + d.count) Config.countLimit = _
  simp only [Config.countLimit]
  split_ifs <;> omega

/-! ## One entry's counters (05 R94) -/

/-- Counting up by a number of minor units. -/
theorem countBy_natCast (c : BitVec 64) (n : Nat) : countBy c (n : Int) = c + BitVec.ofNat 64 n := by
  simp [countBy]

/-- Settles O33: writing an entry moves the counters by `moveCounters` alone, kind by kind. -/
theorem countersFollowTheEntry : Obligations.CountersFollowTheEntry := by
  intro e s c base promo
  have hj : (writeEntry e s).journal.counters = moveCounters e s.journal.counters := by rw [writeEntry_journal]; rfl
  rw [hj]
  unfold moveCounters
  cases e.kind <;> simp only [countBy_natCast] <;> rfl

/-! ## Notices by their route (11 R186 to R188) -/

/-- A notice at one link, with the limit of 16 places written out. -/
theorem queueNotice_eq (k : LinkState) (n : Notice) :
    queueNotice k n =
      if 2 ≤ 16 - k.tx.length - (if k.busy.isSome then 1 else 0) then
        { k with tx := k.tx ++ [.notice (noticeCode n.cls) n.payload] }
      else { k with marks := { k.marks with noticeLost := true } } := rfl

/-- Settles O15: a notice acts on each link for itself, where its route leads there. -/
theorem noticesKeepTheLastPlace : Obligations.NoticesKeepTheLastPlace := by
  intro n s hd enter r
  have he : ∀ k, enter k = queueNotice k n := fun k => (queueNotice_eq k n).symm
  have hear_eq : ∀ (l : Link) (k : LinkState), hear s.ctrl.draining s.routes l k n = if reaches l r then queueNotice k n else k := by
    intro l k
    simp [hear, hd, r]
  rw [giveNotice_eq]
  refine ⟨?_, ?_, rfl⟩
  · rw [withLinks_tLink, hear_eq, he]
    cases r <;> simp [reaches]
  · rw [withLinks_aLink, hear_eq, he]
    cases r <;> simp [reaches]

/-! ## The line (11 R183, R186, R190) -/

/-- 11 R183: what a receiver that hunts makes of a byte. -/
theorem receiveByte_hunting (b : Byte) : receiveByte [] b = if b = 0xA5#8 then .collecting [b] else .collecting [] := by
  unfold receiveByte
  rfl

/-- 11 R183: after the sync byte, a length outside 3..243 is an error. -/
theorem receiveByte_length (b : Byte) :
    receiveByte [syncByte] b = if 3 ≤ b.toNat && b.toNat ≤ 243 then .collecting [syncByte, b] else .error := by
  unfold receiveByte
  simp

theorem exec_frameGapTimeout (l : Link) (s : State) :
    exec (.frameGapTimeout l) s = lineEvent (fun s => s.setLink l (gapAt (s.link l))) s := rfl

theorem exec_breakEnded (l : Link) (s : State) :
    exec (.breakEnded l) s = lineEvent (fun s => s.setLink l { s.link l with inBreak := false }) s := rfl

theorem exec_frameSent (l : Link) (s : State) : exec (.frameSent l) s = event (freeing sentAt l) s := rfl

theorem exec_linkReset (l : Link) (s : State) : exec (.linkReset l) s = event (freeing resetLink l) s := rfl

@[simp] theorem setLink_link_self (l : Link) (s : State) : s.setLink l (s.link l) = s := by cases l <;> rfl

/-- An action on a link that leaves it as it is, with nothing due, changes nothing. -/
theorem freeing_same {f : LinkState → LinkState} {l : Link} {s : State} (hq : quiet s = true) (hf : f (s.link l) = s.link l) :
    freeing f l s = s := by
  rw [freeing, hf, setLink_link_self, enterOffers_quiet hq]

theorem sentAt_inBreak {k : LinkState} (h : k.inBreak = true) : sentAt k = k := by simp [sentAt, h]

theorem sentAt_unbroken {k : LinkState} (h : k.inBreak = false) : sentAt k = { k with tx := k.tx.tail } := by simp [sentAt, h]

theorem resetLink_unbroken {k : LinkState} (h : k.inBreak = false) :
    resetLink k =
      { rx := [], partialRx := [], tx := [], busy := k.busy.map (fun p => { p with discard := true }), marks := clearMarks,
        cursor := .oldest, inBreak := true } := by simp [resetLink, h]

theorem resetLink_inBreak {k : LinkState} (h : k.inBreak = true) : resetLink k = k := by simp [resetLink, h]

/-- Settles O14: the CRC by evaluation, the receiver by its first two bytes, each line event by its own equation. -/
theorem linkEventsActOnTheirLink : Obligations.LinkEventsActOnTheirLink := by
  refine ⟨⟨by decide +kernel, receiveByte_length, receiveByte_hunting⟩, fun l s hp => ⟨?_, ?_, fun hq hb => ⟨?_, ?_⟩, fun hq hb => ⟨?_, ?_⟩⟩⟩
  · rw [exec_frameGapTimeout, lineEvent_power hp, gapAt]
    split_ifs <;> rfl
  · rw [exec_breakEnded, lineEvent_power hp]
  · rw [exec_frameSent, event_quiet hp hq, freeing, sentAt_unbroken hb]
  · rw [exec_linkReset, event_quiet hp hq, freeing, resetLink_unbroken hb]
  · rw [exec_linkReset, event_quiet hp hq, freeing_same hq (resetLink_inBreak hb)]
  · rw [exec_frameSent, event_quiet hp hq, freeing_same hq (sentAt_inBreak hb)]

end Sys2Proof.Proofs.Basics
end

section
/-! The bucket lists: every way of changing one keeps its order (01 R6). -/

namespace Sys2Proof.Proofs.Buckets

open Sys2Proof Sys2Proof.Machine Sys2Proof.Laws

/-- 01 R6: a bucket stands before another. -/
def Before (a b : Bucket) : Prop := a.expiry < b.expiry ∨ (a.expiry = b.expiry ∧ a.pool < b.pool)

theorem bucketsOrdered_nil : bucketsOrdered [] := ⟨List.Pairwise.nil, by simp⟩

theorem bucketsOrdered_sublist {bs cs : List Bucket} (h : bucketsOrdered bs) (hs : cs.Sublist bs) : bucketsOrdered cs :=
  ⟨h.1.sublist hs, hs.length_le.trans h.2⟩

/-- A change of amounts keeps the order. -/
theorem bucketsOrdered_map {bs : List Bucket} (f : Bucket → Bucket) (hp : ∀ b, (f b).pool = b.pool) (hd : ∀ b, (f b).expiry = b.expiry)
    (h : bucketsOrdered bs) : bucketsOrdered (bs.map f) := by
  refine ⟨List.pairwise_map.2 (h.1.imp ?_), by simpa using h.2⟩
  intro a b hab
  simpa [hp, hd] using hab

theorem bucketsOrdered_tidy {bs : List Bucket} (held : List PromoPart) (h : bucketsOrdered bs) : bucketsOrdered (tidy held bs) :=
  bucketsOrdered_sublist h List.filter_sublist

theorem bucketsOrdered_merge {bs : List Bucket} (p d a : Nat) (h : bucketsOrdered bs) : bucketsOrdered (mergeBucket p d a bs) :=
  bucketsOrdered_map _ (fun b => by split <;> rfl) (fun b => by split <;> rfl) h

theorem mem_insertBucket {x b : Bucket} {bs : List Bucket} : b ∈ insertBucket x bs ↔ b = x ∨ b ∈ bs := by
  induction bs with
  | nil => simp [insertBucket]
  | cons c cs ih =>
    unfold insertBucket
    split
    · simp
    · simp only [List.mem_cons, ih]
      tauto

theorem length_insertBucket (x : Bucket) (bs : List Bucket) : (insertBucket x bs).length = bs.length + 1 := by
  induction bs with
  | nil => rfl
  | cons c cs ih =>
    unfold insertBucket
    split <;> simp [ih]

theorem hasBucket_false_iff (p d : Nat) (bs : List Bucket) : hasBucket p d bs = false ↔ ∀ b ∈ bs, ¬(b.pool = p ∧ b.expiry = d) := by
  simp [hasBucket]

theorem hasBucket_true_iff (p d : Nat) (bs : List Bucket) : hasBucket p d bs = true ↔ ∃ b ∈ bs, b.pool = p ∧ b.expiry = d := by
  simp [hasBucket]

/-- A bucket that the list has not yet is inserted in its place. -/
theorem pairwise_insertBucket {x : Bucket} {bs : List Bucket} (hx : ∀ b ∈ bs, ¬(b.pool = x.pool ∧ b.expiry = x.expiry))
    (h : bs.Pairwise Before) : (insertBucket x bs).Pairwise Before := by
  induction bs with
  | nil => simp [insertBucket]
  | cons c cs ih =>
    obtain ⟨hlt, hcs⟩ := List.pairwise_cons.1 h
    unfold insertBucket
    split
    · rename_i hb
      have hxc : Before x c := by
        simp only [Bool.or_eq_true, Bool.and_eq_true, decide_eq_true_eq] at hb
        exact hb
      refine List.pairwise_cons.2 ⟨fun b hb' => ?_, h⟩
      rcases List.mem_cons.1 hb' with rfl | hb'
      · exact hxc
      · have := hlt b hb'
        simp only [Before] at *
        omega
    · rename_i hb
      have hcx : Before c x := by
        have hne := hx c List.mem_cons_self
        simp only [Bool.or_eq_true, Bool.and_eq_true, decide_eq_true_eq] at hb
        simp only [Before]
        omega
      refine List.pairwise_cons.2 ⟨fun b hb' => ?_, ih (fun b hb' => hx b (List.mem_cons_of_mem _ hb')) hcs⟩
      rcases mem_insertBucket.1 hb' with rfl | hb'
      · exact hcx
      · exact hlt b hb'

/-- 01 R6: a credit keeps the order. -/
theorem bucketsOrdered_credit {p d a : Nat} {bs bs' : List Bucket} (hc : credit p d a bs = some bs') (h : bucketsOrdered bs) :
    bucketsOrdered bs' := by
  unfold credit at hc
  split at hc
  · obtain rfl := Option.some.inj hc
    exact bucketsOrdered_merge p d a h
  · rename_i hb
    split at hc
    · rename_i hl
      obtain rfl := Option.some.inj hc
      have hno := (hasBucket_false_iff p d bs).1 (by simpa using hb)
      exact ⟨pairwise_insertBucket hno h.1, by rw [length_insertBucket]; exact hl⟩
    · exact absurd hc (by simp)

theorem bucketsOrdered_credit_getD {p d a : Nat} {bs : List Bucket} (h : bucketsOrdered bs) :
    bucketsOrdered ((credit p d a bs).getD bs) := by
  cases hc : credit p d a bs with
  | none => exact h
  | some bs' => exact bucketsOrdered_credit hc h

/-- 01 R10: the walk leaves every bucket in its place. -/
theorem walkSplit_places (s : State) (shop a : Nat) (bs : List Bucket) :
    List.Forall₂ (fun b b' => b'.pool = b.pool ∧ b'.expiry = b.expiry) bs (walkSplit s shop a bs).2.2 := by
  induction bs generalizing a with
  | nil => exact List.Forall₂.nil
  | cons b bs ih =>
    unfold walkSplit
    split
    · exact List.Forall₂.cons ⟨rfl, rfl⟩ (ih _)
    · exact List.Forall₂.cons ⟨rfl, rfl⟩ (ih _)

/-- Lists with the same buckets in the same places are in order together. -/
theorem bucketsOrdered_places {bs cs : List Bucket} (h : List.Forall₂ (fun b b' => b'.pool = b.pool ∧ b'.expiry = b.expiry) bs cs)
    (ho : bucketsOrdered bs) : bucketsOrdered cs := by
  have hkeys : cs.map (fun b => (b.pool, b.expiry)) = bs.map (fun b => (b.pool, b.expiry)) := by
    induction h with
    | nil => rfl
    | cons hbc _ ih => simp [hbc.1, hbc.2, ih (bucketsOrdered_sublist ho (List.sublist_cons_self _ _))]
  have hpair : ∀ xs : List Bucket, xs.Pairwise Before ↔
      (xs.map (fun b => (b.pool, b.expiry))).Pairwise (fun a b => a.2 < b.2 ∨ (a.2 = b.2 ∧ a.1 < b.1)) := fun xs => by
    rw [List.pairwise_map]
    rfl
  refine ⟨(hpair cs).2 (hkeys ▸ (hpair bs).1 ho.1), ?_⟩
  have := congrArg List.length hkeys
  simp only [List.length_map] at this
  rw [this]
  exact ho.2

theorem bucketsOrdered_walkSplit {bs : List Bucket} (s : State) (shop a : Nat) (h : bucketsOrdered bs) :
    bucketsOrdered (walkSplit s shop a bs).2.2 := bucketsOrdered_places (walkSplit_places s shop a bs) h

theorem bucketsOrdered_returnPromo {bs : List Bucket} (s : State) (ps : List PromoPart) (h : bucketsOrdered bs) :
    bucketsOrdered (returnPromo s ps bs).1 := by
  induction ps generalizing bs with
  | nil => exact h
  | cons p ps ih =>
    unfold returnPromo
    split
    · rename_i bs' hm
      split at hm
      · exact ih (bucketsOrdered_credit hm h)
      · exact absurd hm (by simp)
    · exact ih h

theorem bucketsOrdered_placeShare {s : State} {q d a : Nat} {bs : List Bucket} {x : Nat × List Bucket}
    (hx : placeShare s q d a bs = some x) (h : bucketsOrdered bs) : bucketsOrdered x.2 := by
  unfold placeShare at hx
  split at hx
  · split at hx
    · rename_i bs' hc
      obtain rfl := Option.some.inj hx
      exact bucketsOrdered_credit hc h
    · obtain ⟨b, -, rfl⟩ := Option.map_eq_some_iff.1 hx
      exact bucketsOrdered_merge _ _ _ h
  · exact absurd hx (by simp)

theorem bucketsOrdered_placeShares {bs : List Bucket} (s : State) (xs : List (EntryPart × Nat)) (h : bucketsOrdered bs) :
    bucketsOrdered (placeShares s xs bs).2 := by
  induction xs generalizing bs with
  | nil => exact h
  | cons x xs ih =>
    obtain ⟨p, a⟩ := x
    unfold placeShares
    split
    · exact ih h
    · split
      · rename_i y hy
        exact ih (bucketsOrdered_placeShare hy h)
      · exact ih h

theorem bucketsOrdered_withoutBonus {bs : List Bucket} (e : Entry) (h : bucketsOrdered bs) : bucketsOrdered (withoutBonus e bs) := by
  unfold withoutBonus
  split
  · exact bucketsOrdered_map _ (fun b => by split <;> rfl) (fun b => by split <;> rfl) h
  · exact h

end Sys2Proof.Proofs.Buckets
end

section
/-! The bounds that every operation keeps: the tables' form, the bucket order, the positions, the registers, the queues. -/

namespace Sys2Proof.Proofs.Bounds

open Sys2Proof Sys2Proof.Machine Sys2Proof.Laws Sys2Proof.Proofs.Links Sys2Proof.Proofs.Buckets Sys2Proof.Proofs.Basics

/-! ## The relation -/

/-- What an operation that takes `s` to `t` keeps, each bound for itself; the clock's only under `W` (that the command is well formed). -/
structure Held (W : Prop) (s t : State) : Prop where
  pending : t.pending = s.pending
  cards : tableRising s.cards = true → tableRising t.cards = true
  ordered : cardsOrdered s → cardsOrdered t
  holds : tableCanonical freeHoldSlot s.holds = true → tableCanonical freeHoldSlot t.holds = true
  pools : tableCanonical emptyPool s.pools = true → tableCanonical emptyPool t.pools = true
  shops : tableCanonical unusedShop s.shops = true → tableCanonical unusedShop t.shops = true
  channels : tableCanonical idleChannel s.channels = true → tableCanonical idleChannel t.channels = true
  positions : positionsBounded s → positionsBounded t
  journal : journalBounded s → journalBounded t
  time : W → timeBounded s → timeBounded t
  counters : countersBounded s → countersBounded t
  mode : modeLegal s → modeLegal t
  tLink : linkBounded s.tLink = true → linkBounded t.tLink = true
  aLink : linkBounded s.aLink = true → linkBounded t.aLink = true

/-- The same, and that a close waits only behind a busy record, which the release breaks and restores within one action. -/
structure Safe (W : Prop) (s t : State) : Prop extends Held W s t where
  pendingClose : pendingCloseBusy s → pendingCloseBusy t

variable {W : Prop}

theorem Held.refl (s : State) : Held W s s :=
  ⟨rfl, id, id, id, id, id, id, id, id, fun _ => id, id, id, id, id⟩

theorem Held.trans {s t u : State} (h : Held W s t) (h' : Held W t u) : Held W s u where
  pending := h'.pending.trans h.pending
  cards := h'.cards ∘ h.cards
  ordered := h'.ordered ∘ h.ordered
  holds := h'.holds ∘ h.holds
  pools := h'.pools ∘ h.pools
  shops := h'.shops ∘ h.shops
  channels := h'.channels ∘ h.channels
  positions := h'.positions ∘ h.positions
  journal := h'.journal ∘ h.journal
  time := fun w => h'.time w ∘ h.time w
  counters := h'.counters ∘ h.counters
  mode := h'.mode ∘ h.mode
  tLink := h'.tLink ∘ h.tLink
  aLink := h'.aLink ∘ h.aLink

theorem Safe.refl (s : State) : Safe W s s := ⟨Held.refl s, id⟩

theorem Safe.trans {s t u : State} (h : Safe W s t) (h' : Safe W t u) : Safe W s u :=
  ⟨h.toHeld.trans h'.toHeld, h'.pendingClose ∘ h.pendingClose⟩

/-- The same, the later operation first: it names the state between. -/
theorem Safe.after {s t u : State} (h' : Safe W t u) (h : Safe W s t) : Safe W s u := h.trans h'

theorem safe_foldl {α : Type} {f : State → α → State} (h : ∀ s a, Safe W s (f s a)) (l : List α) (s : State) : Safe W s (l.foldl f s) := by
  induction l generalizing s with
  | nil => exact Safe.refl s
  | cons a l ih => exact (h s a).trans (ih _)

theorem Safe.tables {s t : State} (h : Safe W s t) (hs : tablesFormed s) : tablesFormed t :=
  ⟨h.cards hs.1, h.holds hs.2.1, h.pools hs.2.2.1, h.shops hs.2.2.2.1, h.channels hs.2.2.2.2⟩

/-! ## The links -/

theorem safe_withLinks {s : State} {k k' : LinkState} (h : linkBounded s.tLink = true → linkBounded k = true)
    (h' : linkBounded s.aLink = true → linkBounded k' = true) : Safe W s (withLinks k k' s) :=
  { Safe.refl s with tLink := h, aLink := h' }

theorem safe_setLink {s : State} {l : Link} {k : LinkState} (h : linkBounded (s.link l) = true → linkBounded k = true) :
    Safe W s (s.setLink l k) := by
  cases l
  · exact { Safe.refl s with tLink := h }
  · exact { Safe.refl s with aLink := h }

theorem linkBounded_iff (k : LinkState) :
    linkBounded k = true ↔ k.rx.length ≤ 8 ∧ k.tx.length + (if k.busy.isSome then 1 else 0) ≤ 16 := by
  simp [linkBounded, Config.rxPlaces, Config.txPlaces]

theorem linkBounded_queueNotice {k : LinkState} (n : Notice) (h : linkBounded k = true) : linkBounded (queueNotice k n) = true := by
  rw [linkBounded_iff] at h ⊢
  rw [queueNotice_eq]
  by_cases hf : 2 ≤ 16 - k.tx.length - (if k.busy.isSome then 1 else 0)
  · rw [if_pos hf]
    simp only [List.length_append, List.length_singleton]
    omega
  · rw [if_neg hf]
    exact h

theorem linkBounded_hear {k : LinkState} (d : Bool) (r : Routes) (l : Link) (n : Notice) (h : linkBounded k = true) :
    linkBounded (hear d r l k n) = true := by
  unfold hear
  split
  · exact linkBounded_queueNotice n h
  · exact h

theorem safe_giveNotice (n : Notice) (s : State) : Safe W s (giveNotice n s) := by
  rw [giveNotice_eq]
  exact safe_withLinks (linkBounded_hear _ _ _ _) (linkBounded_hear _ _ _ _)

theorem safe_giveNotices (ns : List Notice) (s : State) : Safe W s (giveNotices ns s) := safe_foldl (fun s n => safe_giveNotice n s) ns s

theorem linkBounded_linkReply {k : LinkState} (a : Answer) (h : linkBounded k = true) : linkBounded (linkReply k a) = true := by
  rw [linkBounded_iff] at h ⊢
  unfold linkReply
  cases hb : k.busy with
  | none => simpa [hb] using h
  | some p =>
    simp only [hb, Option.isSome_some, if_true] at h
    dsimp only
    split
    · simp only [Option.isSome_none]
      exact ⟨h.1, by simp; omega⟩
    · simp only [Option.isSome_none, List.length_append, List.length_singleton]
      exact ⟨h.1, by simp; omega⟩

theorem safe_placeReply (l : Link) (a : Answer) (s : State) : Safe W s (placeReply l a s) := safe_setLink (linkBounded_linkReply a)

theorem linkBounded_arriveAt {k : LinkState} (f : RxFrame) (h : linkBounded k = true) : linkBounded (arriveAt k f) = true := by
  rw [linkBounded_iff] at h ⊢
  unfold arriveAt
  split
  · exact h
  · split
    · rename_i hr
      simp only [Config.rxPlaces] at hr
      simp only [List.length_append, List.length_singleton]
      exact ⟨by omega, h.2⟩
    · exact h

theorem safe_arrive (l : Link) (f : RxFrame) (s : State) : Safe W s (arrive l f s) := safe_setLink (linkBounded_arriveAt f)

/-- A link with its receive queue no longer and its transmit queue no fuller. -/
theorem linkBounded_of_le {k k' : LinkState} (hr : k'.rx.length ≤ k.rx.length)
    (ht : k'.tx.length + (if k'.busy.isSome then 1 else 0) ≤ k.tx.length + (if k.busy.isSome then 1 else 0)) (h : linkBounded k = true) :
    linkBounded k' = true := by
  rw [linkBounded_iff] at h ⊢
  exact ⟨hr.trans h.1, ht.trans h.2⟩

/-- 11 R185: a link that takes a request has a place for the reply. -/
theorem linkBounded_taking {k : LinkState} (p : InProgress) (hb : k.busy = none) (hf : 1 ≤ freePlaces k) (h : linkBounded k = true) :
    linkBounded { withoutHead k with busy := some p } = true := by
  rw [linkBounded_iff] at h ⊢
  simp only [freePlaces, hb, Config.txPlaces] at hf
  simp only [withoutHead, List.length_tail, Option.isSome_some, if_true]
  simp at hf
  omega

theorem mayTake_iff (l : Link) (s : State) :
    mayTake l s = true ↔ s.ctrl.draining = false ∧ (s.link l).busy = none ∧ 1 ≤ freePlaces (s.link l) := by
  simp [mayTake, and_assoc]

/-- 11 R185: the taking of a request's frame. -/
theorem safe_takeFrame {c : Instr} {s t : State} (h : takeFrame c s = some t) : Safe W s t := by
  unfold takeFrame at h
  dsimp only at h
  split at h
  · rename_i hm
    obtain rfl := Option.some.inj h
    obtain ⟨hm, -⟩ := Bool.and_eq_true_iff.1 hm
    obtain ⟨-, hb, hf⟩ := (mayTake_iff _ _).1 hm
    exact safe_setLink (linkBounded_taking _ hb hf)
  · exact absurd h (by simp)

/-! ## The records -/

theorem cardsOrdered_setCard {s : State} {id : Nat} {c : Card} (hc : bucketsOrdered c.buckets) (h : cardsOrdered s) :
    cardsOrdered (s.setCard id c) := by
  intro e he
  rcases mem_tablePut he with rfl | he
  · exact hc
  · exact h e he

theorem safe_setCard {s : State} {id : Nat} {c : Card} (hc : cardsOrdered s → bucketsOrdered c.buckets) : Safe W s (s.setCard id c) :=
  { Safe.refl s with
    cards := tableRising_put
    ordered := fun h => cardsOrdered_setCard (hc h) h }

theorem bucketsOrdered_of_card? {s : State} {id : Nat} {c : Card} (hc : s.card? id = some c) (h : cardsOrdered s) :
    bucketsOrdered c.buckets := h _ (HoldSlots.mem_of_tableGet hc)

theorem bucketsOrdered_card {s : State} (id : Nat) (h : cardsOrdered s) : bucketsOrdered (s.card id).buckets := by
  unfold State.card tableRead
  cases hc : tableGet id s.cards with
  | none => exact bucketsOrdered_nil
  | some c => exact bucketsOrdered_of_card? hc h

theorem safe_setHoldSlot (s : State) (n : Nat) (x : HoldSlot) : Safe W s (s.setHoldSlot n x) :=
  { Safe.refl s with holds := tableCanonical_write }

theorem safe_setPool (s : State) (p : Nat) (x : Pool) : Safe W s (s.setPool p x) :=
  { Safe.refl s with pools := tableCanonical_write }

theorem safe_setChannel (s : State) (n : Nat) (x : Channel) : Safe W s (s.setChannel n x) :=
  { Safe.refl s with channels := tableCanonical_write }

/-- The live and closing positions of a shop are bounded. -/
def shopBounded (x : Shop) : Prop := positionBounded x.live = true ∧ positionBounded x.closing = true

theorem shopBounded_unused : shopBounded unusedShop := ⟨rfl, rfl⟩

theorem safe_setShop {s : State} {i : Nat} {x : Shop} (hx : positionsBounded s → shopBounded x) : Safe W s (s.setShop i x) :=
  { Safe.refl s with
    shops := tableCanonical_write
    positions := fun h j => by
      rw [shop_setShop]
      split
      · exact hx h
      · exact h j }

/-- A shop rewritten with its positions as they were. -/
theorem safe_setShop_same {s : State} {i : Nat} {x : Shop} (hl : x.live = (s.shop i).live) (hc : x.closing = (s.shop i).closing) :
    Safe W s (s.setShop i x) := safe_setShop (fun h => by rw [shopBounded, hl, hc]; exact h i)

theorem positionBounded_iff (p : Position) :
    positionBounded p = true ↔ withinLimit p.sold = true ∧ withinLimit p.voided = true ∧ withinLimit p.redeemedBase = true ∧
      withinLimit p.redeemedPromo = true ∧ withinLimit p.refundedBase = true ∧ withinLimit p.refundedPromo = true ∧
      withinLimit p.sponsor = true ∧ p.count ≤ Config.countLimit := by
  simp [positionBounded, and_assoc]

/-- 06 R107: a posting is clamped. -/
theorem positionBounded_post (d : Posting) (p : Position) : positionBounded (post d p) = true :=
  (positionBounded_iff _).2
    ⟨withinLimit_clampMoney _, withinLimit_clampMoney _, withinLimit_clampMoney _, withinLimit_clampMoney _, withinLimit_clampMoney _,
      withinLimit_clampMoney _, withinLimit_clampMoney _, Nat.min_le_right _ _⟩

theorem safe_postShop (i : Nat) (d : Posting) (s : State) : Safe W s (postShop i d s) :=
  safe_setShop (fun h => ⟨positionBounded_post _ _, (h i).2⟩)

theorem safe_postSponsor (k : EntryKind) (s : State) (p : EntryPart) : Safe W s (postSponsor k s p) := by
  unfold postSponsor
  split
  · split
    · exact Safe.refl s
    · exact safe_postShop _ _ _
  · exact Safe.refl s

theorem safe_postPositions (e : Entry) (s : State) : Safe W s (postPositions e s) := by
  unfold postPositions
  refine Safe.trans ?_ (safe_foldl (safe_postSponsor e.kind) e.parts _)
  split
  · exact safe_postShop _ _ _
  · exact Safe.refl s

theorem safe_addPending (p a : Nat) (s : State) : Safe W s (addPending p a s) := safe_setPool _ _ _

theorem safe_addPendings (ps : List (Nat × Nat)) (s : State) : Safe W s (addPendings ps s) :=
  safe_foldl (fun _ _ => safe_addPending _ _ _) ps s

theorem safe_postPools (e : Entry) (s : State) : Safe W s (postPools e s) :=
  (safe_foldl (fun _ _ => safe_setPool _ _ _) e.parts s).trans (safe_addPendings _ _)

/-! ## The journal -/

theorem numberAfter_bounded {n : Nat} (h : n ≤ Config.topNumber) : 1 ≤ numberAfter n ∧ numberAfter n ≤ Config.topNumber := by
  unfold numberAfter
  simp only [Config.topNumber] at *
  split <;> omega

/-- 05 R86, R89, R93: a write keeps the ring within its slots and the registers in their ranges. -/
theorem journalBounded_pushEntry {s : State} (e : Entry) (h : journalBounded s) :
    journalBounded { s with journal := pushEntry e s.journal } := by
  obtain ⟨hlen, hpos, hone, htop, hwraps⟩ := h
  refine ⟨?_, ?_, (numberAfter_bounded htop).1, (numberAfter_bounded htop).2, ?_⟩
  · simp only [pushEntry, List.length_append, List.length_singleton]
    simp only [Config.journalSlots] at hlen ⊢
    split
    · rw [List.length_tail]
      omega
    · omega
  · simp only [pushEntry]
    simp only [Config.journalSlots] at hpos ⊢
    split <;> omega
  · simp only [pushEntry]
    split
    · exact Nat.mod_lt _ (by decide)
    · exact hwraps

theorem safe_pushEntry (e : Entry) (s : State) : Safe W s { s with journal := pushEntry e s.journal } :=
  { Safe.refl s with journal := journalBounded_pushEntry e }

theorem safe_writeEntry (e : Entry) (s : State) : Safe W s (writeEntry e s) :=
  (safe_pushEntry e s).trans
    (((safe_postPositions e _).trans (safe_postPools e _)).trans (safe_giveNotices _ _))

theorem safe_amendEntry (q : Nat) (f : Entry → Entry) (s : State) : Safe W s (amendEntry q f s) :=
  { Safe.refl s with journal := fun h => ⟨by simpa [amendEntry] using h.1, h.2⟩ }

/-! ## Holds and the sweep -/

theorem safe_endHold (n : Nat) (back : Split) (x : LastEnd) (s : State) : Safe W s (endHold n back x s) := by
  unfold endHold
  split
  · exact Safe.refl s
  · split
    · exact safe_setHoldSlot _ _ _
    · rename_i c hc
      refine ((safe_setHoldSlot _ _ _).trans (safe_setCard fun h => ?_)).trans (safe_addPendings _ _)
      exact bucketsOrdered_tidy _ (bucketsOrdered_returnPromo s _ (bucketsOrdered_of_card? hc h))

theorem safe_expireHold (n : Nat) (s : State) : Safe W s (expireHold n s) := by
  unfold expireHold
  split
  · split
    · exact (safe_endHold _ _ _ _).trans (safe_giveNotice _ _)
    · exact Safe.refl s
  · exact Safe.refl s

theorem safe_releaseHolds46 (s : State) : Safe W s (releaseHolds46 s) := safe_foldl (fun _ _ => safe_endHold _ _ _ _) _ s

/-- A state that differs in the sweep's registers alone. -/
theorem safe_sweep (s : State) (x : Sweep) : Safe W s { s with sweep := x } := { Safe.refl s with }

theorem safe_visitCard {s : State} (id : Nat) {c : Card} (hc : cardsOrdered s → bucketsOrdered c.buckets) :
    Safe W s (visitCard id c s) := by
  unfold visitCard
  refine (safe_setCard fun h => ?_).trans (safe_foldl (fun _ _ => (safe_addPending _ _ _).trans (safe_sweep _ _)) _ _)
  exact bucketsOrdered_tidy _ (bucketsOrdered_map _ (fun b => by split <;> rfl) (fun b => by split <;> rfl) (hc h))

theorem safe_sweepStep (s : State) : Safe W s (sweepStep s) := by
  unfold sweepStep
  split
  · split
    · exact (safe_visitCard _ (bucketsOrdered_card _)).trans (safe_sweep _ _)
    · exact safe_sweep _ _
  · exact Safe.refl s

theorem safe_expirePool (s : State) (p : Nat) : Safe W s (expirePool s p) := by
  unfold expirePool
  split
  · exact safe_writeEntry _ _
  · exact Safe.refl s

theorem safe_sweepFinish (s : State) : Safe W s (sweepFinish s) := by
  unfold sweepFinish
  split
  · exact ((safe_foldl safe_expirePool _ s).trans (safe_sweep _ _)).trans (safe_giveNotices _ _)
  · exact Safe.refl s

/-! ## Closes and releases -/

theorem shop_mapShops (s : State) (f : Nat × Shop → Nat × Shop) (hk : ∀ e, (f e).1 = e.1) (g : Shop → Shop)
    (hv : ∀ e, (f e).2 = g e.2) (hd : g unusedShop = unusedShop) (i : Nat) :
    tableRead unusedShop i (s.shops.map f) = g (s.shop i) := by
  unfold State.shop tableRead
  induction s.shops with
  | nil => simp [hd]
  | cons e t ih =>
    obtain ⟨j, x⟩ := e
    have h1 := hk (j, x)
    have h2 := hv (j, x)
    rw [List.map_cons]
    cases hf : f (j, x) with
    | mk j' x' =>
      rw [hf] at h1 h2
      dsimp only at h1 h2
      subst h1 h2
      unfold tableGet
      split
      · rfl
      · exact ih

/-- 07 R127: what the taking of a close makes of a shop. -/
def closedShop (x : Shop) : Shop := if x.state = .unused then x else closeShop x

theorem shop_takeClose (cause : CloseCause) (s : State) (i : Nat) : (takeClose cause s).shop i = closedShop (s.shop i) :=
  shop_mapShops s _ (fun e => by split <;> rfl) closedShop (fun e => by unfold closedShop; split <;> rfl) rfl i

theorem closeShop_ne_unused {x : Shop} (h : x.state ≠ .unused) : closeShop x ≠ unusedShop := fun hx =>
  h (congrArg Shop.state hx)

theorem tableCanonical_iff {α : Type} [DecidableEq α] (d : α) (t : Table α) :
    tableCanonical d t = true ↔ tableRising t = true ∧ ∀ e ∈ t, e.2 ≠ d := by
  simp [tableCanonical]

@[simp] theorem loadCountdown_state (p : PeriodController) : (loadCountdown p).state = p.state := by
  unfold loadCountdown
  split <;> rfl

@[simp] theorem loadCountdown_summaries (p : PeriodController) : (loadCountdown p).summaries = p.summaries := by
  unfold loadCountdown
  split <;> rfl

@[simp] theorem loadCountdown_closePending (p : PeriodController) : (loadCountdown p).closePending = p.closePending := by
  unfold loadCountdown
  split <;> rfl

@[simp] theorem loadCountdown_live (p : PeriodController) : (loadCountdown p).live = p.live := by
  unfold loadCountdown
  split <;> rfl

@[simp] theorem loadCountdown_closing (p : PeriodController) : (loadCountdown p).closing = p.closing := by
  unfold loadCountdown
  split <;> rfl

@[simp] theorem loadCountdown_roster (p : PeriodController) : (loadCountdown p).roster = p.roster := by
  unfold loadCountdown
  split <;> rfl

/-- 07 R135: never more than eight summaries. -/
theorem length_addSummary (m : Summary) {ms : List Summary} (h : ms.length ≤ 8) : (addSummary m ms).length ≤ 8 := by
  unfold addSummary
  rw [List.length_append, List.length_singleton]
  split
  · rw [List.length_tail]
    omega
  · omega

theorem takeClose_period_state (cause : CloseCause) (s : State) : (takeClose cause s).period.state = .closing := by
  simp [takeClose]

theorem takeClose_summaries (cause : CloseCause) (s : State) :
    ∃ m, (takeClose cause s).period.summaries = addSummary m s.period.summaries := by
  simp only [takeClose, loadCountdown_summaries]
  exact ⟨_, rfl⟩

theorem safe_takeClose (cause : CloseCause) (s : State) : Safe W s (takeClose cause s) where
  pending := rfl
  cards := id
  ordered := id
  holds := id
  pools := id
  shops := fun h => by
    obtain ⟨hr, hd⟩ := (tableCanonical_iff _ _).1 h
    refine (tableCanonical_iff _ _).2 ⟨tableRising_map _ (fun e => by split <;> rfl) hr, fun e he => ?_⟩
    obtain ⟨e', he', rfl⟩ := List.mem_map.1 he
    split
    · exact hd e' he'
    · rename_i hu
      exact closeShop_ne_unused hu
  channels := id
  positions := fun h i => by
    rw [shop_takeClose, closedShop]
    split
    · exact h i
    · exact ⟨rfl, (h i).1⟩
  journal := id
  time := fun _ => id
  counters := fun h => ⟨by
    obtain ⟨m, hm⟩ := takeClose_summaries cause s
    rw [hm]
    exact length_addSummary m h.1, h.2⟩
  mode := id
  pendingClose := fun _ _ => by simp [takeClose_period_state]
  tLink := id
  aLink := id

/-- A state that differs in the Period Controller alone, within its bounds. -/
theorem safe_period {s : State} {p : PeriodController} (hl : s.period.summaries.length ≤ 8 → p.summaries.length ≤ 8)
    (hp : pendingCloseBusy s → p.closePending.isSome = true → p.state ≠ .released) : Safe W s { s with period := p } :=
  { Safe.refl s with
    counters := fun h => ⟨hl h.1, h.2⟩
    pendingClose := hp }

/-- The Period Controller rewritten with its summaries, its state and its pending close as they were. -/
theorem safe_period_same {s : State} {p : PeriodController} (hl : p.summaries = s.period.summaries)
    (hs : p.state = s.period.state) (hc : p.closePending = s.period.closePending) : Safe W s { s with period := p } :=
  safe_period (fun h => by rwa [hl]) (fun h => by rw [hc, hs]; exact h)

theorem safe_scheduleClose (cause : CloseCause) (s : State) : Safe W s (scheduleClose cause s) := by
  unfold scheduleClose
  split
  · exact safe_takeClose _ _
  · rename_i h
    exact safe_period id (fun _ _ => h)

theorem safe_intervalExpiry (s : State) : Safe W s (intervalExpiry s) := by
  unfold intervalExpiry
  split
  · exact (safe_scheduleClose _ _).trans (safe_period_same (by simp) (by simp) (by simp))
  · exact Safe.refl s

theorem safe_setPayoutState (i : Nat) (x : PayoutState) (s : State) : Safe W s (setPayoutState i x s) := safe_setShop_same rfl rfl

theorem safe_setPayoutStates (is : List Nat) (x : PayoutState) (s : State) : Safe W s (setPayoutStates is x s) :=
  safe_foldl (fun _ _ => safe_setPayoutState _ _ _) is s

theorem safe_releaseShops (s : State) : Safe W s (releaseShops s) :=
  safe_foldl (f := fun s i => s.setShop i (releaseShop (s.shop i))) (fun _ _ => safe_setShop_same rfl rfl) _ s

theorem safe_endRun (n period : Nat) (s : State) : Safe W s (endRun n period s) :=
  (safe_setChannel _ _ _).trans (safe_giveNotice _ _)

theorem safe_endRuns (period : Nat) (s : State) : Safe W s (endRuns period s) :=
  safe_foldl (fun s n => by split; exacts [safe_endRun _ _ _, Safe.refl s]) _ s

/-- 07 R123: a pending close is taken before anything else sees the record RELEASED. -/
theorem pendingCloseBusy_takePending (s : State) : pendingCloseBusy (takePending s) := by
  unfold takePending
  split
  · exact nofun
  · rename_i h
    intro hs
    rw [h] at hs
    simp at hs

theorem safe_takePending (s : State) : Safe W s (takePending s) := by
  have hp := pendingCloseBusy_takePending s
  unfold takePending at hp ⊢
  split
  · exact { safe_takeClose _ s with pendingClose := fun _ => nofun }
  · exact Safe.refl s

/-- 07 R138: what the release of a period makes of the summary, the record, the journal and the cards. -/
def releaseRecords (period : Nat) (r : SummaryRelease) (u : State) : State :=
  { u with
    period := { amendSummary (fun m => { m with release := some r }) u.period with state := .released }
    journal := { u.journal with released := period }
    cards := u.cards.filter (fun e => !purgedBy period e.2) }

/-- 07 R138: the release but for the notices, the runs and the pending close. -/
def releasedBlocks (s : State) : State := releaseRecords s.period.closing (releasePart s) (releaseShops s)

theorem release_eq (s : State) :
    release s = takePending (endRuns s.period.closing (giveNotices (reserveEdge s (releasedBlocks s)) (releasedBlocks s))) := rfl

theorem held_releaseRecords (period : Nat) (r : SummaryRelease) (u : State) : Held W u (releaseRecords period r u) :=
  { Held.refl u with
    cards := fun h => tableRising_filter _ h
    ordered := fun h e he => h e (List.mem_filter.1 he).1
    counters := fun h => ⟨by simpa [releaseRecords, amendSummary] using h.1, h.2⟩ }

theorem held_releasedBlocks (s : State) : Held W s (releasedBlocks s) :=
  (safe_releaseShops s).toHeld.trans (held_releaseRecords _ _ _)

theorem safe_release (s : State) : Safe W s (release s) := by
  rw [release_eq]
  refine ⟨(held_releasedBlocks s).trans (Safe.toHeld ?_), fun _ => pendingCloseBusy_takePending _⟩
  exact ((safe_giveNotices _ _).trans (safe_endRuns _ _)).trans (safe_takePending _)

theorem testRelease_fst (s : State) : (testRelease s).1 = if releaseHolds s then release s else s := by
  cases h : releaseHolds s <;> simp [testRelease, h]

theorem testRelease_snd (s : State) :
    (testRelease s).2 = if releaseHolds s then [releasedNotice s.period.closing (releasePart s)] else [] := by
  cases h : releaseHolds s <;> simp [testRelease, h]

theorem safe_testRelease (s : State) : Safe W s (testRelease s).1 := by
  rw [testRelease_fst]
  split
  · exact safe_release s
  · exact Safe.refl s

/-! ## The computation, the channels and their offers -/

/-- 07 R128: the cursor past a computed shop, and what the unit keeps. -/
theorem safe_computed {s t : State} (c : Nat) (u : SettlementUnit) (h : t.period = s.period) :
    Safe W t { t with period := { s.period with cursor := c }, sau := u } :=
  { Safe.refl (W := W) t with
    counters := fun hc => ⟨by simpa [h] using hc.1, hc.2⟩
    pendingClose := fun hp => by simpa [pendingCloseBusy, h] using hp }

theorem safe_computeStep (s : State) : Safe W s (computeStep s) := by
  unfold computeStep
  split
  · split
    · exact (safe_computed _ _ rfl).after (safe_setShop_same rfl rfl)
    · exact safe_period_same rfl rfl rfl
  · exact Safe.refl s

theorem safe_assignPayouts (s : State) : Safe W s (assignPayouts s) :=
  safe_foldl (f := fun t i => t.setShop i { t.shop i with payout := assignedPayout s i (t.shop i) })
    (fun _ _ => safe_setShop_same rfl rfl) _ s

theorem safe_startCursors (s : State) : Safe W s (startCursors s) :=
  safe_foldl (fun s n => by dsimp only; split; exacts [Safe.refl s, safe_setChannel _ _ _]) _ s

theorem safe_autoStart (s : State) : Safe W s (autoStart s) :=
  safe_foldl (fun s n => by dsimp only; split; exacts [safe_setChannel _ _ _, Safe.refl s]) _ s

/-- 07 R134: the record SETTLING, with the computation part of its summary. -/
def settledPeriod (c : SummaryComputation) (p : PeriodController) : PeriodController :=
  { amendSummary (fun m => { m with computation := some c }) p with state := .settling, cursor := 512 }

/-- 07 R134, 08 R146: the end of the computation up to CLOSE_DONE. -/
def assignedBlocks (s : State) : State :=
  startCursors { assignPayouts s with period := settledPeriod (computationPart (assignPayouts s)) (assignPayouts s).period }

/-- 07 R134, 08 R146: the end of the computation up to the test of the release condition. -/
def computationEnded (s : State) : State :=
  let c := computationPart (assignPayouts s)
  let s3 := giveNotice (closeDoneNotice (assignedBlocks s) c) (assignedBlocks s)
  if c.dueCount ≠ 0 then autoStart s3 else s3

theorem endComputation_eq (s : State) :
    endComputation s = if walkAdvances s && (nextToCompute s).isNone then
      giveNotices (testRelease (computationEnded s)).2 (testRelease (computationEnded s)).1 else s := rfl

theorem safe_settledPeriod (c : SummaryComputation) (s : State) : Safe W s { s with period := settledPeriod c s.period } :=
  safe_period (fun h => by simpa [settledPeriod, amendSummary] using h) (fun _ _ => by simp [settledPeriod])

theorem safe_assignedBlocks (s : State) : Safe W s (assignedBlocks s) :=
  ((safe_assignPayouts s).trans (safe_settledPeriod _ _)).trans (safe_startCursors _)

theorem safe_computationEnded (s : State) : Safe W s (computationEnded s) := by
  have h := (safe_assignedBlocks (W := W) s).trans (safe_giveNotice (closeDoneNotice (assignedBlocks s) (computationPart (assignPayouts s))) _)
  unfold computationEnded
  dsimp only
  split
  · exact h.trans (safe_autoStart _)
  · exact h

theorem safe_endComputation (s : State) : Safe W s (endComputation s) := by
  rw [endComputation_eq]
  split
  · exact ((safe_computationEnded s).trans (safe_testRelease _)).trans (safe_giveNotices _ _)
  · exact Safe.refl s

theorem safe_serial {s : State} {n : Nat} (h : s.serial ≤ Config.topNumber → n ≤ Config.topNumber) : Safe W s { s with serial := n } :=
  { Safe.refl s with counters := fun hc => ⟨hc.1, h hc.2⟩ }

theorem safe_makeOffer (n i : Nat) (s : State) : Safe W s (makeOffer n i s) := by
  unfold makeOffer
  dsimp only
  have h1 : ∀ x, Safe W s (s.setShop i { s.shop i with payout := x }) := fun _ => safe_setShop_same rfl rfl
  have h2 : ∀ (t : State) (c : Channel) (m : Nat), (t.serial ≤ Config.topNumber → m ≤ Config.topNumber) →
      Safe W t { t.setChannel n c with serial := m } :=
    fun t c m hm => (safe_serial (s := t.setChannel n c) hm).after (safe_setChannel t n c)
  exact (h2 _ _ _ (fun h => (numberAfter_bounded h).2)).after (h1 _)

theorem safe_walkStep (n : Nat) (s : State) : Safe W s (walkStep n s) := by
  unfold walkStep
  dsimp only
  split
  · split
    · exact safe_makeOffer _ _ _
    · exact safe_endRun _ _ _
  · exact Safe.refl s

theorem linkBounded_offer {k : LinkState} (f : TxFrame) (hf : 2 ≤ freePlaces k) (h : linkBounded k = true) :
    linkBounded { k with tx := k.tx ++ [f] } = true := by
  rw [linkBounded_iff] at h ⊢
  simp only [freePlaces, Config.txPlaces] at hf
  simp only [List.length_append, List.length_singleton]
  omega

theorem safe_enterOffer {n : Nat} {s : State} (hf : 2 ≤ freePlaces s.aLink) : Safe W s (enterOffer n s) := by
  unfold enterOffer
  split
  · exact Safe.refl s
  · exact (safe_setChannel s n _).trans { Safe.refl (s.setChannel n _) with aLink := linkBounded_offer _ hf }

theorem offerMayEnter_iff (s : State) (n : Nat) :
    offerMayEnter s n = true ↔ offerWaits (s.channel n) = true ∧ 2 ≤ freePlaces s.aLink ∧ s.ctrl.draining = false := by
  simp [offerMayEnter, and_assoc]

theorem safe_enterOffers (s : State) : Safe W s (enterOffers s) :=
  safe_foldl (fun s n => by
    split
    · rename_i h
      exact safe_enterOffer ((offerMayEnter_iff s n).1 h).2.1
    · exact Safe.refl s) _ s

theorem safe_offerEnters (s : State) : Safe W s (offerEnters s) := by
  unfold offerEnters nextOffer
  split
  · rename_i n h
    exact safe_enterOffer ((offerMayEnter_iff s n).1 (List.find?_some h)).2.1
  · exact Safe.refl s

theorem safe_timeOut (n : Nat) (s : State) : Safe W s (timeOut n s) := by
  unfold timeOut
  dsimp only
  split
  · exact (safe_setChannel _ _ _).trans (safe_giveNotice _ _)
  · exact safe_setChannel _ _ _

theorem safe_timeOuts (s : State) : Safe W s (timeOuts s) :=
  safe_foldl (fun s n => by split; exacts [safe_timeOut _ _, Safe.refl s]) _ s

theorem safe_clearRuns (s : State) : Safe W s (clearRuns s) :=
  safe_foldl (f := fun s n => s.setChannel n (clearRun (s.channel n))) (fun _ _ => safe_setChannel _ _ _) _ s

/-! ## The Time Base and Mode Control -/

theorem safe_time {s : State} {x : TimeBase} (h : W → timeBounded s → timeBounded { s with time := x }) :
    Safe W s { s with time := x } := { Safe.refl (W := W) s with time := h }

/-- The Time Base rewritten with its clock, its day and its rollover second as they were. -/
theorem safe_time_same {s : State} {x : TimeBase} (hc : x.clock = s.time.clock) (hd : x.day = s.time.day)
    (hr : x.rolloverSecond = s.time.rolloverSecond) : Safe W s { s with time := x } :=
  safe_time (fun _ h => by simpa [timeBounded, hc, hd, hr] using h)

theorem safe_ctrl {s : State} {x : ModeControl} (h : modeLegal s → modeLegal { s with ctrl := x }) : Safe W s { s with ctrl := x } :=
  { Safe.refl s with mode := h }

theorem safe_rollDay (cause : Nat) (s : State) : Safe W s (rollDay cause s) := by
  unfold rollDay
  refine (safe_giveNotice _ _).after (safe_time (fun _ h => ⟨h.1, ?_, h.2.2⟩))
  have := h.2.1
  dsimp only
  split <;> omega

theorem safe_takeRollover (s : State) : Safe W s (takeRollover s) := by
  unfold takeRollover
  split
  · exact (safe_rollDay _ _).after (safe_time_same rfl rfl rfl)
  · exact Safe.refl s

theorem safe_react (b : Reactor) (s : State) : Safe W s (react b s) := by
  unfold react
  cases b with
  | poolTable => exact (safe_sweep _ _).trans (safe_giveNotices _ _)
  | periodController =>
    dsimp only
    split
    · exact safe_scheduleClose _ _
    · exact Safe.refl s
  | journal =>
    dsimp only
    split
    · exact safe_giveNotice _ _
    · exact Safe.refl s

theorem safe_nextReaction (s : State) : Safe W s (nextReaction s) := by
  unfold nextReaction
  split
  · exact Safe.refl s
  · exact (safe_react _ _).after (safe_time_same rfl rfl rfl)

theorem safe_rolloverAction (s : State) : Safe W s (rolloverAction s) := by
  unfold rolloverAction
  split
  · exact safe_takeRollover s
  · exact safe_nextReaction s

/-! ## Restarts -/

theorem safe_makeUncertain (s : State) : Safe W s (makeUncertain s) := safe_setPayoutStates _ _ s

/-- 07 R140: a roster shop with its computed flag clear. -/
def uncompute (s : State) (i : Nat) : State := s.setShop i { s.shop i with result := { (s.shop i).result with computed := false } }

/-- 07 R140: every roster shop with its computed flag clear. -/
def uncomputed (s : State) : State := s.period.roster.foldl uncompute s

theorem uncomputed_period (s : State) : (uncomputed s).period = s.period :=
  foldl_keeps (fun s : State => s.period) uncompute (fun _ _ => rfl) s.period.roster s

theorem restartPeriod_eq (s : State) :
    restartPeriod s = if s.period.state = .closing then
      { uncomputed s with period := loadCountdown { s.period with cursor := 0 } } else { s with period := loadCountdown s.period } := rfl

theorem safe_restartPeriod (s : State) : Safe W s (restartPeriod s) := by
  rw [restartPeriod_eq]
  split
  · have h : Safe W s (uncomputed s) := safe_foldl (f := uncompute) (fun _ _ => safe_setShop_same rfl rfl) s.period.roster s
    have hp := uncomputed_period s
    have h' : Safe W (uncomputed s) { uncomputed s with period := loadCountdown { s.period with cursor := 0 } } :=
      safe_period_same (by simp [hp]) (by simp [hp]) (by simp [hp])
    exact h'.after h
  · exact safe_period_same (by simp) (by simp) (by simp)

theorem linkBounded_idle {k : LinkState} (hr : k.rx = []) (ht : k.tx = []) : linkBounded k = true := by
  rw [linkBounded_iff, hr, ht]
  simp only [List.length_nil, Nat.zero_add]
  split <;> omega

/-- 10 R179: what a restart does to the registers, before the blocks act. -/
def restartRegisters (cause : RestartCause) (s : State) : State :=
  { s with
    ctrl := { s.ctrl with mode := .config, initInFlight := false, lastRestart := cause, draining := false }
    time := { s.time with trading := false, rolloverDue := false, handed := [] }
    tLink := restartLink s.tLink
    aLink := restartLink s.aLink
    sweep := idleSweep
    sau := { accumulator := 0, saturated := false } }

/-- 10 R179: the blocks after a restart, before the level notices. -/
def restarted (cause : RestartCause) (s : State) : State :=
  restartPeriod (makeUncertain (releaseHolds46 (clearRuns (restartRegisters cause s))))

/-- 10 R179: the notices of the level conditions at a restart. -/
def levelNotices (s : State) : List Notice := poolLowNow s ++ (if reserveHolds s.journal then [reserveNotice s] else [])

theorem restartBlocks_eq (cause : RestartCause) (s : State) :
    restartBlocks cause s =
      let s3 := giveNotices (levelNotices (restarted cause s)) (restarted cause s)
      giveNotices (testRelease s3).2 (testRelease s3).1 := rfl

theorem safe_restartRegisters (cause : RestartCause) (s : State) : Safe W s (restartRegisters cause s) :=
  { Safe.refl s with
    mode := fun _ => ⟨nofun, nofun⟩
    tLink := fun _ => linkBounded_idle rfl rfl
    aLink := fun _ => linkBounded_idle rfl rfl }

theorem safe_restarted (cause : RestartCause) (s : State) : Safe W s (restarted cause s) :=
  ((((safe_restartRegisters cause s).trans (safe_clearRuns _)).trans (safe_releaseHolds46 _)).trans (safe_makeUncertain _)).trans
    (safe_restartPeriod _)

theorem safe_restartBlocks (cause : RestartCause) (s : State) : Safe W s (restartBlocks cause s) := by
  rw [restartBlocks_eq]
  exact (((safe_restarted cause s).trans (safe_giveNotices _ _)).trans (safe_testRelease _)).trans (safe_giveNotices _ _)

theorem safe_restartDrained (s : State) : Safe W s (restartDrained s) := by
  unfold restartDrained
  split
  · exact safe_restartBlocks _ _
  · exact Safe.refl s

theorem safe_settle (s : State) : Safe W s (settle s) := by
  unfold settle
  exact (((((safe_enterOffers s).trans (safe_foldl (fun s n => safe_expireHold n s) _ _)).trans (safe_timeOuts _)).trans
    (safe_intervalExpiry _)).trans (safe_takeRollover _)).trans (safe_restartDrained _)

theorem journalBounded_reset : journalBounded State.reset := by unfold journalBounded; decide

theorem countersBounded_reset : countersBounded State.reset := by unfold countersBounded; decide

theorem safe_initialBlocks (s : State) : Safe W s (initialBlocks s) where
  pending := rfl
  cards := fun _ => rfl
  ordered := fun _ => List.forall_mem_nil _
  holds := fun _ => rfl
  pools := fun _ => rfl
  shops := fun _ => rfl
  channels := fun _ => rfl
  positions := fun _ _ => shopBounded_unused
  journal := fun _ => journalBounded_reset
  time := fun _ h => ⟨h.1, Nat.zero_le _, by simp [initialBlocks, Config.daySeconds]⟩
  counters := fun _ => countersBounded_reset
  mode := id
  tLink := id
  aLink := id
  pendingClose := fun _ => nofun

end Sys2Proof.Proofs.Bounds
end

section
/-! Every request command is the taking of its rule, and what a rule, an event and a step keep. -/

namespace Sys2Proof.Proofs.Steps

open Sys2Proof Sys2Proof.Machine Sys2Proof.Laws Sys2Proof.Proofs.Links Sys2Proof.Proofs.Buckets Sys2Proof.Proofs.Bounds

/-! ## The rule of a request -/

/-- The rule of a request command; a command that is none has no rule, and stands as it is. -/
def ruleOf : Instr → State → Done
  | .sellCard _ _ card shop amount reloadable bonusPool ref => sellRule card shop amount reloadable bonusPool ref
  | .reloadCard _ _ card shop amount bonusPool ref => reloadRule card shop amount bonusPool ref
  | .balance _ _ card shop => balanceRule card shop
  | .redeem _ _ card shop amount part ref => redeemRule card shop amount part ref
  | .placeHold _ _ card shop amount part ref => placeRule card shop amount part ref
  | .captureHold _ _ slot gen shop amount ref => captureRule slot gen shop amount ref
  | .releaseHold _ _ slot gen shop => releaseRule slot gen shop
  | .extendHold _ _ slot gen shop => extendRule slot gen shop
  | .refund _ _ original shop amount target ref => refundRule original shop amount target ref
  | .voidSale _ _ original shop ref => voidRule original shop ref
  | .lookupReference _ _ shop ref => lookupRule shop ref
  | .cardDetail _ _ card => cardDetailRule card
  | .freezeCard _ _ card => freezeRule card
  | .unfreezeCard _ _ card => unfreezeRule card
  | .closeCard _ _ card => closeRule card
  | .holdDetail _ _ slot => holdDetailRule slot
  | .grantPromo _ _ card pool amount => grantRule card pool amount
  | .definePool _ _ pool cfg => definePoolRule pool cfg
  | .addBudget _ _ pool amount => addBudgetRule pool amount
  | .setPoolState _ _ pool target => setPoolStateRule pool target
  | .poolStatus _ _ pool => poolStatusRule pool
  | .journalSeek l _ pos => seekRule l pos
  | .journalRead l _ count => readRule l count
  | .valueSummary _ _ => valueSummaryRule
  | .defineShop _ _ shop category account sched => defineShopRule shop category account sched
  | .stageSchedule _ _ shop sched => stageRule shop sched
  | .setShopState _ _ shop target => setShopStateRule shop target
  | .removeShop _ _ shop => removeRule shop
  | .shopPosition _ _ shop selector => positionRule shop selector
  | .adjustCarry _ _ shop amount ref => adjustRule shop amount ref
  | .clearAttention _ _ shop => clearRule shop
  | .setPayoutAccount _ _ shop account => setAccountRule shop account
  | .closePeriod _ _ => closePeriodRule
  | .setScheduler _ _ mode interval => setSchedulerRule mode interval
  | .periodStatus _ _ => periodStatusRule
  | .periodSummary _ _ period => summaryRule period
  | .setChannel _ _ channel cfg => setChannelRule channel cfg
  | .startRun _ _ channel => startRunRule channel
  | .payoutResult _ _ channel serial outcome => resultRule channel serial outcome
  | .suspendChannel _ _ channel => suspendRule channel
  | .resumeChannel _ _ channel => resumeRule channel
  | .resetChannel _ _ channel => resetRule channel
  | .channelStatus _ _ channel => channelStatusRule channel
  | .setTime _ _ clock => setTimeRule clock
  | .setDay _ _ day => setDayRule day
  | .setRollover _ _ second => setRolloverRule second
  | .setTrading _ _ on => setTradingRule on
  | .advanceDay _ _ => advanceDayRule
  | .timeStatus _ _ => timeStatusRule
  | .identify _ _ => identifyRule
  | .partStatus _ _ => partStatusRule
  | .enterConfig _ _ => enterConfigRule
  | .openPart _ _ => openPartRule
  | .restart _ _ => restartRule
  | .storeInitialise _ _ => storeInitialiseRule
  | .setRoute _ _ sel => setRouteRule sel
  | _ => okay

/-- A request command is taken and carried out by its rule. -/
theorem exec_request {i : Instr} (h : isRequest i = true) (s : State) : exec i s = takeRequest i (ruleOf i) s := by
  cases i with
  | unknownRequest | frameReceived | frameGapTimeout | frameSent | linkReset | breakEnded | tick | holdExpiry | confirmTimeout
  | intervalCountdownExpiry | dayRollover | sweepVisit | sweepEnd | closeComputeStep | closeComputationEnd | runWalkStep
  | payoutOfferEntersQueue | storeInitialiseComplete | restartAfterDrain | powerOn | lossOfPower => exact absurd h (by simp [isRequest])
  | _ => rfl

/-! ## What a rule keeps -/

variable {W : Prop}

/-- A rule keeps what its effect keeps, once every check has passed. -/
theorem safe_ruled {cs : List Check} {e : Done} {s : State} (h : firstFailing cs = none → Safe W s e.state) :
    Safe W s (ruled cs e s).state := by
  rcases HoldSlots.ruled_cases cs e s with hs | ⟨hp, he⟩
  · rw [hs]
    exact Safe.refl s
  · rw [he]
    exact h hp

theorem bucketsOrdered_creditBonus {s : State} {c : Card} (p : Nat) (g : Bonus) (h : bucketsOrdered c.buckets) :
    bucketsOrdered (creditBonus s p g c).buckets := by
  unfold creditBonus
  split
  · exact h
  · exact bucketsOrdered_credit_getD h

theorem safe_purchase (k : EntryKind) (id shop amount : Nat) (pool : Option Nat) (ref : Nat) {c : Card} {s : State}
    (hc : cardsOrdered s → bucketsOrdered c.buckets) : Safe W s (purchase k id shop amount pool ref c s).state := by
  unfold purchase
  cases pool with
  | none => exact (safe_writeEntry _ _).after (safe_setCard hc)
  | some p => exact (safe_writeEntry _ _).after (safe_setCard fun h => bucketsOrdered_creditBonus p _ (hc h))

theorem safe_redeemEffect (id shop amount ref : Nat) (s : State) : Safe W s (redeemEffect id shop amount ref s).state :=
  (safe_writeEntry _ _).after (safe_setCard fun h =>
    bucketsOrdered_tidy _ (bucketsOrdered_walkSplit s shop _ (bucketsOrdered_card id h)))

theorem safe_placeEffect (id shop amount ref : Nat) (s : State) : Safe W s (placeEffect id shop amount ref s).state :=
  (safe_setHoldSlot _ _ _).after (safe_setCard fun h => bucketsOrdered_walkSplit s shop _ (bucketsOrdered_card id h))

theorem bucketsOrdered_destCard {s : State} (id shop : Nat) (h : cardsOrdered s) : bucketsOrdered (destCard s id shop).buckets := by
  unfold destCard
  cases hc : s.card? id with
  | none => exact bucketsOrdered_nil
  | some c => exact bucketsOrdered_of_card? hc h

theorem safe_refundEffect (original shop amount : Nat) (target : Option Nat) (ref : Nat) (s : State) :
    Safe W s (refundEffect original shop amount target ref s).state :=
  (safe_writeEntry _ _).after ((safe_amendEntry _ _ _).after (safe_setCard fun h =>
    bucketsOrdered_placeShares s _ (bucketsOrdered_destCard _ _ h)))

theorem bucketsOrdered_voidedCard {s : State} {c : Card} (e : Entry) (h : bucketsOrdered c.buckets) :
    bucketsOrdered (voidedCard s e c).buckets := by
  have ht := bucketsOrdered_tidy (heldParts s c) (bucketsOrdered_withoutBonus e h)
  unfold voidedCard
  dsimp only
  split
  · exact ht
  · exact ht

theorem safe_voidEffect (original shop ref : Nat) (s : State) : Safe W s (voidEffect original shop ref s).state :=
  (safe_writeEntry _ _).after ((safe_amendEntry _ _ _).after (safe_setCard fun h =>
    bucketsOrdered_voidedCard _ (bucketsOrdered_card _ h)))

theorem safe_grantEffect (id pool amount : Nat) (s : State) : Safe W s (grantEffect id pool amount s).state :=
  (safe_writeEntry _ _).after (safe_setCard fun h => bucketsOrdered_credit_getD (bucketsOrdered_card id h))

theorem safe_captureEffect (n shop amount : Nat) (ref : Option Nat) (s : State) :
    Safe W s (captureEffect n shop amount ref s).state := (safe_writeEntry _ _).after (safe_endHold _ _ _ _)

theorem safe_adjustEffect (shop : Nat) (amount : Int) (ref : Option Nat) (s : State) :
    Safe W s (adjustEffect shop amount ref s).state :=
  (safe_writeEntry _ _).after (safe_setShop fun h => ⟨(h shop).1, (h shop).2⟩)

/-- A card rewritten with its buckets as they were. -/
theorem safe_setCard_same {s : State} {id : Nat} {c : Card} (hb : c.buckets = (s.card id).buckets) : Safe W s (s.setCard id c) :=
  safe_setCard fun h => hb ▸ bucketsOrdered_card id h

theorem safe_changePool (p : Nat) (x : Pool) (s : State) : Safe W s (changePool p x s) :=
  (safe_setPool _ _ _).trans (safe_giveNotices _ _)

theorem shopBounded_definedShop {x : Shop} (category account : Nat) (c : Schedule) (h : shopBounded x) :
    shopBounded (definedShop category account c x) := by
  unfold definedShop
  split
  · exact shopBounded_unused
  · exact h

theorem safe_removedShop (shop : Nat) (s : State) : Safe W s (removedShop shop s) := by
  have h : Safe W (s.setShop shop unusedShop) (removedShop shop s) := safe_period_same rfl rfl rfl
  exact h.after (safe_setShop fun _ => shopBounded_unused)

theorem safe_scheduled (x : SchedulerMode) (n : Nat) (s : State) : Safe W s { s with period := scheduled x n s.period } := by
  cases x with
  | manual => exact safe_period id (fun _ => nofun)
  | daily => exact safe_period_same rfl rfl rfl
  | interval => exact safe_period_same rfl rfl rfl

theorem safe_setChannelEffect (n : Nat) (cfg : ChannelArg) (s : State) : Safe W s (setChannelEffect n cfg s).state := by
  unfold setChannelEffect
  dsimp only
  split
  · exact (safe_testRelease _).after ((safe_setPayoutStates _ _ _).after (safe_setChannel _ _ _))
  · exact safe_setChannel _ _ _

theorem safe_resolved (n serial i : Nat) (x : PayoutState) (s : State) : Safe W s (resolved n serial i x s) := by
  unfold resolved
  dsimp only
  split
  · exact (safe_setPayoutState _ _ _).trans (safe_setChannel _ _ _)
  · exact safe_setPayoutState _ _ _

theorem safe_resetEffect (n : Nat) (s : State) : Safe W s (resetEffect n s).state :=
  (safe_testRelease _).after ((safe_setChannel _ _ _).after (safe_setPayoutStates _ _ _))

theorem safe_routes (r : Routes) (s : State) : Safe W s { s with routes := r } := { Safe.refl (W := W) s with }

theorem safe_setCursor (l : Link) (x : Cursor) (s : State) : Safe W s (setCursor l x s) := safe_setLink id

theorem safe_readEffect (l : Link) (count : Nat) (s : State) : Safe W s (readEffect l count s).state := by
  unfold readEffect
  dsimp only
  split
  · exact safe_setCursor _ _ _
  · exact safe_setCursor _ _ _

theorem safe_restartTaken (s : State) : Safe W s (restartTaken s) :=
  { Safe.refl (W := W) s with
    tLink := linkBounded_of_le (Nat.zero_le _) (Nat.le_refl _)
    aLink := linkBounded_of_le (Nat.zero_le _) (Nat.le_refl _) }

theorem safe_initialiseTaken {s : State} (hm : s.ctrl.mode = .config) : Safe W s (initialiseTaken s) := by
  unfold initialiseTaken
  refine (safe_clearRuns _).after { Safe.refl (W := W) s with mode := fun _ => ⟨fun h => ?_, fun _ => rfl⟩ }
  rw [hm] at h
  exact absurd h (by decide)

theorem safe_inMode_config (s : State) : Safe W s (inMode .config s) := safe_ctrl fun h => ⟨nofun, h.2⟩

theorem safe_inMode_opened {s : State} (hv : s.ctrl.store = .valid) : Safe W s (inMode .opened s) :=
  safe_ctrl fun h => ⟨fun _ => hv, h.2⟩

/-- A check that has passed. -/
theorem check_passed {cs : List Check} {c : Check} (h : firstFailing cs = none) (hc : c ∈ cs) : c = none := (firstFailing_none cs).1 h c hc

/-- 11 R185: every rule that a link's permission and mode checks let through keeps the bounds. -/
theorem safe_ruleOf {i : Instr} {s : State} (hm : linkAndModeCheck (requestLink i) (requestFrame i).kind s = none) :
    Safe (i.wf = true) s (ruleOf i s).state := by
  cases i with
  | sellCard => exact safe_ruled fun _ => safe_purchase _ _ _ _ _ _ fun _ => bucketsOrdered_nil
  | reloadCard => exact safe_ruled fun _ => safe_purchase _ _ _ _ _ _ fun h => bucketsOrdered_card _ h
  | redeem => exact safe_ruled fun _ => safe_redeemEffect _ _ _ _ _
  | placeHold => exact safe_ruled fun _ => safe_placeEffect _ _ _ _ _
  | captureHold => exact safe_ruled fun _ => safe_captureEffect _ _ _ _ _
  | releaseHold => exact safe_ruled fun _ => safe_endHold _ _ _ _
  | extendHold => exact safe_ruled fun _ => safe_setHoldSlot _ _ _
  | refund => exact safe_ruled fun _ => safe_refundEffect _ _ _ _ _ _
  | voidSale => exact safe_ruled fun _ => safe_voidEffect _ _ _ _
  | freezeCard => exact safe_ruled fun _ => safe_setCard_same rfl
  | unfreezeCard => exact safe_ruled fun _ => safe_setCard_same rfl
  | closeCard => exact safe_ruled fun _ => safe_setCard_same rfl
  | grantPromo => exact safe_ruled fun _ => safe_grantEffect _ _ _ _
  | definePool => exact safe_ruled fun _ => safe_changePool _ _ _
  | addBudget => exact safe_ruled fun _ => safe_changePool _ _ _
  | setPoolState => exact safe_ruled fun _ => safe_changePool _ _ _
  | journalSeek => exact safe_ruled fun _ => safe_setCursor _ _ _
  | journalRead => exact safe_ruled fun _ => safe_readEffect _ _ _
  | defineShop => exact safe_ruled fun _ => safe_setShop fun h => shopBounded_definedShop _ _ _ (h _)
  | stageSchedule => exact safe_ruled fun _ => safe_setShop_same rfl rfl
  | setShopState => exact safe_ruled fun _ => safe_setShop_same rfl rfl
  | removeShop => exact safe_ruled fun _ => (safe_testRelease _).after (safe_removedShop _ _)
  | adjustCarry => exact safe_ruled fun _ => safe_adjustEffect _ _ _ _
  | clearAttention => exact safe_ruled fun _ => safe_setShop_same rfl rfl
  | setPayoutAccount => exact safe_ruled fun _ => safe_setShop_same rfl rfl
  | closePeriod => exact safe_ruled fun _ => safe_takeClose _ _
  | setScheduler => exact safe_ruled fun _ => safe_scheduled _ _ _
  | setChannel => exact safe_ruled fun _ => safe_setChannelEffect _ _ _
  | startRun => exact safe_ruled fun _ => safe_setChannel _ _ _
  | payoutResult => exact safe_ruled fun _ => (safe_testRelease _).after (safe_resolved _ _ _ _ _)
  | suspendChannel => exact safe_ruled fun _ => safe_setChannel _ _ _
  | resumeChannel => exact safe_ruled fun _ => safe_setChannel _ _ _
  | resetChannel => exact safe_ruled fun _ => safe_resetEffect _ _
  | setTime l tag clock =>
    refine safe_time fun w h => ⟨?_, h.2⟩
    simpa [Instr.wf, fits] using (Bool.and_eq_true_iff.1 w).2
  | setDay l tag day =>
    refine safe_time fun w h => ⟨h.1, ?_, h.2.2⟩
    have hd : fits 2 day = true := (Bool.and_eq_true_iff.1 w).2
    exact Nat.le_of_lt_succ (by simpa [fits] using hd)
  | setRollover l tag second =>
    refine safe_ruled fun hp => safe_time fun _ h => ⟨h.1, h.2.1, ?_⟩
    simpa using check_passed hp (c := require (second < Config.daySeconds) .badField) (by simp)
  | setTrading => exact safe_time_same rfl rfl rfl
  | advanceDay => exact safe_rollDay _ _
  | enterConfig => exact safe_ruled fun _ => safe_inMode_config _
  | openPart =>
    refine safe_ruled fun hp => safe_inMode_opened ?_
    simpa using check_passed hp (c := require (s.ctrl.store = .valid) .storeBlank) (by simp [openChecks])
  | restart => exact safe_restartTaken _
  | storeInitialise =>
    obtain ⟨-, -, -, -, hc⟩ := (modeCheck_none _ _ _).1 hm
    exact safe_initialiseTaken (hc.resolve_right (fun h => h rfl))
  | setRoute => exact safe_ruled fun _ => safe_routes _ _
  | balance | lookupReference | cardDetail | holdDetail | poolStatus | shopPosition | periodSummary | channelStatus =>
    exact safe_ruled fun _ => Safe.refl _
  | valueSummary | periodStatus | timeStatus | identify | partStatus => exact Safe.refl _
  | unknownRequest | frameReceived | frameGapTimeout | frameSent | linkReset | breakEnded | tick | holdExpiry | confirmTimeout
  | intervalCountdownExpiry | dayRollover | sweepVisit | sweepEnd | closeComputeStep | closeComputationEnd | runWalkStep
  | payoutOfferEntersQueue | storeInitialiseComplete | restartAfterDrain | powerOn | lossOfPower => exact Safe.refl _

/-! ## What a request keeps -/

theorem safe_finish (l : Link) (d : Done) : Safe W d.state (finish l d) := by
  unfold finish
  refine (safe_giveNotices _ _).after ?_
  cases d.answer with
  | none => exact Safe.refl _
  | some a => exact safe_placeReply _ _ _

theorem safe_carryOut {c : Instr} {rule : State → Done} {s : State}
    (h : linkAndModeCheck (requestLink c) (requestFrame c).kind s = none → Safe W s (rule s).state) : Safe W s (carryOut c rule s) := by
  cases hm : linkAndModeCheck (requestLink c) (requestFrame c).kind s with
  | none =>
    rw [carryOut_pass hm]
    exact (safe_finish _ _).after (h hm)
  | some a =>
    rw [carryOut_fail hm]
    exact safe_placeReply _ _ _

theorem safe_taken {c : Instr} {s t : State} (h : taken c s = some t) : Safe W s t := by
  unfold taken at h
  split at h
  · exact (safe_settle s).trans (safe_takeFrame h)
  · exact absurd h (by simp)

theorem safe_untaken (c : Instr) (s : State) : Safe W s (untaken c s) := by
  unfold untaken
  split
  · exact (safe_settle s).trans (safe_arrive _ _ _)
  · exact Safe.refl s

theorem safe_takeRequest {c : Instr} {rule : State → Done} {s t : State}
    (hr : ∀ u, linkAndModeCheck (requestLink c) (requestFrame c).kind u = none → Safe W u (rule u).state)
    (h : takeRequest c rule s = .next t) : Safe W s t := by
  rw [takeRequest_next, Host.Outcome.next.injEq] at h
  subst h
  cases ht : taken c s with
  | none => exact safe_untaken c s
  | some u => exact (safe_taken ht).trans (safe_carryOut (hr u))

/-! ## What an event keeps -/

theorem safe_event {f : State → State} {s t : State} (hf : ∀ u, Safe W u (f u)) (h : event f s = .next t) : Safe W s t := by
  rw [event, Host.Outcome.next.injEq] at h
  subst h
  split
  · exact (safe_settle s).trans (hf _)
  · exact Safe.refl s

theorem safe_dueEvent {f : State → State} {s t : State} (hf : ∀ u, Safe W u (f u)) (h : dueEvent f s = .next t) : Safe W s t := by
  rw [dueEvent, Host.Outcome.next.injEq] at h
  subst h
  split
  · exact (safe_enterOffers s).trans (hf _)
  · exact Safe.refl s

theorem safe_lineEvent {f : State → State} {s t : State} (hf : ∀ u, Safe W u (f u)) (h : lineEvent f s = .next t) : Safe W s t := by
  rw [lineEvent, Host.Outcome.next.injEq] at h
  subst h
  split
  · exact hf _
  · exact Safe.refl s

theorem linkBounded_byteAt (k : LinkState) (b : Byte) (h : linkBounded k = true) : linkBounded (byteAt k b) = true := by
  unfold byteAt
  split
  · exact h
  · split
    · exact h
    · exact h
    · exact linkBounded_arriveAt _ h

theorem linkBounded_bytesAt (bs : List Byte) {k : LinkState} (h : linkBounded k = true) : linkBounded (bytesAt k bs) = true := by
  induction bs generalizing k with
  | nil => exact h
  | cons b bs ih => exact ih (linkBounded_byteAt k b h)

theorem linkBounded_gapAt {k : LinkState} (h : linkBounded k = true) : linkBounded (gapAt k) = true := by
  unfold gapAt
  split
  · exact h
  · exact h

theorem linkBounded_sentAt {k : LinkState} (h : linkBounded k = true) : linkBounded (sentAt k) = true := by
  unfold sentAt
  split
  · exact h
  · refine linkBounded_of_le (k := k) (Nat.le_refl _) ?_ h
    simp

theorem linkBounded_resetLink {k : LinkState} (h : linkBounded k = true) : linkBounded (resetLink k) = true := by
  unfold resetLink
  split
  · exact h
  · refine linkBounded_of_le (Nat.zero_le _) ?_ h
    cases k.busy <;> simp

theorem safe_freeing {f : LinkState → LinkState} (hf : ∀ {k}, linkBounded k = true → linkBounded (f k) = true) (l : Link) (s : State) :
    Safe W s (freeing f l s) := (safe_enterOffers _).after (safe_setLink hf)

theorem tableCanonical_map {α : Type} [DecidableEq α] {d : α} {t : Table α} (f : α → α) (hf : ∀ x, x ≠ d → f x ≠ d)
    (h : tableCanonical d t = true) : tableCanonical d (t.map (fun e => (e.1, f e.2))) = true := by
  obtain ⟨hr, hd⟩ := (tableCanonical_iff _ _).1 h
  refine (tableCanonical_iff _ _).2 ⟨tableRising_map _ (fun _ => rfl) hr, fun e he => ?_⟩
  obtain ⟨e', he', rfl⟩ := List.mem_map.1 he
  exact hf _ (hd e' he')

/-- A change of the hold in a slot makes no FREE first slot of another. -/
theorem mapHold_ne_free (g : Hold → Hold) {x : HoldSlot} (h : x ≠ freeHoldSlot) : { x with hold := x.hold.map g } ≠ freeHoldSlot := by
  obtain ⟨gen, lastEnd, hold⟩ := x
  cases hold with
  | none => exact h
  | some y => simp [freeHoldSlot]

theorem tickChannel_ne_idle {c : Channel} (h : c ≠ idleChannel) : tickChannel c ≠ idleChannel := by
  unfold tickChannel
  split
  · rename_i hw
    intro hx
    have := congrArg Channel.state hx
    simp [hw, idleChannel] at this
  · exact h

theorem safe_tickState (s : State) : Safe W s (tickState s) where
  pending := rfl
  cards := id
  ordered := id
  holds := tableCanonical_map tickHold (fun _ => mapHold_ne_free _)
  pools := id
  shops := id
  channels := tableCanonical_map tickChannel (fun _ => tickChannel_ne_idle)
  positions := id
  journal := id
  time := fun _ h => ⟨Nat.mod_lt _ (by decide), h.2⟩
  counters := fun h => ⟨by
    have : (tickState s).period.summaries = s.period.summaries := by
      simp only [tickState]
      split <;> rfl
    rw [this]
    exact h.1, h.2⟩
  mode := id
  tLink := id
  aLink := id
  pendingClose := fun h => by
    have hp : (tickState s).period.closePending = s.period.closePending ∧ (tickState s).period.state = s.period.state := by
      simp only [tickState]
      split <;> exact ⟨rfl, rfl⟩
    rw [pendingCloseBusy, hp.1, hp.2]
    exact h

theorem safe_confirmEnd (n : Nat) (s : State) : Safe W s (confirmEnd n s) := by
  unfold confirmEnd
  split
  · exact safe_timeOut _ _
  · exact Safe.refl s

theorem safe_initialiseDone (s : State) : Safe W s (initialiseDone s) := by
  unfold initialiseDone
  split
  · refine (safe_placeReply _ _ _).after
      { safe_initialBlocks (W := W) s with
        mode := fun _ => ⟨fun _ => rfl, nofun⟩
        tLink := fun _ => linkBounded_idle rfl rfl
        aLink := fun _ => linkBounded_idle rfl rfl }
  · exact Safe.refl s

/-! ## What the supply keeps -/

/-- 10 R175: a loss of power, from the state with the runs cleared. -/
def unpowerRegisters (u : State) : State :=
  { u with
    power := false
    ctrl := { u.ctrl with mode := .config, initInFlight := false, draining := false }
    time := { u.time with clock := 0, timeSet := false, trading := false, rolloverDue := false, handed := [] }
    tLink := { idleLink with inBreak := u.tLink.inBreak }
    aLink := { idleLink with inBreak := u.aLink.inBreak }
    holds := u.holds.map (fun e =>
      (e.1, { e.2 with hold := e.2.hold.map (fun h => { h with remaining := 0, extensions := 0 }) }))
    sweep := idleSweep
    sau := { accumulator := 0, saturated := false }
    period := { u.period with countdown := 0 } }

/-- A fold of writes to the channels leaves all else as it is. -/
theorem foldl_channels_frame {α : Type} {f : State → α → State} (h : ∀ s a, f s a = { s with channels := (f s a).channels })
    (l : List α) (s : State) : l.foldl f s = { s with channels := (l.foldl f s).channels } := by
  induction l generalizing s with
  | nil => rfl
  | cons a l ih =>
    rw [List.foldl_cons, ih, h s a]

theorem clearRuns_frame (s : State) : clearRuns s = { s with channels := (clearRuns s).channels } :=
  foldl_channels_frame (f := fun s n => s.setChannel n (clearRun (s.channel n))) (fun _ _ => rfl) _ s

theorem unpowered_eq (s : State) : unpowered s = unpowerRegisters (clearRuns s) := by
  unfold unpowered
  rw [clearRuns_frame]
  rfl

theorem safe_unpowerRegisters (u : State) : Safe W u (unpowerRegisters u) :=
  { Safe.refl (W := W) u with
    holds := tableCanonical_map (fun x : HoldSlot => { x with hold := x.hold.map (fun h => { h with remaining := 0, extensions := 0 }) })
      (fun _ => mapHold_ne_free _)
    time := fun _ h => ⟨Nat.two_pow_pos 32, h.2⟩
    mode := fun _ => ⟨nofun, nofun⟩
    tLink := fun _ => linkBounded_idle rfl rfl
    aLink := fun _ => linkBounded_idle rfl rfl }

theorem safe_unpowered (s : State) : Safe W s (unpowered s) := by
  rw [unpowered_eq]
  exact (safe_clearRuns s).trans (safe_unpowerRegisters _)

theorem safe_markRead {s : State} (hi : s.ctrl.initInFlight = false) : Safe W s (markRead s) := by
  unfold markRead
  split
  · refine (safe_restartBlocks _ _).after (safe_ctrl fun h => ⟨fun _ => rfl, fun hf => ?_⟩)
    rw [hi] at hf
    exact absurd hf (by decide)
  · exact
      { safe_initialBlocks (W := W) s with
        mode := fun _ => ⟨nofun, nofun⟩
        tLink := fun _ => linkBounded_idle rfl rfl
        aLink := fun _ => linkBounded_idle rfl rfl }

theorem safe_power (s : State) (b : Bool) : Safe W s { s with power := b } := { Safe.refl (W := W) s with }

theorem safe_powered (s : State) : Safe W s (powered s) :=
  (safe_markRead rfl).after ((safe_power _ true).after (safe_unpowered s))

/-! ## What a command keeps -/

theorem exec_unknownRequest (l : Link) (tag kind : Nat) (payload : List Byte) (s : State) :
    exec (.unknownRequest l tag kind payload) s =
      .next (match (if decodeRequest l (requestFrame (.unknownRequest l tag kind payload)) = .unknownRequest l tag kind payload
          then taken (.unknownRequest l tag kind payload) s else none) with
        | some t => finish l (answered t (strangerAnswer l kind))
        | none => untaken (.unknownRequest l tag kind payload) s) := rfl

theorem safe_unknownRequest {l : Link} {tag kind : Nat} {payload : List Byte} {s t : State}
    (h : exec (.unknownRequest l tag kind payload) s = .next t) : Safe W s t := by
  rw [exec_unknownRequest, Host.Outcome.next.injEq] at h
  subst h
  split
  · rename_i u hu
    split at hu
    · exact (safe_finish l (answered u _)).after (safe_taken hu)
    · exact absurd hu (by simp)
  · exact safe_untaken _ s

/-- Every command keeps the bounds. -/
theorem exec_safe {c : Instr} {s t : State} (h : exec c s = .next t) : Safe (c.wf = true) s t := by
  cases hq : isRequest c with
  | true =>
    rw [exec_request hq] at h
    exact safe_takeRequest (fun _ => safe_ruleOf) h
  | false =>
    cases c with
    | unknownRequest => exact safe_unknownRequest h
    | frameReceived l bytes => exact safe_lineEvent (fun _ => safe_setLink (linkBounded_bytesAt bytes)) h
    | frameGapTimeout => exact safe_lineEvent (fun _ => safe_setLink linkBounded_gapAt) h
    | frameSent => exact safe_event (safe_freeing linkBounded_sentAt _) h
    | linkReset => exact safe_event (safe_freeing linkBounded_resetLink _) h
    | breakEnded l => exact safe_lineEvent (f := fun s => s.setLink l { s.link l with inBreak := false }) (fun _ => safe_setLink id) h
    | tick => exact safe_event safe_tickState h
    | holdExpiry => exact safe_dueEvent (safe_expireHold _) h
    | confirmTimeout => exact safe_dueEvent (safe_confirmEnd _) h
    | intervalCountdownExpiry => exact safe_dueEvent safe_intervalExpiry h
    | dayRollover => exact safe_dueEvent safe_rolloverAction h
    | sweepVisit => exact safe_event safe_sweepStep h
    | sweepEnd => exact safe_event safe_sweepFinish h
    | closeComputeStep => exact safe_event safe_computeStep h
    | closeComputationEnd => exact safe_event safe_endComputation h
    | runWalkStep => exact safe_event (safe_walkStep _) h
    | payoutOfferEntersQueue => exact safe_lineEvent safe_offerEnters h
    | storeInitialiseComplete => exact safe_event safe_initialiseDone h
    | restartAfterDrain => exact safe_event safe_restartDrained h
    | powerOn =>
      obtain rfl := Host.Outcome.next.inj h
      exact safe_powered s
    | lossOfPower =>
      have hl : exec .lossOfPower s = .next (if s.power then unpowered s else s) := rfl
      rw [hl, Host.Outcome.next.injEq] at h
      subst h
      split
      · exact safe_unpowered s
      · exact Safe.refl s
    | _ => exact absurd hq (by simp [isRequest])

/-! ## What a step keeps -/

/-- A step is the front command on the queue's rest, or nothing. -/
theorem step_cases {s t : State} (h : step s = .next t) :
    t = s ∨ ∃ c rest, s.pending = c :: rest ∧ exec c (s.withPending rest) = .next t := by
  unfold step at h
  split at h
  · exact .inl (Host.Outcome.next.inj h).symm
  · rename_i c rest hp
    exact .inr ⟨c, rest, hp, h⟩

/-- A step keeps every bound, as each of its commands does; the clock's where the waiting commands are well formed. -/
theorem step_safe {s t : State} (h : step s = .next t) :
    (t.pending = s.pending ∨ ∃ c, s.pending = c :: t.pending) ∧
      Safe (queueFormed s) { s with pending := t.pending } t := by
  rcases step_cases h with rfl | ⟨c, rest, hp, he⟩
  · exact ⟨.inl rfl, Safe.refl t⟩
  · have hs := exec_safe he
    have ht : t.pending = rest := hs.pending
    refine ⟨.inr ⟨c, by rw [hp, ht]⟩, ?_⟩
    rw [ht]
    exact { hs with time := fun w => hs.time (w c (by rw [hp]; exact List.mem_cons_self)) }

theorem exec_next (c : Instr) (s : State) : ∃ t, exec c s = .next t := by
  cases c with
  | _ => exact ⟨_, rfl⟩

/-- Settles O2: every arm of the dispatch answers with a next state, and no operation writes the queue of waiting commands. -/
theorem everyCommandAnswersNext : Obligations.EveryCommandAnswersNext := fun c s =>
  (exec_next c s).imp fun _ h => ⟨h, (exec_safe h).pending⟩

/-- Settles O5: every rewriting of a shop posts with the clamp, or moves or clears the positions as they stand. -/
theorem positionsStayBounded : Obligations.PositionsStayBounded := fun _ _ hp h => (step_safe h).2.positions hp

/-- Settles O6: whatever joins a queue has found room. -/
theorem linksStayBounded : Obligations.LinksStayBounded := fun _ _ hl h => ⟨(step_safe h).2.tLink hl.1, (step_safe h).2.aLink hl.2⟩

end Sys2Proof.Proofs.Steps
end

section
/-! The journal's period order: which operations leave the journal, the value and the period numbers alone, which write an entry, and that
one command closes at most twice. -/

namespace Sys2Proof.Proofs.Periods

open Sys2Proof Sys2Proof.Machine Sys2Proof.Laws Sys2Proof.Proofs.Links Sys2Proof.Proofs.Bounds Sys2Proof.Proofs.Steps

/-! ## Operations that leave the journal and the period numbers alone -/

/-- The journal, the period numbers and the closing state stay. -/
structure Still (s t : State) : Prop where
  journal : t.journal = s.journal
  live : t.period.live = s.period.live
  closing : t.period.closing = s.period.closing
  state : t.period.state = s.period.state

/-- The same, and the cards, the holds and the pools stay: no value moves. -/
structure Calm (s t : State) : Prop extends Still s t where
  cards : t.cards = s.cards
  holds : t.holds = s.holds
  pools : t.pools = s.pools

theorem Still.refl (s : State) : Still s s := ⟨rfl, rfl, rfl, rfl⟩

theorem Still.trans {s t u : State} (h : Still s t) (h' : Still t u) : Still s u :=
  ⟨h'.journal.trans h.journal, h'.live.trans h.live, h'.closing.trans h.closing, h'.state.trans h.state⟩

theorem Still.after {s t u : State} (h' : Still t u) (h : Still s t) : Still s u := h.trans h'

theorem Calm.refl (s : State) : Calm s s := ⟨Still.refl s, rfl, rfl, rfl⟩

theorem Calm.trans {s t u : State} (h : Calm s t) (h' : Calm t u) : Calm s u :=
  ⟨h.toStill.trans h'.toStill, h'.cards.trans h.cards, h'.holds.trans h.holds, h'.pools.trans h.pools⟩

theorem Calm.after {s t u : State} (h' : Calm t u) (h : Calm s t) : Calm s u := h.trans h'

/-- A relation that holds of every step of a fold, and is reflexive and transitive, holds of the fold. -/
theorem foldl_rel {α : Type} {R : State → State → Prop} (hr : ∀ s, R s s) (ht : ∀ {s t u}, R s t → R t u → R s u)
    {f : State → α → State} (h : ∀ s a, R s (f s a)) (l : List α) (s : State) : R s (l.foldl f s) := by
  induction l generalizing s with
  | nil => exact hr s
  | cons a l ih => exact ht (h s a) (ih _)

theorem still_foldl {α : Type} {f : State → α → State} (h : ∀ s a, Still s (f s a)) (l : List α) (s : State) : Still s (l.foldl f s) :=
  foldl_rel Still.refl Still.trans h l s

theorem calm_foldl {α : Type} {f : State → α → State} (h : ∀ s a, Calm s (f s a)) (l : List α) (s : State) : Calm s (l.foldl f s) :=
  foldl_rel Calm.refl Calm.trans h l s

/-- Where the journal, the Period Controller, the cards, the holds and the pools are the same. -/
theorem calm_of {s t : State} (hj : t.journal = s.journal) (hp : t.period = s.period) (hc : t.cards = s.cards)
    (hh : t.holds = s.holds) (hpl : t.pools = s.pools) : Calm s t :=
  ⟨⟨hj, by rw [hp], by rw [hp], by rw [hp]⟩, hc, hh, hpl⟩

theorem calm_setLink (l : Link) (k : LinkState) (s : State) : Calm s (s.setLink l k) := calm_of (by simp) (by simp) (by simp) (by simp) (by simp)

theorem calm_setShop (i : Nat) (x : Shop) (s : State) : Calm s (s.setShop i x) := calm_of rfl rfl rfl rfl rfl

theorem calm_setChannel (n : Nat) (x : Channel) (s : State) : Calm s (s.setChannel n x) := calm_of rfl rfl rfl rfl rfl

theorem calm_giveNotice (n : Notice) (s : State) : Calm s (giveNotice n s) := calm_of (by simp) (by simp) (by simp) (by simp) (by simp)

theorem calm_giveNotices (ns : List Notice) (s : State) : Calm s (giveNotices ns s) :=
  calm_of (by simp) (by simp) (by simp) (by simp) (by simp)

theorem calm_finish (l : Link) (d : Done) : Calm d.state (finish l d) := calm_of (by simp) (by simp) (by simp) (by simp) (by simp)

theorem calm_placeReply (l : Link) (a : Answer) (s : State) : Calm s (placeReply l a s) := calm_setLink _ _ _

theorem calm_setPayoutStates (is : List Nat) (x : PayoutState) (s : State) : Calm s (setPayoutStates is x s) :=
  calm_foldl (f := fun s i => setPayoutState i x s) (fun _ _ => calm_setShop _ _ _) is s

theorem calm_enterOffers (s : State) : Calm s (enterOffers s) := by
  rw [enterOffers_frame]
  exact calm_of rfl rfl rfl rfl rfl

theorem calm_timeOuts (s : State) : Calm s (timeOuts s) := by
  refine calm_foldl (fun s n => ?_) _ s
  split
  · unfold timeOut
    dsimp only
    split
    · exact (calm_setChannel _ _ _).trans (calm_giveNotice _ _)
    · exact calm_setChannel _ _ _
  · exact Calm.refl s

theorem calm_rollDay (cause : Nat) (s : State) : Calm s (rollDay cause s) :=
  (calm_giveNotice _ _).after (calm_of rfl rfl rfl rfl rfl)

theorem calm_takeRollover (s : State) : Calm s (takeRollover s) := by
  unfold takeRollover
  split
  · exact (calm_rollDay _ _).after (calm_of rfl rfl rfl rfl rfl)
  · exact Calm.refl s

theorem calm_endRuns (period : Nat) (s : State) : Calm s (endRuns period s) := by
  refine calm_foldl (fun s n => ?_) _ s
  split
  · exact (calm_giveNotice _ _).after (calm_setChannel _ _ _)
  · exact Calm.refl s

theorem calm_releaseShops (s : State) : Calm s (releaseShops s) :=
  calm_foldl (f := fun s i => s.setShop i (releaseShop (s.shop i))) (fun _ _ => calm_setShop _ _ _) _ s

theorem calm_clearRuns (s : State) : Calm s (clearRuns s) := by
  rw [clearRuns_frame]
  exact calm_of rfl rfl rfl rfl rfl

theorem calm_autoStart (s : State) : Calm s (autoStart s) := by
  refine calm_foldl (fun s n => ?_) _ s
  dsimp only
  split
  · exact calm_setChannel _ _ _
  · exact Calm.refl s

theorem calm_startCursors (s : State) : Calm s (startCursors s) := by
  refine calm_foldl (fun s n => ?_) _ s
  dsimp only
  split
  · exact Calm.refl s
  · exact calm_setChannel _ _ _

theorem calm_assignPayouts (s : State) : Calm s (assignPayouts s) :=
  calm_foldl (f := fun t i => t.setShop i { t.shop i with payout := assignedPayout s i (t.shop i) }) (fun _ _ => calm_setShop _ _ _) _ s

theorem calm_computeStep (s : State) : Calm s (computeStep s) := by
  unfold computeStep
  split
  · split
    · exact ⟨⟨rfl, rfl, rfl, rfl⟩, rfl, rfl, rfl⟩
    · exact ⟨⟨rfl, rfl, rfl, rfl⟩, rfl, rfl, rfl⟩
  · exact Calm.refl s

theorem calm_walkStep (n : Nat) (s : State) : Calm s (walkStep n s) := by
  unfold walkStep
  dsimp only
  split
  · split
    · exact calm_of rfl rfl rfl rfl rfl
    · exact (calm_giveNotice _ _).after (calm_setChannel _ _ _)
  · exact Calm.refl s

theorem calm_enterOffer (n : Nat) (s : State) : Calm s (enterOffer n s) := by
  rw [enterOffer_frame]
  exact calm_of rfl rfl rfl rfl rfl

theorem calm_offerEnters (s : State) : Calm s (offerEnters s) := by
  unfold offerEnters
  split
  · exact calm_enterOffer _ _
  · exact Calm.refl s

theorem calm_confirmEnd (n : Nat) (s : State) : Calm s (confirmEnd n s) := by
  unfold confirmEnd
  split
  · unfold timeOut
    dsimp only
    split
    · exact (calm_setChannel _ _ _).trans (calm_giveNotice _ _)
    · exact calm_setChannel _ _ _
  · exact Calm.refl s

theorem calm_makeUncertain (s : State) : Calm s (makeUncertain s) := calm_setPayoutStates _ _ s

theorem calm_uncomputed (s : State) : Calm s (uncomputed s) := calm_foldl (f := uncompute) (fun _ _ => calm_setShop _ _ _) _ s

theorem calm_restartPeriod (s : State) : Calm s (restartPeriod s) := by
  rw [restartPeriod_eq]
  split
  · have h := calm_uncomputed s
    exact ⟨⟨h.journal, by simp, by simp, by simp⟩, h.cards, h.holds, h.pools⟩
  · exact ⟨⟨rfl, by simp, by simp, by simp⟩, rfl, rfl, rfl⟩

/-! ## Operations that move value but write no entry -/

theorem still_setCard (id : Nat) (c : Card) (s : State) : Still s (s.setCard id c) := ⟨rfl, rfl, rfl, rfl⟩

theorem still_setPool (p : Nat) (x : Pool) (s : State) : Still s (s.setPool p x) := ⟨rfl, rfl, rfl, rfl⟩

theorem still_setHoldSlot (n : Nat) (x : HoldSlot) (s : State) : Still s (s.setHoldSlot n x) := ⟨rfl, rfl, rfl, rfl⟩

theorem still_endHold (n : Nat) (back : Split) (x : LastEnd) (s : State) : Still s (endHold n back x s) :=
  ⟨by simp, by simp, by simp, by simp⟩

theorem still_expireHold (n : Nat) (s : State) : Still s (expireHold n s) := by
  unfold expireHold
  split
  · split
    · exact (still_endHold _ _ _ _).trans (calm_giveNotice _ _).toStill
    · exact Still.refl s
  · exact Still.refl s

theorem still_visitCard (id : Nat) (c : Card) (s : State) : Still s (visitCard id c s) := by
  unfold visitCard
  refine Still.trans (still_setCard id _ s) (still_foldl (fun s b => ?_) _ _)
  exact ⟨rfl, rfl, rfl, rfl⟩

theorem still_sweepStep (s : State) : Still s (sweepStep s) := by
  unfold sweepStep
  split
  · split
    · have h := still_visitCard
      exact ⟨(h _ _ s).journal, (h _ _ s).live, (h _ _ s).closing, (h _ _ s).state⟩
    · exact ⟨rfl, rfl, rfl, rfl⟩
  · exact Still.refl s

theorem still_changePool (p : Nat) (x : Pool) (s : State) : Still s (changePool p x s) :=
  (still_setPool p x s).trans (calm_giveNotices _ _).toStill

theorem still_tickState (s : State) : Still s (tickState s) := by
  refine ⟨rfl, ?_, ?_, ?_⟩ <;> simp only [tickState] <;> split <;> rfl

theorem still_unpowered (s : State) : Still s (unpowered s) := by
  rw [unpowered_eq]
  have h : Still (clearRuns s) (unpowerRegisters (clearRuns s)) := ⟨rfl, rfl, rfl, rfl⟩
  exact h.after (calm_clearRuns s).toStill

theorem still_restarted (cause : RestartCause) (s : State) : Still s (restarted cause s) := by
  have h0 : Still s (restartRegisters cause s) := ⟨rfl, rfl, rfl, rfl⟩
  exact ((((h0.trans (calm_clearRuns _).toStill).trans (still_foldl (fun _ _ => still_endHold _ _ _ _) _ _)).trans
    (calm_makeUncertain _).toStill).trans (calm_restartPeriod _).toStill)

/-! ## Closes -/

/-- What an action makes of the period order: it keeps it; the live period stays, or a close is taken, which leaves the record CLOSING, as
it is then left. -/
def Turn (s t : State) : Prop :=
  periodsOrdered s → (s.period.state ≠ .closing → s.period.live + 1 ≤ Config.topNumber) →
    periodsOrdered t ∧
      ((t.period.live = s.period.live ∧ (s.period.state = .closing → t.period.state = .closing)) ∨
        (s.period.state ≠ .closing ∧ t.period.live = s.period.live + 1 ∧ t.period.state = .closing))

theorem Turn.trans {s t u : State} (h : Turn s t) (h' : Turn t u) : Turn s u := by
  intro ho hroom
  obtain ⟨ht, hcase⟩ := h ho hroom
  rcases hcase with ⟨hl, hs⟩ | ⟨hs, hl, hc⟩
  · obtain ⟨hu, hcase⟩ := h' ht (fun hn => by
      rw [hl]
      exact hroom (fun hc => hn (hs hc)))
    refine ⟨hu, ?_⟩
    rcases hcase with ⟨hl', hs'⟩ | ⟨hs', hl', hc'⟩
    · exact .inl ⟨hl'.trans hl, fun hc => hs' (hs hc)⟩
    · exact .inr ⟨fun hc => hs' (hs hc), by rw [hl', hl], hc'⟩
  · obtain ⟨hu, hcase⟩ := h' ht (fun hn => absurd hc hn)
    refine ⟨hu, ?_⟩
    rcases hcase with ⟨hl', hs'⟩ | ⟨hs', -, -⟩
    · exact .inr ⟨hs, by rw [hl', hl], hs' hc⟩
    · exact absurd hc hs'

theorem Turn.after {s t u : State} (h' : Turn t u) (h : Turn s t) : Turn s u := h.trans h'

theorem Still.turn {s t : State} (h : Still s t) : Turn s t := by
  intro ho _
  refine ⟨?_, .inl ⟨h.live, fun hc => h.state.trans hc⟩⟩
  unfold periodsOrdered journalOrdered at *
  rw [h.journal, h.live, h.closing]
  exact ho

theorem Turn.refl (s : State) : Turn s s := (Still.refl s).turn

theorem turn_foldl {α : Type} {f : State → α → State} (h : ∀ s a, Turn s (f s a)) (l : List α) (s : State) : Turn s (l.foldl f s) :=
  foldl_rel Turn.refl Turn.trans h l s

theorem takeClose_period (cause : CloseCause) (s : State) :
    (takeClose cause s).period.live = periodAfter s.period.live ∧ (takeClose cause s).period.closing = s.period.live ∧
      (takeClose cause s).period.state = .closing := by
  simp [takeClose]

/-- 07 R127: a close moves the live period on, and only the next one. -/
theorem turn_takeClose {cause : CloseCause} {s : State} (hs : s.period.state ≠ .closing) : Turn s (takeClose cause s) := by
  intro ho hroom
  obtain ⟨hl, hc, hst⟩ := takeClose_period cause s
  have hlive : (takeClose cause s).period.live = s.period.live + 1 := by
    have := hroom hs
    rw [hl, periodAfter, if_neg (by omega)]
  refine ⟨?_, .inr ⟨hs, hlive, hst⟩⟩
  obtain ⟨⟨hpair, hle, hrel⟩, -⟩ := ho
  refine ⟨⟨hpair, fun e he => ?_, ?_⟩, ?_⟩
  · rw [hlive]
    exact Nat.le_succ_of_le (hle e he)
  · rw [hlive]
    exact Nat.lt_succ_of_lt hrel
  · rw [hc, hlive]
    exact Nat.lt_succ_self _

theorem turn_scheduleClose (cause : CloseCause) (s : State) : Turn s (scheduleClose cause s) := by
  unfold scheduleClose
  split
  · rename_i h
    exact turn_takeClose (by simp [h])
  · exact (Still.turn ⟨rfl, rfl, rfl, rfl⟩)

theorem turn_intervalExpiry (s : State) : Turn s (intervalExpiry s) := by
  unfold intervalExpiry
  split
  · have h : ∀ u : State, Still u { u with period := loadCountdown u.period } := fun u => ⟨rfl, by simp, by simp, by simp⟩
    exact (turn_scheduleClose _ _).trans (h _).turn
  · exact Turn.refl s

theorem turn_takePending {s : State} (hs : s.period.state ≠ .closing) : Turn s (takePending s) := by
  unfold takePending
  split
  · have h : ∀ u : State, Still u { u with period := { u.period with closePending := none } } := fun u => ⟨rfl, rfl, rfl, rfl⟩
    exact (turn_takeClose hs).trans (h _).turn
  · exact Turn.refl s

/-- 05 R90, 07 R138: the release sets the released period below the live one. -/
theorem turn_releasedBlocks {s : State} (hs : s.period.state ≠ .closing) : Turn s (releasedBlocks s) := by
  intro ho _
  have h := calm_releaseShops s
  have hl : (releasedBlocks s).period.live = s.period.live := h.live
  have hc : (releasedBlocks s).period.closing = s.period.closing := h.closing
  have hj : (releasedBlocks s).journal = { s.journal with released := s.period.closing } := by
    rw [← h.journal]
    rfl
  refine ⟨?_, .inl ⟨hl, fun hst => absurd hst hs⟩⟩
  obtain ⟨⟨hpair, hle, -⟩, hcl⟩ := ho
  unfold periodsOrdered journalOrdered
  rw [hj, hl, hc]
  exact ⟨⟨hpair, hle, hcl⟩, hcl⟩

theorem releaseHolds_settling {s : State} (h : releaseHolds s = true) : s.period.state = .settling := by
  unfold releaseHolds at h
  simpa using (Bool.and_eq_true_iff.1 h).1

theorem turn_release {s : State} (hs : s.period.state = .settling) : Turn s (release s) := by
  rw [release_eq]
  have hrel : (releasedBlocks s).period.state = .released := rfl
  have hcalm := (calm_giveNotices (reserveEdge s (releasedBlocks s)) (releasedBlocks s)).trans (calm_endRuns s.period.closing _)
  refine ((turn_releasedBlocks (by simp [hs])).trans hcalm.toStill.turn).trans (turn_takePending ?_)
  rw [hcalm.state, hrel]
  simp

theorem turn_testRelease (s : State) : Turn s (testRelease s).1 := by
  rw [testRelease_fst]
  split
  · rename_i h
    exact turn_release (releaseHolds_settling h)
  · exact Turn.refl s

theorem turn_restartBlocks (cause : RestartCause) (s : State) : Turn s (restartBlocks cause s) := by
  rw [restartBlocks_eq]
  exact (((still_restarted cause s).turn.trans (calm_giveNotices _ _).toStill.turn).trans (turn_testRelease _)).trans
    (calm_giveNotices _ _).toStill.turn

theorem turn_restartDrained (s : State) : Turn s (restartDrained s) := by
  unfold restartDrained
  split
  · exact turn_restartBlocks _ _
  · exact Turn.refl s

/-- What is due closes at most once before a command. -/
theorem turn_settle (s : State) : Turn s (settle s) := by
  unfold settle
  exact (((((calm_enterOffers s).toStill.turn.trans (still_foldl (fun s n => still_expireHold n s) _ _).turn).trans
    (calm_timeOuts _).toStill.turn).trans (turn_intervalExpiry _)).trans (calm_takeRollover _).toStill.turn).trans
    (turn_restartDrained _)

theorem turn_react (b : Reactor) (s : State) : Turn s (react b s) := by
  unfold react
  cases b with
  | poolTable =>
    have h : Still s (startSweep s) := ⟨rfl, rfl, rfl, rfl⟩
    exact (h.trans (calm_giveNotices _ _).toStill).turn
  | periodController =>
    dsimp only
    split
    · exact turn_scheduleClose _ _
    · exact Turn.refl s
  | journal =>
    dsimp only
    split
    · exact (calm_giveNotice _ _).toStill.turn
    · exact Turn.refl s

theorem turn_rolloverAction (s : State) : Turn s (rolloverAction s) := by
  unfold rolloverAction
  split
  · exact (calm_takeRollover s).toStill.turn
  · unfold nextReaction
    split
    · exact Turn.refl s
    · have h : ∀ b, Still s { s with time := { s.time with handed := s.time.handed.erase b, turn := s.time.turn + 1 } } :=
        fun _ => ⟨rfl, rfl, rfl, rfl⟩
      exact (h _).turn.trans (turn_react _ _)

/-! ## Entries -/

/-- 05 R86: an entry of the live period joins the ring's end. -/
theorem journalOrdered_writeEntry {e : Entry} {s : State} (he : e.period = s.period.live) (ho : journalOrdered s) :
    journalOrdered (writeEntry e s) := by
  have hp : (writeEntry e s).period = s.period := by simp
  obtain ⟨hpair, hle, hrel⟩ := ho
  unfold journalOrdered
  rw [hp, writeEntry_journal]
  have hsub : (if Config.journalSlots ≤ s.journal.entries.length then s.journal.entries.tail else s.journal.entries).Sublist
      s.journal.entries := by
    split
    · exact List.tail_sublist _
    · exact List.Sublist.refl _
  refine ⟨?_, ?_, hrel⟩
  · refine List.pairwise_append.2 ⟨hpair.sublist hsub, List.pairwise_singleton _ _, fun a ha b hb => ?_⟩
    rw [List.mem_singleton.1 hb, he]
    exact hle a (hsub.subset ha)
  · intro a ha
    rcases List.mem_append.1 ha with ha | ha
    · exact hle a (hsub.subset ha)
    · rw [List.mem_singleton.1 ha, he]

theorem turn_writeEntry {e : Entry} {s : State} (he : e.period = s.period.live) : Turn s (writeEntry e s) := by
  intro ho _
  have hp : (writeEntry e s).period = s.period := by simp
  exact ⟨⟨journalOrdered_writeEntry he ho.1, by rw [hp]; exact ho.2⟩, .inl ⟨by rw [hp], fun h => by rw [hp, h]⟩⟩

theorem turn_amendEntry {q : Nat} {f : Entry → Entry} {s : State} (hf : ∀ e, (f e).period = e.period) : Turn s (amendEntry q f s) := by
  intro ho _
  refine ⟨?_, .inl ⟨rfl, id⟩⟩
  obtain ⟨⟨hpair, hle, hrel⟩, hcl⟩ := ho
  have hg : ∀ e, (if e.seq = q then f e else e).period = e.period := fun e => by split <;> simp [hf]
  refine ⟨⟨List.pairwise_map.2 (hpair.imp fun {a b} hab => by rw [hg, hg]; exact hab), fun e he => ?_, hrel⟩, hcl⟩
  obtain ⟨e', he', rfl⟩ := List.mem_map.1 he
  rw [hg]
  exact hle e' he'

theorem turn_expirePool (s : State) (p : Nat) : Turn s (expirePool s p) := by
  unfold expirePool
  split
  · exact turn_writeEntry rfl
  · exact Turn.refl s

theorem turn_sweepFinish (s : State) : Turn s (sweepFinish s) := by
  unfold sweepFinish
  split
  · have h : ∀ u : State, Still u { u with sweep := { u.sweep with inFlight := false, cursor := Config.cardSlots } } :=
      fun _ => ⟨rfl, rfl, rfl, rfl⟩
    exact ((turn_foldl turn_expirePool _ s).trans (h _).turn).trans (calm_giveNotices _ _).toStill.turn
  · exact Turn.refl s

/-! ## Requests -/

theorem turn_ruled {cs : List Check} {e : Done} {s : State} (h : Turn s e.state) : Turn s (ruled cs e s).state := by
  rcases HoldSlots.ruled_cases cs e s with hs | ⟨-, he⟩
  · rw [hs]
    exact Turn.refl s
  · rw [he]
    exact h

theorem turn_purchase (k : EntryKind) (id shop amount : Nat) (pool : Option Nat) (ref : Nat) (c : Card) (s : State) :
    Turn s (purchase k id shop amount pool ref c s).state := by
  unfold purchase
  cases pool with
  | none => exact (turn_writeEntry rfl).after (still_setCard id c s).turn
  | some p => exact (turn_writeEntry rfl).after (still_setCard id _ s).turn

theorem turn_setChannelEffect (n : Nat) (cfg : ChannelArg) (s : State) : Turn s (setChannelEffect n cfg s).state := by
  unfold setChannelEffect
  dsimp only
  split
  · exact (turn_testRelease _).after ((calm_setChannel n _ s).trans (calm_setPayoutStates _ _ _)).toStill.turn
  · exact (calm_setChannel _ _ _).toStill.turn

theorem calm_resolved (n serial i : Nat) (x : PayoutState) (s : State) : Calm s (resolved n serial i x s) := by
  unfold resolved
  dsimp only
  split
  · exact (calm_setShop _ _ _).trans (calm_setChannel _ _ _)
  · exact calm_setShop _ _ _

theorem calm_setCursor (l : Link) (x : Cursor) (s : State) : Calm s (setCursor l x s) := calm_setLink _ _ _

theorem calm_readEffect (l : Link) (count : Nat) (s : State) : Calm s (readEffect l count s).state := by
  unfold readEffect
  dsimp only
  split
  · exact calm_setCursor _ _ _
  · exact calm_setCursor _ _ _

theorem calm_initialiseTaken (s : State) : Calm s (initialiseTaken s) := by
  unfold initialiseTaken
  exact (calm_clearRuns _).after (calm_of rfl rfl rfl rfl rfl)

theorem calm_removedShop (shop : Nat) (s : State) : Calm s (removedShop shop s) := ⟨⟨rfl, rfl, rfl, rfl⟩, rfl, rfl, rfl⟩

theorem still_scheduled (x : SchedulerMode) (n : Nat) (s : State) : Still s { s with period := scheduled x n s.period } := by
  cases x <;> exact ⟨rfl, rfl, rfl, rfl⟩

theorem turn_closePeriodRule (s : State) : Turn s (closePeriodRule s).state := by
  unfold closePeriodRule
  rcases HoldSlots.ruled_cases (closePeriodChecks s) _ s with hs | ⟨hp, he⟩
  · rw [hs]
    exact Turn.refl s
  · rw [he]
    have hr : s.period.state = .released := by
      simpa using check_passed hp (c := require (s.period.state = .released) .closeBusy
        [Fld.u32 s.period.closing, .u8 (closingStateCode s.period.state)]) (by simp [closePeriodChecks])
    exact turn_takeClose (by simp [hr])

/-- Every rule takes at most one close. -/
theorem turn_ruleOf (i : Instr) (s : State) : Turn s (ruleOf i s).state := by
  cases i with
  | sellCard => exact turn_ruled (turn_purchase _ _ _ _ _ _ _ _)
  | reloadCard => exact turn_ruled (turn_purchase _ _ _ _ _ _ _ _)
  | redeem => exact turn_ruled ((turn_writeEntry rfl).after (still_setCard _ _ s).turn)
  | grantPromo => exact turn_ruled ((turn_writeEntry rfl).after (still_setCard _ _ s).turn)
  | captureHold => exact turn_ruled ((turn_writeEntry (by simp [redemptionEntry, newEntry])).after (still_endHold _ _ _ s).turn)
  | refund => exact turn_ruled ((turn_writeEntry rfl).after ((turn_amendEntry (f := grownOriginal _) (fun _ => rfl)).after (still_setCard _ _ s).turn))
  | voidSale =>
    exact turn_ruled ((turn_writeEntry rfl).after
      ((turn_amendEntry (f := fun x => { x with voided := some true }) (fun _ => rfl)).after (still_setCard _ _ s).turn))
  | adjustCarry => exact turn_ruled ((turn_writeEntry rfl).after (calm_setShop _ _ s).toStill.turn)
  | placeHold =>
    exact turn_ruled ((still_setHoldSlot _ _ _).turn.after (still_setCard _ _ s).turn)
  | releaseHold => exact turn_ruled (still_endHold _ _ _ _).turn
  | extendHold => exact turn_ruled (still_setHoldSlot _ _ _).turn
  | freezeCard | unfreezeCard | closeCard => exact turn_ruled (still_setCard _ _ s).turn
  | definePool | addBudget | setPoolState => exact turn_ruled (still_changePool _ _ s).turn
  | journalSeek => exact turn_ruled (calm_setCursor _ _ s).toStill.turn
  | journalRead => exact turn_ruled (calm_readEffect _ _ s).toStill.turn
  | defineShop | stageSchedule | setShopState | clearAttention | setPayoutAccount =>
    exact turn_ruled (calm_setShop _ _ s).toStill.turn
  | startRun | suspendChannel | resumeChannel => exact turn_ruled (calm_setChannel _ _ s).toStill.turn
  | removeShop => exact turn_ruled ((turn_testRelease _).after (calm_removedShop _ s).toStill.turn)
  | closePeriod => exact turn_closePeriodRule s
  | setScheduler => exact turn_ruled (still_scheduled _ _ s).turn
  | setChannel => exact turn_ruled (turn_setChannelEffect _ _ s)
  | payoutResult => exact turn_ruled ((turn_testRelease _).after (calm_resolved _ _ _ _ s).toStill.turn)
  | resetChannel =>
    exact turn_ruled ((turn_testRelease _).after ((calm_setChannel _ _ _).after (calm_setPayoutStates _ _ s)).toStill.turn)
  | advanceDay => exact (calm_rollDay _ s).toStill.turn
  | enterConfig | openPart | setRollover | setRoute => exact turn_ruled (Still.turn ⟨rfl, rfl, rfl, rfl⟩)
  | setTime | setDay | setTrading | restart => exact Still.turn ⟨rfl, rfl, rfl, rfl⟩
  | storeInitialise => exact (calm_initialiseTaken s).toStill.turn
  | balance | lookupReference | cardDetail | holdDetail | poolStatus | shopPosition | periodSummary | channelStatus =>
    exact turn_ruled (Turn.refl s)
  | _ => exact Turn.refl s

theorem turn_carryOut {c : Instr} {rule : State → Done} {s : State} (h : Turn s (rule s).state) : Turn s (carryOut c rule s) := by
  cases hm : linkAndModeCheck (requestLink c) (requestFrame c).kind s with
  | none =>
    rw [carryOut_pass hm]
    exact (calm_finish _ _).toStill.turn.after h
  | some a =>
    rw [carryOut_fail hm]
    exact (calm_placeReply _ _ _).toStill.turn

theorem turn_taken {c : Instr} {s t : State} (h : taken c s = some t) : Turn s t := by
  unfold taken takeFrame at h
  dsimp only at h
  split at h
  · split at h
    · obtain rfl := Option.some.inj h
      exact (calm_setLink _ _ _).toStill.turn.after (turn_settle s)
    · exact absurd h (by simp)
  · exact absurd h (by simp)

theorem turn_untaken (c : Instr) (s : State) : Turn s (untaken c s) := by
  unfold untaken
  split
  · exact (calm_setLink _ _ _).toStill.turn.after (turn_settle s)
  · exact Turn.refl s

theorem turn_takeRequest {c : Instr} {rule : State → Done} {s t : State} (hr : ∀ u, Turn u (rule u).state)
    (h : takeRequest c rule s = .next t) : Turn s t := by
  rw [takeRequest_next, Host.Outcome.next.injEq] at h
  subst h
  cases ht : taken c s with
  | none => exact turn_untaken c s
  | some u => exact (turn_taken ht).trans (turn_carryOut (hr u))

theorem turn_unknownRequest {l : Link} {tag kind : Nat} {payload : List Byte} {s t : State}
    (h : exec (.unknownRequest l tag kind payload) s = .next t) : Turn s t := by
  rw [exec_unknownRequest, Host.Outcome.next.injEq] at h
  subst h
  split
  · rename_i u hu
    split at hu
    · exact (calm_finish l (answered u _)).toStill.turn.after (turn_taken hu)
    · exact absurd hu (by simp)
  · exact turn_untaken _ s

/-! ## Events -/

theorem turn_event {f : State → State} {s t : State} (hf : ∀ u, Turn u (f u)) (h : event f s = .next t) : Turn s t := by
  rw [event, Host.Outcome.next.injEq] at h
  subst h
  split
  · exact (turn_settle s).trans (hf _)
  · exact Turn.refl s

theorem turn_dueEvent {f : State → State} {s t : State} (hf : ∀ u, Turn u (f u)) (h : dueEvent f s = .next t) : Turn s t := by
  rw [dueEvent, Host.Outcome.next.injEq] at h
  subst h
  split
  · exact (calm_enterOffers s).toStill.turn.trans (hf _)
  · exact Turn.refl s

theorem turn_lineEvent {f : State → State} {s t : State} (hf : ∀ u, Turn u (f u)) (h : lineEvent f s = .next t) : Turn s t := by
  rw [lineEvent, Host.Outcome.next.injEq] at h
  subst h
  split
  · exact hf _
  · exact Turn.refl s

theorem turn_freeing (f : LinkState → LinkState) (l : Link) (s : State) : Turn s (freeing f l s) :=
  ((calm_setLink _ _ s).trans (calm_enterOffers _)).toStill.turn

/-- 05 R101, 07 R140: the first values are in order. -/
theorem periodsOrdered_initial {s : State} (hj : s.journal = emptyJournal) (hp : s.period = initialPeriod) : periodsOrdered s := by
  unfold periodsOrdered journalOrdered
  rw [hj, hp]
  decide

/-- 10 R178: the completion of STORE_INITIALISE starts the periods afresh. -/
theorem initialiseDone_ordered {s : State} (h : periodsOrdered s) : periodsOrdered (initialiseDone s) := by
  unfold initialiseDone
  split
  · exact periodsOrdered_initial (by simp [initialBlocks]) (by simp [initialBlocks])
  · exact h

theorem periodsOrdered_congr {s t : State} (h : Still s t) (ho : periodsOrdered s) : periodsOrdered t := by
  unfold periodsOrdered journalOrdered at *
  rw [h.journal, h.live, h.closing]
  exact ho

theorem powered_ordered {s : State} (ho : periodsOrdered s) (hroom : s.period.live + 1 ≤ Config.topNumber) :
    periodsOrdered (powered s) := by
  have hstill : Still s { unpowered s with power := true } :=
    ⟨(still_unpowered s).journal, (still_unpowered s).live, (still_unpowered s).closing, (still_unpowered s).state⟩
  unfold powered markRead
  split
  · have hc : ∀ u : State, Still u { u with ctrl := { u.ctrl with store := .valid } } := fun _ => ⟨rfl, rfl, rfl, rfl⟩
    exact ((turn_restartBlocks .powerOn _).after (hstill.trans (hc _)).turn ho (fun _ => hroom)).1
  · exact periodsOrdered_initial rfl rfl

/-- 07 R134: the end of the computation leaves CLOSING, and may release and take the pending close. -/
theorem endComputation_ordered {s : State} (ho : periodsOrdered s) (hroom : s.period.live + 1 ≤ Config.topNumber) :
    periodsOrdered (endComputation s) := by
  rw [endComputation_eq]
  split
  · have hset : ∀ c (u : State), periodsOrdered u → periodsOrdered { u with period := settledPeriod c u.period } := fun _ _ h => h
    have hcalm := calm_assignPayouts s
    have hass : periodsOrdered (assignedBlocks s) ∧ (assignedBlocks s).period.live = s.period.live := by
      have h := calm_startCursors
        { assignPayouts s with period := settledPeriod (computationPart (assignPayouts s)) (assignPayouts s).period }
      exact ⟨periodsOrdered_congr h.toStill (hset _ _ (periodsOrdered_congr hcalm.toStill ho)), h.live.trans hcalm.live⟩
    have hend : Calm (assignedBlocks s) (computationEnded s) := by
      unfold computationEnded
      dsimp only
      split
      · exact (calm_giveNotice _ _).trans (calm_autoStart _)
      · exact calm_giveNotice _ _
    refine (((hend.toStill.turn.trans (turn_testRelease _)).trans (calm_giveNotices _ _).toStill.turn) hass.1 (fun _ => ?_)).1
    rw [hass.2]
    exact hroom
  · exact ho

/-! ## Commands -/

/-- Every command keeps the period order, where two more live periods have numbers. -/
theorem exec_ordered {c : Instr} {s t : State} (ho : periodsOrdered s) (hroom : s.period.live + 2 ≤ Config.topNumber)
    (h : exec c s = .next t) : periodsOrdered t := by
  have hone : s.period.live + 1 ≤ Config.topNumber := by omega
  have hturn : Turn s t → periodsOrdered t := fun ht => (ht ho (fun _ => hone)).1
  cases hq : isRequest c with
  | true =>
    rw [exec_request hq] at h
    exact hturn (turn_takeRequest (turn_ruleOf c) h)
  | false =>
    cases c with
    | unknownRequest => exact hturn (turn_unknownRequest h)
    | frameReceived | frameGapTimeout | breakEnded => exact hturn (turn_lineEvent (fun _ => (calm_setLink _ _ _).toStill.turn) h)
    | frameSent | linkReset => exact hturn (turn_event (turn_freeing _ _) h)
    | tick => exact hturn (turn_event (fun u => (still_tickState u).turn) h)
    | holdExpiry => exact hturn (turn_dueEvent (fun u => (still_expireHold _ u).turn) h)
    | confirmTimeout => exact hturn (turn_dueEvent (fun u => (calm_confirmEnd _ u).toStill.turn) h)
    | intervalCountdownExpiry => exact hturn (turn_dueEvent turn_intervalExpiry h)
    | dayRollover => exact hturn (turn_dueEvent turn_rolloverAction h)
    | sweepVisit => exact hturn (turn_event (fun u => (still_sweepStep u).turn) h)
    | sweepEnd => exact hturn (turn_event turn_sweepFinish h)
    | closeComputeStep => exact hturn (turn_event (fun u => (calm_computeStep u).toStill.turn) h)
    | runWalkStep => exact hturn (turn_event (fun u => (calm_walkStep _ u).toStill.turn) h)
    | payoutOfferEntersQueue => exact hturn (turn_lineEvent (fun u => (calm_offerEnters u).toStill.turn) h)
    | restartAfterDrain => exact hturn (turn_event turn_restartDrained h)
    | closeComputationEnd =>
      have he : exec .closeComputationEnd s = .next (if s.power then endComputation (settle s) else s) := rfl
      rw [he, Host.Outcome.next.injEq] at h
      subst h
      split
      · obtain ⟨hs, hcase⟩ := turn_settle s ho (fun _ => hone)
        exact endComputation_ordered hs (by omega)
      · exact ho
    | storeInitialiseComplete =>
      have he : exec .storeInitialiseComplete s = .next (if s.power then initialiseDone (settle s) else s) := rfl
      rw [he, Host.Outcome.next.injEq] at h
      subst h
      split
      · exact initialiseDone_ordered (turn_settle s ho (fun _ => hone)).1
      · exact ho
    | powerOn =>
      obtain rfl := Host.Outcome.next.inj h
      exact powered_ordered ho hone
    | lossOfPower =>
      have hl : exec .lossOfPower s = .next (if s.power then unpowered s else s) := rfl
      rw [hl, Host.Outcome.next.injEq] at h
      subst h
      split
      · exact periodsOrdered_congr (still_unpowered s) ho
      · exact ho
    | _ => exact absurd hq (by simp [isRequest])

theorem step_ordered {s t : State} (ho : periodsOrdered s) (hroom : s.period.live + 2 ≤ Config.topNumber) (h : step s = .next t) :
    periodsOrdered t := by
  rcases step_cases h with rfl | ⟨c, rest, -, he⟩
  · exact ho
  · exact exec_ordered (s := s.withPending rest) ho hroom he

theorem step_queueFormed {s t : State} (hq : queueFormed s) (h : step s = .next t) : queueFormed t := by
  intro c hc
  rcases (step_safe h).1 with hp | ⟨d, hp⟩
  · exact hq c (hp ▸ hc)
  · exact hq c (by rw [hp]; exact List.mem_cons_of_mem _ hc)

/-- Settles O7: each bound by what every operation keeps; the period order by counting the closes of one command. -/
theorem registersStayInRange : Obligations.RegistersStayInRange :=
  ⟨fun _ _ hb h => (step_safe h).2.journal hb,
    fun _ _ hb hq h => ⟨(step_safe h).2.time hq hb, step_queueFormed hq h⟩,
    fun _ _ hb h => (step_safe h).2.counters hb,
    fun _ _ hb h => (step_safe h).2.mode hb,
    fun _ _ hb h => (step_safe h).2.pendingClose hb,
    fun _ _ ho hroom h => step_ordered ho hroom h⟩

end Sys2Proof.Proofs.Periods
end

section
/-! The ring keeps every entry whose period has not been released (05 R89, R91). -/

namespace Sys2Proof.Proofs.Ring

open Sys2Proof Sys2Proof.Machine Sys2Proof.Laws Sys2Proof.Proofs.Bounds Sys2Proof.Proofs.Steps Sys2Proof.Proofs.Periods

/-! ## What stays of an entry -/

/-- 05 R86, R88: the fields of an entry that no later change touches. -/
structure SameEntry (e e' : Entry) : Prop where
  seq : e'.seq = e.seq
  kind : e'.kind = e.kind
  period : e'.period = e.period
  day : e'.day = e.day
  clock : e'.clock = e.clock
  amount : e'.amount = e.amount
  parts : e'.parts = e.parts

theorem SameEntry.refl (e : Entry) : SameEntry e e := ⟨rfl, rfl, rfl, rfl, rfl, rfl, rfl⟩

theorem SameEntry.trans {e f g : Entry} (h : SameEntry e f) (h' : SameEntry f g) : SameEntry e g :=
  ⟨h'.seq.trans h.seq, h'.kind.trans h.kind, h'.period.trans h.period, h'.day.trans h.day, h'.clock.trans h.clock,
    h'.amount.trans h.amount, h'.parts.trans h.parts⟩

/-- Every entry of an unreleased period is still present. -/
def Pinned (s t : State) : Prop :=
  ∀ e ∈ s.journal.entries, releasable s.journal e = false → ∃ e' ∈ t.journal.entries, SameEntry e e'

/-- An operation that keeps the unreleased entries of a ring in order. -/
def Pin (s t : State) : Prop := journalBounded s → journalOrdered s → Pinned s t

/-- An operation that leaves the ring's entries as they are. -/
def Idle (s t : State) : Prop := t.journal.entries = s.journal.entries

theorem Idle.refl (s : State) : Idle s s := rfl

theorem Idle.trans {s t u : State} (h : Idle s t) (h' : Idle t u) : Idle s u := Eq.trans h' h

theorem Idle.after {s t u : State} (h' : Idle t u) (h : Idle s t) : Idle s u := Eq.trans h' h

theorem Idle.pin {s t : State} (h : Idle s t) : Pin s t := fun _ _ e he _ => ⟨e, by rw [h]; exact he, SameEntry.refl e⟩

theorem Idle.of_still {s t : State} (h : Still s t) : Idle s t := congrArg Journal.entries h.journal

theorem Idle.of_calm {s t : State} (h : Calm s t) : Idle s t := Idle.of_still h.toStill

/-- What comes after an operation and leaves the entries alone keeps what the operation keeps. -/
theorem Pin.idle {s t u : State} (h : Pin s t) (h' : Idle t u) : Pin s u := fun hb ho e he hr => by
  obtain ⟨e', he', hs⟩ := h hb ho e he hr
  exact ⟨e', by rw [h']; exact he', hs⟩

/-! ## Closes and releases write no entry -/

theorem idle_takeClose (cause : CloseCause) (s : State) : Idle s (takeClose cause s) := rfl

theorem idle_takePending (s : State) : Idle s (takePending s) := by
  unfold takePending
  split
  · rename_i cause _
    exact idle_takeClose cause s
  · exact Idle.refl s

theorem idle_scheduleClose (cause : CloseCause) (s : State) : Idle s (scheduleClose cause s) := by
  unfold scheduleClose
  split
  · exact idle_takeClose cause s
  · exact Idle.refl s

theorem idle_intervalExpiry (s : State) : Idle s (intervalExpiry s) := by
  unfold intervalExpiry
  split
  · exact idle_scheduleClose .interval s
  · exact Idle.refl s

theorem idle_releasedBlocks (s : State) : Idle s (releasedBlocks s) := by
  have h : (releasedBlocks s).journal.entries = (releaseShops s).journal.entries := rfl
  exact h.trans (congrArg Journal.entries (calm_releaseShops s).journal)

theorem idle_release (s : State) : Idle s (release s) := by
  rw [release_eq]
  exact ((idle_releasedBlocks s).trans (Idle.of_calm ((calm_giveNotices _ _).trans (calm_endRuns _ _)))).trans (idle_takePending _)

theorem idle_testRelease (s : State) : Idle s (testRelease s).1 := by
  rw [testRelease_fst]
  split
  · exact idle_release s
  · exact Idle.refl s

theorem idle_endComputation (s : State) : Idle s (endComputation s) := by
  rw [endComputation_eq]
  split
  · have h : Idle s (assignedBlocks s) :=
      Eq.trans (congrArg Journal.entries (calm_startCursors
        { assignPayouts s with period := settledPeriod (computationPart (assignPayouts s)) (assignPayouts s).period }).journal)
        (congrArg Journal.entries (calm_assignPayouts s).journal)
    have h' : Idle s (computationEnded s) := by
      unfold computationEnded
      dsimp only
      split
      · exact h.trans (Idle.of_calm ((calm_giveNotice _ _).trans (calm_autoStart _)))
      · exact h.trans (Idle.of_calm (calm_giveNotice _ _))
    exact (h'.trans (idle_testRelease _)).trans (Idle.of_calm (calm_giveNotices _ _))
  · exact Idle.refl s

theorem idle_restartBlocks (cause : RestartCause) (s : State) : Idle s (restartBlocks cause s) := by
  rw [restartBlocks_eq]
  exact (((Idle.of_still (still_restarted cause s)).trans (Idle.of_calm (calm_giveNotices _ _))).trans (idle_testRelease _)).trans
    (Idle.of_calm (calm_giveNotices _ _))

theorem idle_restartDrained (s : State) : Idle s (restartDrained s) := by
  unfold restartDrained
  split
  · exact idle_restartBlocks _ _
  · exact Idle.refl s

theorem idle_react (b : Reactor) (s : State) : Idle s (react b s) := by
  unfold react
  cases b with
  | poolTable =>
    have h : Idle s (startSweep s) := Idle.refl s
    exact h.trans (Idle.of_calm (calm_giveNotices _ _))
  | periodController =>
    dsimp only
    split
    · exact idle_scheduleClose _ _
    · exact Idle.refl s
  | journal =>
    dsimp only
    split
    · exact Idle.of_calm (calm_giveNotice _ _)
    · exact Idle.refl s

theorem idle_rolloverAction (s : State) : Idle s (rolloverAction s) := by
  unfold rolloverAction
  split
  · exact Idle.of_calm (calm_takeRollover s)
  · unfold nextReaction
    split
    · exact Idle.refl s
    · rename_i b _
      exact idle_react b { s with time := { s.time with handed := s.time.handed.erase b, turn := s.time.turn + 1 } }

/-! ## What the writing of an entry drops -/

/-- 05 R90: where some entry is releasable, the oldest is, since period numbers never fall. -/
theorem head_releasable {j : Journal} {e : Entry} {es : List Entry} (hj : j.entries = e :: es)
    (hpair : j.entries.Pairwise (fun a b => a.period ≤ b.period)) (hr : 0 < releasableCount j) : releasable j e = true := by
  obtain ⟨x, hx, hxr⟩ := List.countP_pos_iff.1 hr
  rw [hj] at hx hpair
  have hle : e.period ≤ x.period := by
    rcases List.mem_cons.1 hx with rfl | hx
    · exact Nat.le_refl _
    · exact (List.pairwise_cons.1 hpair).1 x hx
  simp only [releasable, decide_eq_true_eq] at hxr ⊢
  omega

/-- 05 R89, R91: a full ring with a writable entry loses a releasable one; another loses none. -/
theorem mem_pushEntry {j : Journal} {x e : Entry} (hlen : j.entries.length ≤ Config.journalSlots)
    (hpair : j.entries.Pairwise (fun a b => a.period ≤ b.period)) (hw : 1 ≤ writable j) (he : e ∈ j.entries)
    (hr : releasable j e = false) : e ∈ (pushEntry x j).entries := by
  refine List.mem_append_left _ ?_
  split
  · rename_i hfull
    cases hj : j.entries with
    | nil =>
      rw [hj] at he
      exact absurd he List.not_mem_nil
    | cons y ys =>
      have hcount : 0 < releasableCount j := by
        simp only [writable] at hw
        omega
      have hy := head_releasable hj hpair hcount
      rw [hj] at he
      rcases List.mem_cons.1 he with rfl | he
      · rw [hr] at hy
        exact absurd hy (by simp)
      · exact he
  · exact he

/-- A journal with its entries changed in place, their periods kept. -/
theorem writable_map {j j' : Journal} {g : Entry → Entry} (hg : ∀ e, (g e).period = e.period) (he : j'.entries = j.entries.map g)
    (hr : j'.released = j.released) : writable j' = writable j := by
  have hc : releasableCount j' = releasableCount j := by
    unfold releasableCount
    rw [he, List.countP_map]
    refine List.countP_congr fun e _ => ?_
    simp [releasable, hg, hr]
  rw [writable, hc, he, List.length_map, writable]

/-- The writing of an entry, after a change of the entries in place, keeps the unreleased ones. -/
theorem pin_write {s u : State} {x : Entry} {g : Entry → Entry} (hg : ∀ e, SameEntry e (g e))
    (he : u.journal.entries = s.journal.entries.map g) (hr : u.journal.released = s.journal.released)
    (hw : 1 ≤ writable s.journal) : Pin s (writeEntry x u) := by
  intro hb ho e hmem hrel
  refine ⟨g e, ?_, hg e⟩
  have hperiod : ∀ e, (g e).period = e.period := fun e => (hg e).period
  rw [writeEntry_journal]
  refine mem_pushEntry ?_ ?_ ?_ ?_ ?_
  · rw [he, List.length_map]
    exact hb.1
  · rw [he, List.pairwise_map]
    exact ho.1.imp fun {a b} hab => by rw [hperiod, hperiod]; exact hab
  · rw [writable_map hperiod he hr]
    exact hw
  · rw [he]
    exact List.mem_map_of_mem hmem
  · simpa [releasable, hperiod, hr] using hrel

/-- The writing of an entry where the journal is as it was. -/
theorem pin_write_still {s u : State} {x : Entry} (h : Still s u) (hw : 1 ≤ writable s.journal) : Pin s (writeEntry x u) :=
  pin_write (g := id) SameEntry.refl (by rw [h.journal, List.map_id]) (by rw [h.journal]) hw

/-- The writing of an entry after an original has been marked. -/
theorem pin_write_amended {s : State} {x : Entry} {q : Nat} {f : Entry → Entry} (id : Nat) (c : Card) (hf : ∀ e, SameEntry e (f e))
    (hw : 1 ≤ writable s.journal) : Pin s (writeEntry x (amendEntry q f (s.setCard id c))) :=
  pin_write (g := fun e => if e.seq = q then f e else e) (fun e => by split; exacts [hf e, SameEntry.refl e]) rfl rfl hw

/-! ## Requests -/

/-- 05 R91: the check of every entry-writing request leaves more than one writable entry. -/
theorem writable_of_room {cs : List Check} {s : State} (h : firstFailing cs = none) (hc : journalRoom s ∈ cs) :
    1 ≤ writable s.journal := by
  have hroom : journalRoom s = none := check_passed h hc
  simp only [journalRoom, require_none, decide_eq_true_eq] at hroom
  omega

theorem pin_ruled {cs : List Check} {e : Done} {s : State} (h : firstFailing cs = none → Pin s e.state) : Pin s (ruled cs e s).state := by
  rcases HoldSlots.ruled_cases cs e s with hs | ⟨hp, he⟩
  · rw [hs]
    exact (Idle.refl s).pin
  · rw [he]
    exact h hp

theorem pin_idle_ruled {cs : List Check} {e : Done} {s : State} (h : Idle s e.state) : Pin s (ruled cs e s).state :=
  pin_ruled fun _ => h.pin

theorem pin_purchase {k : EntryKind} (id shop amount : Nat) (pool : Option Nat) (ref : Nat) (c : Card) {s : State}
    (hw : 1 ≤ writable s.journal) : Pin s (purchase k id shop amount pool ref c s).state := by
  unfold purchase
  cases pool with
  | none => exact pin_write_still (still_setCard id c s) hw
  | some p => exact pin_write_still (still_setCard id _ s) hw

theorem idle_setChannelEffect (n : Nat) (cfg : ChannelArg) (s : State) : Idle s (setChannelEffect n cfg s).state := by
  unfold setChannelEffect
  dsimp only
  split
  · exact (idle_testRelease _).after (Idle.of_calm ((calm_setChannel n _ s).trans (calm_setPayoutStates _ _ _)))
  · exact Idle.refl s

/-- Every rule keeps the unreleased entries. -/
theorem pin_ruleOf (i : Instr) (s : State) : Pin s (ruleOf i s).state := by
  cases i with
  | sellCard => exact pin_ruled fun h => pin_purchase _ _ _ _ _ _ (writable_of_room h (by simp [sellChecks]))
  | reloadCard => exact pin_ruled fun h => pin_purchase _ _ _ _ _ _ (writable_of_room h (by simp [reloadChecks]))
  | redeem => exact pin_ruled fun h => pin_write_still (still_setCard _ _ s) (writable_of_room h (by simp [redeemChecks]))
  | grantPromo => exact pin_ruled fun h => pin_write_still (still_setCard _ _ s) (writable_of_room h (by simp [grantChecks]))
  | captureHold => exact pin_ruled fun h => pin_write_still (still_endHold _ _ _ s) (writable_of_room h (by simp [captureChecks]))
  | refund =>
    exact pin_ruled fun h => pin_write_amended _ _ (fun _ => ⟨rfl, rfl, rfl, rfl, rfl, rfl, rfl⟩)
      (writable_of_room h (by simp [refundChecks]))
  | voidSale =>
    exact pin_ruled fun h => pin_write_amended _ _ (fun _ => ⟨rfl, rfl, rfl, rfl, rfl, rfl, rfl⟩)
      (writable_of_room h (by simp [voidChecks]))
  | adjustCarry =>
    exact pin_ruled fun h => pin_write_still (calm_setShop _ _ s).toStill (writable_of_room h (by simp [adjustChecks]))
  | releaseHold => exact pin_idle_ruled (Idle.of_still (still_endHold _ _ _ s))
  | definePool | addBudget | setPoolState => exact pin_idle_ruled (Idle.of_still (still_changePool _ _ s))
  | journalSeek => exact pin_idle_ruled (Idle.of_calm (calm_setCursor _ _ s))
  | journalRead => exact pin_idle_ruled (Idle.of_calm (calm_readEffect _ _ s))
  | removeShop => exact pin_idle_ruled ((idle_testRelease _).after (Idle.of_calm (calm_removedShop _ s)))
  | closePeriod => exact pin_idle_ruled (idle_takeClose .request s)
  | setChannel => exact pin_idle_ruled (idle_setChannelEffect _ _ s)
  | payoutResult => exact pin_idle_ruled ((idle_testRelease _).after (Idle.of_calm (calm_resolved _ _ _ _ s)))
  | resetChannel =>
    exact pin_idle_ruled ((idle_testRelease _).after
      (Idle.of_calm ((calm_setChannel _ _ _).after (calm_setPayoutStates _ _ s))))
  | advanceDay => exact (Idle.of_calm (calm_rollDay _ s)).pin
  | storeInitialise => exact (Idle.of_calm (calm_initialiseTaken s)).pin
  | placeHold | extendHold | freezeCard | unfreezeCard | closeCard | defineShop | stageSchedule | setShopState | clearAttention
  | setPayoutAccount | setScheduler | startRun | suspendChannel | resumeChannel | setRollover | enterConfig | openPart | setRoute
  | balance | lookupReference | cardDetail | holdDetail | poolStatus | shopPosition | periodSummary | channelStatus =>
    exact pin_idle_ruled (Idle.refl s)
  | _ => exact (Idle.refl s).pin

theorem idle_taken {c : Instr} {s t : State} (hq : quiet s = true) (h : taken c s = some t) : Still s t := by
  unfold taken takeFrame at h
  dsimp only at h
  rw [settle_quiet hq] at h
  split at h
  · split at h
    · obtain rfl := Option.some.inj h
      exact (calm_setLink _ _ _).toStill
    · exact absurd h (by simp)
  · exact absurd h (by simp)

theorem idle_untaken {c : Instr} {s : State} (hq : quiet s = true) : Idle s (untaken c s) := by
  unfold untaken
  rw [settle_quiet hq]
  split
  · exact Idle.of_calm (calm_setLink _ _ _)
  · exact Idle.refl s

theorem pin_carryOut {c : Instr} {rule : State → Done} {s : State} (h : Pin s (rule s).state) : Pin s (carryOut c rule s) := by
  cases hm : linkAndModeCheck (requestLink c) (requestFrame c).kind s with
  | none =>
    rw [carryOut_pass hm]
    exact h.idle (Idle.of_calm (calm_finish _ _))
  | some a =>
    rw [carryOut_fail hm]
    exact (Idle.of_calm (calm_placeReply _ _ _)).pin

/-- What leaves the journal and the live period alone comes before a keeping operation. -/
theorem Pin.of_still {s t u : State} (hs : Still s t) (h : Pin t u) : Pin s u := by
  intro hb ho
  have := h (by unfold journalBounded at *; rw [hs.journal]; exact hb)
    (by unfold journalOrdered at *; rw [hs.journal, hs.live]; exact ho)
  unfold Pinned at this
  rw [hs.journal] at this
  exact this

theorem pin_takeRequest {c : Instr} {rule : State → Done} {s t : State} (hq : quiet s = true) (hr : ∀ u, Pin u (rule u).state)
    (h : takeRequest c rule s = .next t) : Pin s t := by
  rw [takeRequest_next, Host.Outcome.next.injEq] at h
  subst h
  cases ht : taken c s with
  | none => exact (idle_untaken hq).pin
  | some u => exact Pin.of_still (idle_taken hq ht) (pin_carryOut (hr u))

/-! ## The end of a sweep -/

/-- What a run of EXPIRE entries keeps: the ring's bounds and order, the released period, the unreleased entries. -/
def Rolls (s t : State) : Prop :=
  journalBounded s → journalOrdered s →
    journalBounded t ∧ journalOrdered t ∧ t.journal.released = s.journal.released ∧ Pinned s t

theorem Rolls.refl (s : State) : Rolls s s := fun hb ho => ⟨hb, ho, rfl, (Idle.refl s).pin hb ho⟩

theorem Rolls.trans {s t u : State} (h : Rolls s t) (h' : Rolls t u) : Rolls s u := by
  intro hb ho
  obtain ⟨hbt, hot, hrt, hpt⟩ := h hb ho
  obtain ⟨hbu, hou, hru, hpu⟩ := h' hbt hot
  refine ⟨hbu, hou, hru.trans hrt, fun e he hr => ?_⟩
  obtain ⟨e', he', hs⟩ := hpt e he hr
  obtain ⟨e'', he'', hs'⟩ := hpu e' he' (by
    simp only [releasable, hrt, hs.period]
    exact hr)
  exact ⟨e'', he'', hs.trans hs'⟩

theorem rolls_expirePool (s : State) (p : Nat) : Rolls s (expirePool s p) := by
  unfold expirePool
  split
  · rename_i h
    have hw : 1 ≤ writable s.journal := by
      simp only [Bool.and_eq_true, decide_eq_true_eq] at h
      exact h.2
    intro hb ho
    refine ⟨(safe_writeEntry (W := True) _ s).journal hb, journalOrdered_writeEntry rfl ho, ?_, pin_write_still (Still.refl s) hw hb ho⟩
    rw [writeEntry_journal]
    rfl
  · exact Rolls.refl s

theorem pin_sweepFinish (s : State) : Pin s (sweepFinish s) := by
  unfold sweepFinish
  split
  · have h : Pin s ((List.range Config.poolCount).foldl expirePool s) := fun hb ho =>
      (foldl_rel Rolls.refl Rolls.trans rolls_expirePool (List.range Config.poolCount) s hb ho).2.2.2
    have hs : ∀ u : State, Idle u { u with sweep := { u.sweep with inFlight := false, cursor := Config.cardSlots } } :=
      fun u => Idle.refl u
    exact h.idle ((hs _).trans (Idle.of_calm (calm_giveNotices _ _)))
  · exact (Idle.refl s).pin

/-! ## Events -/

theorem pin_event {f : State → State} {s t : State} (hq : quiet s = true) (hf : Pin s (f s)) (h : event f s = .next t) : Pin s t := by
  rw [event, settle_quiet hq, Host.Outcome.next.injEq] at h
  subst h
  split
  · exact hf
  · exact (Idle.refl s).pin

theorem pin_dueEvent {f : State → State} {s t : State} (hq : quiet s = true) (hf : Idle s (f s)) (h : dueEvent f s = .next t) :
    Pin s t := by
  rw [dueEvent, enterOffers_quiet hq, Host.Outcome.next.injEq] at h
  subst h
  split
  · exact hf.pin
  · exact (Idle.refl s).pin

theorem pin_lineEvent {f : State → State} {s t : State} (hf : ∀ u, Idle u (f u)) (h : lineEvent f s = .next t) : Pin s t := by
  rw [lineEvent, Host.Outcome.next.injEq] at h
  subst h
  split
  · exact (hf s).pin
  · exact (Idle.refl s).pin

theorem pin_unknownRequest {l : Link} {tag kind : Nat} {payload : List Byte} {s t : State} (hq : quiet s = true)
    (h : exec (.unknownRequest l tag kind payload) s = .next t) : Pin s t := by
  rw [exec_unknownRequest, Host.Outcome.next.injEq] at h
  subst h
  split
  · rename_i u hu
    split at hu
    · exact ((Idle.of_calm (calm_finish l (answered u _))).after (Idle.of_still (idle_taken hq hu))).pin
    · exact absurd hu (by simp)
  · exact (idle_untaken hq).pin

theorem idle_freeing (f : LinkState → LinkState) (l : Link) (s : State) : Idle s (freeing f l s) :=
  Idle.of_calm ((calm_setLink _ _ s).trans (calm_enterOffers _))

/-- With nothing else due, every command but the completion of STORE_INITIALISE and a power-on keeps the unreleased entries. -/
theorem exec_pin {c : Instr} {s t : State} (hq : quiet s = true) (hi : c ≠ .storeInitialiseComplete) (hp : c ≠ .powerOn)
    (h : exec c s = .next t) : Pin s t := by
  cases hreq : isRequest c with
  | true =>
    rw [exec_request hreq] at h
    exact pin_takeRequest hq (pin_ruleOf c) h
  | false =>
    cases c with
    | unknownRequest => exact pin_unknownRequest hq h
    | frameReceived | frameGapTimeout | breakEnded => exact pin_lineEvent (fun _ => Idle.of_calm (calm_setLink _ _ _)) h
    | frameSent | linkReset => exact pin_event hq (idle_freeing _ _ s).pin h
    | tick => exact pin_event hq (Idle.refl s).pin h
    | holdExpiry => exact pin_dueEvent hq (Idle.of_still (still_expireHold _ s)) h
    | confirmTimeout => exact pin_dueEvent hq (Idle.of_calm (calm_confirmEnd _ s)) h
    | intervalCountdownExpiry => exact pin_dueEvent hq (idle_intervalExpiry s) h
    | dayRollover => exact pin_dueEvent hq (idle_rolloverAction s) h
    | sweepVisit => exact pin_event hq (Idle.of_still (still_sweepStep s)).pin h
    | sweepEnd => exact pin_event hq (pin_sweepFinish s) h
    | closeComputeStep => exact pin_event hq (Idle.of_calm (calm_computeStep s)).pin h
    | closeComputationEnd => exact pin_event hq (idle_endComputation s).pin h
    | runWalkStep => exact pin_event hq (Idle.of_calm (calm_walkStep _ s)).pin h
    | payoutOfferEntersQueue => exact pin_lineEvent (fun u => Idle.of_calm (calm_offerEnters u)) h
    | restartAfterDrain => exact pin_event hq (idle_restartDrained s).pin h
    | storeInitialiseComplete => exact absurd rfl hi
    | powerOn => exact absurd rfl hp
    | lossOfPower =>
      have hl : exec .lossOfPower s = .next (if s.power then unpowered s else s) := rfl
      rw [hl, Host.Outcome.next.injEq] at h
      subst h
      split
      · exact (Idle.of_still (still_unpowered s)).pin
      · exact (Idle.refl s).pin
    | _ => exact absurd hreq (by simp [isRequest])

/-- Settles O9: only the writing of an entry into a full ring drops one, the oldest; and it is releasable, since the writable count was
above 0 and period numbers never fall. -/
theorem unreleasedEntriesSurvive : Obligations.UnreleasedEntriesSurvive := by
  intro c s t hq hb ho hi hp h e he hr
  obtain ⟨e', he', hs⟩ := exec_pin hq hi hp h hb ho e he hr
  exact ⟨e', he', hs.seq, hs.kind, hs.period, hs.day, hs.clock, hs.amount, hs.parts⟩

end Sys2Proof.Proofs.Ring
end

section
/-! Where the value is: how each write of a record moves the surplus of the journal over the value in hands (05 R95). -/

namespace Sys2Proof.Proofs.Value

open Sys2Proof Sys2Proof.Machine Sys2Proof.Laws Sys2Proof.Proofs.Links Sys2Proof.Proofs.Buckets Sys2Proof.Proofs.Bounds
  Sys2Proof.Proofs.Steps Sys2Proof.Proofs.Periods

/-! ## Sums over the tables -/

/-- The figures of a table's records, summed. -/
def tableSum {α : Type} (f : α → Nat) (t : Table α) : Nat := (t.map (fun e => f e.2)).sum

theorem tableSum_cons {α : Type} (f : α → Nat) (e : Nat × α) (t : Table α) : tableSum f (e :: t) = f e.2 + tableSum f t := by
  simp [tableSum]

theorem tableRising_cons {α : Type} {e : Nat × α} {t : Table α} (h : tableRising (e :: t) = true) :
    (∀ x ∈ t, e.1 < x.1) ∧ tableRising t = true := by
  simp only [tableRising, decide_eq_true_eq] at h ⊢
  exact List.pairwise_cons.1 h

theorem tableGet_none_of_lt {α : Type} {k : Nat} {t : Table α} (h : ∀ x ∈ t, k < x.1) : tableGet k t = none := by
  cases hg : tableGet k t with
  | none => rfl
  | some v => exact absurd (h _ (HoldSlots.mem_of_tableGet hg)) (Nat.lt_irrefl _)

/-- A record written into a rising table: its figure in, the figure of the record it replaces out. -/
theorem tableSum_put {α : Type} (f : α → Nat) (k : Nat) (v : α) {t : Table α} (h : tableRising t = true) :
    tableSum f (tablePut k v t) + ((tableGet k t).map f).getD 0 = tableSum f t + f v := by
  induction t with
  | nil => simp [tablePut, tableSum]
  | cons e t ih =>
    obtain ⟨j, w⟩ := e
    obtain ⟨hlt, hr⟩ := tableRising_cons h
    unfold tablePut tableGet
    by_cases hkj : k < j
    · have hne : j ≠ k := by omega
      have hnone : tableGet k t = none := tableGet_none_of_lt fun x hx => Nat.lt_trans hkj (hlt x hx)
      simp only [hkj, if_true, hne, if_false, hnone, tableSum_cons, Option.map_none, Option.getD_none]
      omega
    · by_cases he : k = j
      · subst he
        simp only [Nat.lt_irrefl, if_false, if_true, tableSum_cons, Option.map_some, Option.getD_some]
        omega
      · have hne : j ≠ k := fun h => he h.symm
        simp only [hkj, if_false, he, hne, tableSum_cons]
        have := ih hr
        omega

/-- A record taken out of a rising table. -/
theorem tableSum_drop {α : Type} (f : α → Nat) (k : Nat) {t : Table α} (h : tableRising t = true) :
    tableSum f (tableDrop k t) + ((tableGet k t).map f).getD 0 = tableSum f t := by
  induction t with
  | nil => simp [tableDrop, tableSum]
  | cons e t ih =>
    obtain ⟨j, w⟩ := e
    obtain ⟨hlt, hr⟩ := tableRising_cons h
    have ih := ih hr
    unfold tableDrop at *
    unfold tableGet
    by_cases he : j = k
    · subst he
      have hnone : tableGet j t = none := tableGet_none_of_lt hlt
      rw [List.filter_cons_of_neg (by simp), if_pos rfl]
      rw [hnone] at ih
      simp only [tableSum_cons, Option.map_some, Option.getD_some, Option.map_none, Option.getD_none] at ih ⊢
      omega
    · rw [List.filter_cons_of_pos (by simp [he]), if_neg he]
      simp only [tableSum_cons]
      omega

/-- A record written into a table whose unlisted records count for nothing. -/
theorem tableSum_write {α : Type} [DecidableEq α] {d : α} {f : α → Nat} (hd : f d = 0) (k : Nat) (v : α) {t : Table α}
    (h : tableRising t = true) : tableSum f (tableWrite d k v t) + f (tableRead d k t) = tableSum f t + f v := by
  have hread : f (tableRead d k t) = ((tableGet k t).map f).getD 0 := by
    unfold tableRead
    cases tableGet k t <;> simp [hd]
  rw [hread]
  unfold tableWrite
  split
  · rename_i hv
    rw [tableSum_drop f k h, hv, hd, Nat.add_zero]
  · exact tableSum_put f k v h

/-! ## The value in hands -/

/-- 01 R1: the value on a card that is not held. -/
def cardWorth (c : Card) : Nat := c.base + bucketSum c.buckets

/-- 02 R25: the value in a slot. -/
def slotWorth (x : HoldSlot) : Nat := (x.hold.map (fun h => h.total)).getD 0

theorem allHeld_eq (s : State) : allHeld s = tableSum slotWorth s.holds := by
  unfold allHeld State.placedHolds tableSum
  induction s.holds with
  | nil => rfl
  | cons e t ih =>
    rw [List.map_cons, List.sum_cons, ← ih]
    cases hh : e.2.hold with
    | none => simp [hh, slotWorth]
    | some h => simp [hh, slotWorth]

theorem valueInHands_eq (s : State) : valueInHands s = tableSum cardWorth s.cards + tableSum slotWorth s.holds + allPending s := by
  rw [← allHeld_eq]
  rfl

/-- A number of minor units, as the counters count them. -/
def units (n : Nat) : BitVec 64 := BitVec.ofNat 64 n

theorem units_add (a b : Nat) : units (a + b) = units a + units b := BitVec.ofNat_add a b

@[simp] theorem units_zero : units 0 = 0 := rfl

/-- The surplus falls by what comes into hands, and rises by what leaves them. -/
theorem surplus_of_hands {s t : State} {gain loss : Nat} (hc : t.journal.counters = s.journal.counters)
    (hv : valueInHands t + loss = valueInHands s + gain) : surplus t = surplus s + units loss - units gain := by
  have h : units (valueInHands t) + units loss = units (valueInHands s) + units gain := by rw [← units_add, hv, units_add]
  unfold surplus
  rw [hc]
  have h' : units (valueInHands t) = units (valueInHands s) + units gain - units loss := by rw [← h]; ring
  change _ - units (valueInHands t) = _ - units (valueInHands s) + _ - _
  rw [h']
  ring

/-- Nothing moves where the counters, the cards, the holds and the pools stay. -/
theorem surplus_same {s t : State} (hc : t.journal.counters = s.journal.counters) (hcards : t.cards = s.cards)
    (hholds : t.holds = s.holds) (hpools : t.pools = s.pools) : surplus t = surplus s := by
  have hp : allPending t = allPending s := by simp only [allPending, State.pool, hpools]
  unfold surplus
  rw [hc, valueInHands_eq, valueInHands_eq, hcards, hholds, hp]

theorem surplus_calm {s t : State} (h : Calm s t) : surplus t = surplus s :=
  surplus_same (by rw [h.journal]) h.cards h.holds h.pools

theorem surplus_setCard_some {s : State} {id : Nat} {c : Card} (c' : Card) (hr : tableRising s.cards = true) (hc : s.card? id = some c) :
    surplus (s.setCard id c') = surplus s + units (cardWorth c) - units (cardWorth c') := by
  refine surplus_of_hands rfl ?_
  have hput := tableSum_put cardWorth id c' hr
  have hget : tableGet id s.cards = some c := hc
  rw [hget] at hput
  have hpend : allPending (s.setCard id c') = allPending s := rfl
  rw [valueInHands_eq, valueInHands_eq, hpend]
  simp only [State.setCard, Option.map_some, Option.getD_some] at hput ⊢
  omega

theorem surplus_setCard_none {s : State} {id : Nat} (c' : Card) (hr : tableRising s.cards = true) (hc : s.card? id = none) :
    surplus (s.setCard id c') = surplus s - units (cardWorth c') := by
  have h : surplus (s.setCard id c') = surplus s + units 0 - units (cardWorth c') := by
    refine surplus_of_hands rfl ?_
    have hput := tableSum_put cardWorth id c' hr
    have hget : tableGet id s.cards = none := hc
    rw [hget] at hput
    have hpend : allPending (s.setCard id c') = allPending s := rfl
    rw [valueInHands_eq, valueInHands_eq, hpend]
    simp only [State.setCard, Option.map_none, Option.getD_none] at hput ⊢
    omega
  rw [h, units_zero]
  ring

theorem surplus_setHoldSlot {s : State} (n : Nat) (x : HoldSlot) (hr : tableRising s.holds = true) :
    surplus (s.setHoldSlot n x) = surplus s + units (slotWorth (s.holdSlot n)) - units (slotWorth x) := by
  refine surplus_of_hands rfl ?_
  have hput := tableSum_write (d := freeHoldSlot) (f := slotWorth) rfl n x hr
  have hpend : allPending (s.setHoldSlot n x) = allPending s := rfl
  rw [valueInHands_eq, valueInHands_eq, hpend]
  simp only [State.setHoldSlot, State.holdSlot] at hput ⊢
  omega

/-- One figure of a range changed. -/
theorem sum_range_update {n p : Nat} {f g : Nat → Nat} (hp : p < n) (h : ∀ q, q ≠ p → g q = f q) :
    ((List.range n).map g).sum + f p = ((List.range n).map f).sum + g p := by
  induction n with
  | zero => exact absurd hp (Nat.not_lt_zero p)
  | succ n ih =>
    rw [List.range_succ, List.map_append, List.map_append, List.sum_append, List.sum_append]
    simp only [List.map_cons, List.map_nil, List.sum_cons, List.sum_nil, Nat.add_zero]
    by_cases hpn : p = n
    · subst hpn
      have hsame : (List.range p).map g = (List.range p).map f :=
        List.map_congr_left fun q hq => h q (Nat.ne_of_lt (List.mem_range.1 hq))
      rw [hsame]
      omega
    · have := ih (by omega)
      rw [h n (fun hn => hpn hn.symm)]
      omega

theorem surplus_setPool {s : State} {p : Nat} (x : Pool) (hp : poolOk p = true) :
    surplus (s.setPool p x) = surplus s + units (s.pool p).pending - units x.pending := by
  refine surplus_of_hands rfl ?_
  have hlt : p < Config.poolCount := by simpa [poolOk] using hp
  have hsum := sum_range_update (f := fun q => (s.pool q).pending) (g := fun q => ((s.setPool p x).pool q).pending) hlt
    (fun q hq => by rw [pool_setPool, if_neg hq])
  have hx : ((s.setPool p x).pool p).pending = x.pending := by rw [pool_setPool, if_pos rfl]
  simp only [hx] at hsum
  rw [valueInHands_eq, valueInHands_eq]
  have hc : (s.setPool p x).cards = s.cards := rfl
  have hh : (s.setPool p x).holds = s.holds := rfl
  rw [hc, hh]
  unfold allPending
  omega

/-- A pool changed but for its pending expiry. -/
theorem surplus_setPool_same {s : State} {p : Nat} {x : Pool} (hx : x.pending = (s.pool p).pending) :
    surplus (s.setPool p x) = surplus s := by
  have hpend : allPending (s.setPool p x) = allPending s := by
    unfold allPending
    refine congrArg List.sum (List.map_congr_left fun q _ => ?_)
    rw [pool_setPool]
    split
    · rename_i hq
      rw [hx, hq]
    · rfl
  unfold surplus
  rw [valueInHands_eq, valueInHands_eq, hpend]
  rfl

theorem surplus_addPending {p : Nat} (a : Nat) (s : State) (hp : poolOk p = true) :
    surplus (addPending p a s) = surplus s - units a := by
  rw [addPending, surplus_setPool _ hp, units_add]
  ring

/-- 04 R70: what goes to pending expiry comes into hands. -/
theorem surplus_addPendings (ps : List (Nat × Nat)) (s : State) (hp : ∀ x ∈ ps, poolOk x.1 = true) :
    surplus (addPendings ps s) = surplus s - units (pendingSum ps) := by
  induction ps generalizing s with
  | nil => simp [addPendings, pendingSum]
  | cons x ps ih =>
    have hcons : addPendings (x :: ps) s = addPendings ps (addPending x.1 x.2 s) := rfl
    have hsum : pendingSum (x :: ps) = x.2 + pendingSum ps := by simp [pendingSum]
    rw [hcons, ih _ (fun y hy => hp y (List.mem_cons_of_mem _ hy)), surplus_addPending _ _ (hp x List.mem_cons_self), hsum, units_add]
    ring

/-! ## Entries -/

/-- 05 R94: what an entry adds to the outstanding value. -/
def counted (e : Entry) : BitVec 64 :=
  match e.kind with
  | .sale => units (basePart e).toNat + units (partsSum e)
  | .reload => units (basePart e).toNat + units (partsSum e)
  | .grant => units e.amount.toNat
  | .redeem => -(units (basePart e).toNat + units (partsSum e))
  | .capture => -(units (basePart e).toNat + units (partsSum e))
  | .refund => BitVec.ofInt 64 (basePart e) + units (partsSum e)
  | .void => -(units (basePart e).toNat + units (partsSum e))
  | .expire => -units e.amount.toNat
  | .adjust => 0

theorem outstandingValue_move (e : Entry) (c : Counters) : outstandingValue (moveCounters e c) = outstandingValue c + counted e := by
  unfold moveCounters counted outstandingValue
  cases e.kind <;> simp only [countBy, BitVec.ofInt_natCast, units] <;> ring

theorem surplus_pushEntry (e : Entry) (s : State) :
    surplus { s with journal := pushEntry e s.journal } = surplus s + counted e := by
  have h : (pushEntry e s.journal).counters = moveCounters e s.journal.counters := rfl
  have hv : valueInHands { s with journal := pushEntry e s.journal } = valueInHands s := rfl
  unfold surplus
  rw [hv, h, outstandingValue_move]
  ring

theorem surplus_amendEntry (q : Nat) (f : Entry → Entry) (s : State) : surplus (amendEntry q f s) = surplus s := surplus_same rfl rfl rfl rfl

theorem calm_postPositions (e : Entry) (s : State) : Calm s (postPositions e s) :=
  calm_of (by simp) (by simp) (by simp) (by simp) (by simp)

/-- 04 R70: an entry of any kind but EXPIRE leaves pending expiry as it is. -/
theorem movePool_pending {k : EntryKind} (hk : k ≠ .expire) (a : Nat) (p : Pool) : (movePool k a p).pending = p.pending := by
  cases k <;> first | rfl | exact absurd rfl hk

theorem movePool_state (k : EntryKind) (a : Nat) (p : Pool) : (movePool k a p).state = p.state := by
  cases k <;> rfl

theorem surplus_movePools {k : EntryKind} (hk : k ≠ .expire) (ps : List EntryPart) (s : State) :
    surplus (ps.foldl (fun s p => s.setPool p.pool (movePool k p.amount (s.pool p.pool))) s) = surplus s := by
  induction ps generalizing s with
  | nil => rfl
  | cons p ps ih => rw [List.foldl_cons, ih, surplus_setPool_same (movePool_pending hk _ _)]

/-- The amounts of a list of parts. -/
def partTotal (ps : List EntryPart) : Nat := (ps.map (fun p => p.amount)).sum

/-- 05 R87, R94: an entry of any kind but EXPIRE moves the surplus by what it counts, less what it sends to pending expiry. -/
theorem surplus_writeEntry {e : Entry} {s : State} (hk : e.kind ≠ .expire) (hf : ∀ p ∈ e.forfeited, poolOk p.pool = true) :
    surplus (writeEntry e s) = surplus s + counted e - units (partTotal e.forfeited) := by
  have hsum : pendingSum (e.forfeited.map (fun p => (p.pool, p.amount))) = partTotal e.forfeited := by
    simp [pendingSum, partTotal, Function.comp_def]
  unfold writeEntry
  rw [surplus_calm (calm_giveNotices _ _), postPools, surplus_addPendings _ _ (by simpa using hf), surplus_movePools hk,
    surplus_calm (calm_postPositions _ _), surplus_pushEntry, hsum]

end Sys2Proof.Proofs.Value
end

section
/-! Splits and consumed parts: each bucket and each part is cut in two, and the cuts cover the amount (01 R10, 02 R38). -/

namespace Sys2Proof.Proofs.Splits

open Sys2Proof Sys2Proof.Machine Sys2Proof.Laws

/-! ## The cuts of a split (01 R10) -/

/-- 01 R10: the buckets of a list with what a split of an amount takes of each. -/
def splitCuts (s : State) (shop : Nat) : Nat → List Bucket → List (Bucket × Nat)
  | _, [] => []
  | a, b :: bs =>
    let t := if eligible s shop b then min b.amount a else 0
    (b, t) :: splitCuts s shop (a - t) bs

/-- The sum of a list of cuts. -/
def cutSum {α : Type} (cs : List (α × Nat)) : Nat := (cs.map (fun e => e.2)).sum

@[simp] theorem cutSum_nil {α : Type} : cutSum ([] : List (α × Nat)) = 0 := rfl

@[simp] theorem cutSum_cons {α : Type} (e : α × Nat) (cs : List (α × Nat)) : cutSum (e :: cs) = e.2 + cutSum cs := by simp [cutSum]

/-- What is left of a bucket. -/
def leftBucket (e : Bucket × Nat) : Bucket := { e.1 with amount := e.1.amount - e.2 }

/-- What is taken of a bucket. -/
def takenPart (e : Bucket × Nat) : PromoPart := { pool := e.1.pool, expiry := e.1.expiry, amount := e.2 }

/-- The walk of a bucket list is its cuts: the parts taken, what they leave uncovered, and the buckets left. -/
theorem walkSplit_eq (s : State) (shop a : Nat) (bs : List Bucket) :
    walkSplit s shop a bs =
      (((splitCuts s shop a bs).filter (fun e => e.2 ≠ 0)).map takenPart, a - cutSum (splitCuts s shop a bs),
        (splitCuts s shop a bs).map leftBucket) := by
  induction bs generalizing a with
  | nil => simp [walkSplit, splitCuts]
  | cons b bs ih =>
    unfold walkSplit splitCuts
    by_cases h : (eligible s shop b && b.amount ≠ 0 && a ≠ 0) = true
    · simp only [h, if_true, ih]
      simp only [Bool.and_eq_true, decide_eq_true_eq] at h
      obtain ⟨⟨he, hb⟩, ha⟩ := h
      have ht : min b.amount a ≠ 0 := by omega
      simp only [he, if_true, cutSum_cons, List.map_cons]
      rw [List.filter_cons_of_pos (by simpa using ht)]
      refine Prod.ext rfl (Prod.ext ?_ rfl)
      dsimp only
      omega
    · have ht : (if eligible s shop b then min b.amount a else 0) = 0 := by
        split
        · rename_i he
          simp only [he, Bool.true_and, Bool.and_eq_true, decide_eq_true_eq, not_and, not_not] at h
          by_cases hb : b.amount = 0
          · omega
          · have := h hb
            omega
        · rfl
      simp only [h, Bool.false_eq_true, if_false, ih, ht]
      rw [List.filter_cons_of_neg (by simp)]
      simp [leftBucket]

theorem splitCuts_fst (s : State) (shop a : Nat) (bs : List Bucket) : (splitCuts s shop a bs).map (fun e => e.1) = bs := by
  induction bs generalizing a with
  | nil => rfl
  | cons b bs ih => simp [splitCuts, ih]

/-- A cut is no larger than its bucket, and falls only on an eligible one. -/
theorem splitCuts_le (s : State) (shop a : Nat) (bs : List Bucket) :
    ∀ e ∈ splitCuts s shop a bs, e.2 ≤ e.1.amount ∧ (e.2 ≠ 0 → eligible s shop e.1 = true) := by
  induction bs generalizing a with
  | nil => simp [splitCuts]
  | cons b bs ih =>
    intro e he
    rcases List.mem_cons.1 he with rfl | he
    · dsimp only
      split
      · rename_i hel
        exact ⟨Nat.min_le_left _ _, fun _ => hel⟩
      · exact ⟨Nat.zero_le _, fun h => absurd rfl h⟩
    · exact ih _ e he

/-- 01 R11: the cuts cover the amount as far as the eligible buckets go. -/
theorem cutSum_splitCuts (s : State) (shop a : Nat) (bs : List Bucket) :
    cutSum (splitCuts s shop a bs) = min a (bucketSum (bs.filter (eligible s shop))) := by
  induction bs generalizing a with
  | nil => simp [splitCuts, bucketSum]
  | cons b bs ih =>
    unfold splitCuts
    simp only [cutSum_cons, ih]
    cases he : eligible s shop b with
    | true =>
      simp only [if_true, List.filter_cons_of_pos he, bucketSum, List.map_cons, List.sum_cons]
      omega
    | false =>
      rw [List.filter_cons_of_neg (by simp [he])]
      simp

/-- A bucket that keeps some of its eligible amount ends the walk: no later bucket is touched. -/
theorem splitCuts_order (s : State) (shop a : Nat) (bs : List Bucket) :
    (splitCuts s shop a bs).Pairwise (fun e f => eligible s shop e.1 = true → e.2 ≠ e.1.amount → f.2 = 0) := by
  induction bs generalizing a with
  | nil => exact List.Pairwise.nil
  | cons b bs ih =>
    refine List.pairwise_cons.2 ⟨fun f hf => ?_, ih _⟩
    dsimp only
    intro he hne
    simp only [he, if_true] at hne hf
    have hzero : a - min b.amount a = 0 := by omega
    rw [hzero] at hf
    have hsum := cutSum_splitCuts s shop 0 bs
    have hle : f.2 ≤ cutSum (splitCuts s shop 0 bs) := List.single_le_sum (by simp) _ (List.mem_map_of_mem hf)
    omega

theorem sum_left {cs : List (Bucket × Nat)} (h : ∀ e ∈ cs, e.2 ≤ e.1.amount) :
    bucketSum (cs.map leftBucket) + cutSum cs = bucketSum (cs.map (fun e => e.1)) := by
  induction cs with
  | nil => rfl
  | cons e cs ih =>
    have he := h e List.mem_cons_self
    have := ih fun e he => h e (List.mem_cons_of_mem _ he)
    simp only [bucketSum, List.map_cons, List.sum_cons, cutSum_cons, leftBucket] at this ⊢
    omega

theorem sum_filter_ne_zero {α : Type} (cs : List (α × Nat)) : cutSum (cs.filter (fun e => e.2 ≠ 0)) = cutSum cs := by
  induction cs with
  | nil => rfl
  | cons e cs ih =>
    by_cases he : e.2 = 0
    · rw [List.filter_cons_of_neg (by simp [he]), ih, cutSum_cons, he, Nat.zero_add]
    · rw [List.filter_cons_of_pos (by simp [he]), cutSum_cons, cutSum_cons, ih]

/-- What the promotional parts of a split come to. -/
theorem sum_takenParts (cs : List (Bucket × Nat)) :
    (((cs.filter (fun e => e.2 ≠ 0)).map takenPart).map (fun p => p.amount)).sum = cutSum cs := by
  rw [← sum_filter_ne_zero cs, List.map_map]
  rfl

/-! ## The split of an amount (01 R10, R11) -/

theorem splitOf_eq (s : State) (shop a : Nat) (c : Card) :
    splitOf s shop a c =
      { promo := ((splitCuts s shop a c.buckets).filter (fun e => e.2 ≠ 0)).map takenPart,
        base := a - cutSum (splitCuts s shop a c.buckets) } := by
  simp [splitOf, walkSplit_eq]

theorem afterSplit_eq (s : State) (shop a : Nat) (c : Card) :
    afterSplit s shop a c =
      { c with
        buckets := (splitCuts s shop a c.buckets).map leftBucket
        base := c.base - (a - cutSum (splitCuts s shop a c.buckets)) } := by
  simp [afterSplit, walkSplit_eq]

theorem cutSum_le (s : State) (shop a : Nat) (bs : List Bucket) : cutSum (splitCuts s shop a bs) ≤ a := by
  rw [cutSum_splitCuts]
  exact Nat.min_le_left _ _

theorem splitTotal_splitOf (s : State) (shop a : Nat) (c : Card) : splitTotal (splitOf s shop a c) = a := by
  have := cutSum_le s shop a c.buckets
  simp only [splitTotal, splitOf_eq, sum_takenParts]
  omega

/-- 01 R11: an amount within the spendable value leaves no more uncovered than the base. -/
theorem splitOf_base_le {s : State} {shop a : Nat} {c : Card} (h : a ≤ spendable s shop c) : (splitOf s shop a c).base ≤ c.base := by
  simp only [splitOf_eq, cutSum_splitCuts, spendable] at h ⊢
  omega

/-- Where the cuts leave something uncovered, every eligible bucket has gone whole. -/
theorem splitCuts_whole (s : State) (shop a : Nat) (bs : List Bucket) (h : cutSum (splitCuts s shop a bs) < a) :
    ∀ e ∈ splitCuts s shop a bs, eligible s shop e.1 = true → e.2 = e.1.amount := by
  induction bs generalizing a with
  | nil => simp [splitCuts]
  | cons b bs ih =>
    simp only [splitCuts, cutSum_cons] at h
    intro e he hel
    rcases List.mem_cons.1 he with rfl | he
    · dsimp only at hel ⊢
      simp only [hel, if_true] at h ⊢
      omega
    · exact ih _ (by omega) e he hel

/-- 01 R10: base is taken only once every eligible bucket is empty. -/
theorem eligible_emptied {s : State} {shop a : Nat} {c : Card} (h : (splitOf s shop a c).base ≠ 0) :
    ∀ b ∈ (afterSplit s shop a c).buckets, eligible s shop b = true → b.amount = 0 := by
  simp only [splitOf_eq, afterSplit_eq] at h ⊢
  intro b hb he
  obtain ⟨e, hmem, rfl⟩ := List.mem_map.1 hb
  have := splitCuts_whole s shop a c.buckets (by omega) e hmem he
  simp only [leftBucket]
  omega

/-- 01 R10: a bucket that keeps an eligible amount is the last that the split touches. -/
theorem untouched_after {s : State} {shop a : Nat} {c : Card} {n m : Nat} (hn : n < (afterSplit s shop a c).buckets.length)
    (hm : m < (afterSplit s shop a c).buckets.length) (hc : m < c.buckets.length) (hlt : n < m)
    (he : eligible s shop (afterSplit s shop a c).buckets[n] = true) (ha : (afterSplit s shop a c).buckets[n].amount ≠ 0) :
    (afterSplit s shop a c).buckets[m] = c.buckets[m] := by
  have hb : (afterSplit s shop a c).buckets = (splitCuts s shop a c.buckets).map leftBucket := by rw [afterSplit_eq]
  have hfst := splitCuts_fst s shop a c.buckets
  have hle := splitCuts_le s shop a c.buckets
  have hpair := List.pairwise_iff_getElem.1 (splitCuts_order s shop a c.buckets)
  have hln : n < (splitCuts s shop a c.buckets).length := by simpa [hb] using hn
  have hlm : m < (splitCuts s shop a c.buckets).length := by simpa [hb] using hm
  have hbn : (afterSplit s shop a c).buckets[n] = leftBucket (splitCuts s shop a c.buckets)[n] := by simp [hb]
  have hbm : (afterSplit s shop a c).buckets[m] = leftBucket (splitCuts s shop a c.buckets)[m] := by simp [hb]
  have hcm : c.buckets[m] = (splitCuts s shop a c.buckets)[m].1 := by
    have := List.getElem_map (fun e : Bucket × Nat => e.1) (l := splitCuts s shop a c.buckets) (i := m) (h := by simpa using hlm)
    rw [← this]
    simp [hfst]
  rw [hbn] at he ha
  have hzero : (splitCuts s shop a c.buckets)[m].2 = 0 :=
    hpair n m hln hlm hlt he fun hall => ha (by simp only [leftBucket]; omega)
  rw [hbm, hcm, leftBucket, hzero]
  rfl

/-! ## Consumed parts (02 R38) -/

/-- 02 R38: the parts of a hold with what is consumed of each. -/
def consumeCuts : Nat → List PromoPart → List (PromoPart × Nat)
  | _, [] => []
  | a, p :: ps => (p, min p.amount a) :: consumeCuts (a - min p.amount a) ps

/-- A part with another amount. -/
def partOf (p : PromoPart) (a : Nat) : PromoPart := { p with amount := a }

/-- The sum of a list of promotional parts. -/
def promoSum (ps : List PromoPart) : Nat := (ps.map (fun p => p.amount)).sum

@[simp] theorem promoSum_nil : promoSum [] = 0 := rfl

@[simp] theorem promoSum_cons (p : PromoPart) (ps : List PromoPart) : promoSum (p :: ps) = p.amount + promoSum ps := by simp [promoSum]

theorem splitTotal_eq (x : Split) : splitTotal x = promoSum x.promo + x.base := rfl

/-- The consumption of parts is their cuts. -/
theorem consumePromo_eq (a : Nat) (ps : List PromoPart) :
    consumePromo a ps =
      (((consumeCuts a ps).map (fun e => partOf e.1 e.2)).filter (fun p => p.amount ≠ 0),
        ((consumeCuts a ps).map (fun e => partOf e.1 (e.1.amount - e.2))).filter (fun p => p.amount ≠ 0),
        a - cutSum (consumeCuts a ps)) := by
  induction ps generalizing a with
  | nil => simp [consumePromo, consumeCuts]
  | cons p ps ih =>
    unfold consumePromo consumeCuts
    simp only [ih, List.map_cons, cutSum_cons]
    refine Prod.ext ?_ (Prod.ext ?_ ?_)
    · dsimp only
      split
      · rename_i h
        rw [List.filter_cons_of_neg (by simp [partOf, h])]
      · rename_i h
        rw [List.filter_cons_of_pos (by simpa [partOf] using h)]
        rfl
    · dsimp only
      split
      · rename_i h
        rw [List.filter_cons_of_neg (by simp [partOf, ← h])]
      · rename_i h
        have hne : p.amount - min p.amount a ≠ 0 := by omega
        exact (List.filter_cons_of_pos (p := fun p : PromoPart => decide (p.amount ≠ 0)) (a := partOf p _) (decide_eq_true hne)).symm
    · dsimp only
      omega

theorem consumeCuts_fst (a : Nat) (ps : List PromoPart) : (consumeCuts a ps).map (fun e => e.1) = ps := by
  induction ps generalizing a with
  | nil => rfl
  | cons p ps ih => simp [consumeCuts, ih]

theorem consumeCuts_le (a : Nat) (ps : List PromoPart) : ∀ e ∈ consumeCuts a ps, e.2 ≤ e.1.amount := by
  induction ps generalizing a with
  | nil => simp [consumeCuts]
  | cons p ps ih =>
    intro e he
    rcases List.mem_cons.1 he with rfl | he
    · exact Nat.min_le_left _ _
    · exact ih _ e he

theorem cutSum_consumeCuts (a : Nat) (ps : List PromoPart) : cutSum (consumeCuts a ps) = min a (promoSum ps) := by
  induction ps generalizing a with
  | nil => simp [consumeCuts]
  | cons p ps ih =>
    simp only [consumeCuts, cutSum_cons, ih, promoSum_cons]
    omega

/-- 02 R38: a part is consumed only when every part before it is consumed whole. -/
theorem consumeCuts_order (a : Nat) (ps : List PromoPart) :
    (consumeCuts a ps).Pairwise (fun e f => f.2 ≠ 0 → e.2 = e.1.amount) := by
  induction ps generalizing a with
  | nil => exact List.Pairwise.nil
  | cons p ps ih =>
    refine List.pairwise_cons.2 ⟨fun f hf hne => ?_, ih _⟩
    have hle : f.2 ≤ cutSum (consumeCuts (a - min p.amount a) ps) := List.single_le_sum (by simp) _ (List.mem_map_of_mem hf)
    rw [cutSum_consumeCuts] at hle
    dsimp only
    omega

/-- Where the cuts leave something uncovered, every part has gone whole. -/
theorem consumeCuts_whole (a : Nat) (ps : List PromoPart) (h : cutSum (consumeCuts a ps) < a) :
    ∀ e ∈ consumeCuts a ps, e.2 = e.1.amount := by
  induction ps generalizing a with
  | nil => simp [consumeCuts]
  | cons p ps ih =>
    simp only [consumeCuts, cutSum_cons] at h
    intro e he
    rcases List.mem_cons.1 he with rfl | he
    · dsimp only
      omega
    · exact ih _ (by omega) e he

theorem promoSum_filter_ne_zero (ps : List PromoPart) : promoSum (ps.filter (fun p => p.amount ≠ 0)) = promoSum ps := by
  induction ps with
  | nil => rfl
  | cons p ps ih =>
    by_cases hp : p.amount = 0
    · rw [List.filter_cons_of_neg (by simp [hp]), ih, promoSum_cons, hp, Nat.zero_add]
    · rw [List.filter_cons_of_pos (by simp [hp]), promoSum_cons, promoSum_cons, ih]

theorem promoSum_cuts (cs : List (PromoPart × Nat)) : promoSum (cs.map (fun e => partOf e.1 e.2)) = cutSum cs := by
  induction cs with
  | nil => rfl
  | cons e cs ih =>
    rw [List.map_cons, promoSum_cons, ih, cutSum_cons]
    rfl

theorem promoSum_rests {cs : List (PromoPart × Nat)} (h : ∀ e ∈ cs, e.2 ≤ e.1.amount) :
    promoSum (cs.map (fun e => partOf e.1 (e.1.amount - e.2))) + cutSum cs = promoSum (cs.map (fun e => e.1)) := by
  induction cs with
  | nil => rfl
  | cons e cs ih =>
    have he := h e List.mem_cons_self
    have := ih fun e he => h e (List.mem_cons_of_mem _ he)
    simp only [List.map_cons, promoSum_cons, cutSum_cons, partOf] at this ⊢
    omega

theorem consumed_eq (a : Nat) (x : Split) :
    consumed a x =
      { promo := ((consumeCuts a x.promo).map (fun e => partOf e.1 e.2)).filter (fun p => p.amount ≠ 0),
        base := min x.base (a - cutSum (consumeCuts a x.promo)) } := by
  simp [consumed, consumePromo_eq]

theorem remainder_eq (a : Nat) (x : Split) :
    remainder a x =
      { promo := ((consumeCuts a x.promo).map (fun e => partOf e.1 (e.1.amount - e.2))).filter (fun p => p.amount ≠ 0),
        base := x.base - min x.base (a - cutSum (consumeCuts a x.promo)) } := by
  simp [remainder, consumePromo_eq]

/-- 02 R38: the consumed parts and the remainder make the hold. -/
theorem splitTotal_consumed_remainder (a : Nat) (x : Split) : splitTotal (consumed a x) + splitTotal (remainder a x) = splitTotal x := by
  have hrest := promoSum_rests (consumeCuts_le a x.promo)
  rw [consumeCuts_fst] at hrest
  simp only [splitTotal_eq, consumed_eq, remainder_eq, promoSum_filter_ne_zero, promoSum_cuts]
  omega

theorem splitTotal_consumed {a : Nat} {x : Split} (h : a ≤ splitTotal x) : splitTotal (consumed a x) = a := by
  have hsum := cutSum_consumeCuts a x.promo
  simp only [splitTotal_eq] at h
  simp only [splitTotal_eq, consumed_eq, promoSum_filter_ne_zero, promoSum_cuts]
  omega

/-- Settles O21: both walks cut each item in two, the cuts in order, and what they leave uncovered is the base. -/
theorem splitsCoverTheAmount : Obligations.SplitsCoverTheAmount := by
  refine ⟨fun s shop a c h => ?_, fun a x h => ?_⟩
  · refine ⟨splitTotal_splitOf s shop a c, splitOf_base_le h, ?_, ⟨splitCuts s shop a c.buckets, splitCuts_fst _ _ _ _,
      splitCuts_le _ _ _ _, by rw [afterSplit_eq]; rfl, by rw [splitOf_eq]; rfl⟩, eligible_emptied, ?_⟩
    · rw [afterSplit_eq, splitOf_eq]
    · intro n m hn hm hc hlt he ha
      exact untouched_after hn hm hc hlt he ha
  · refine ⟨splitTotal_consumed h, ?_, consumeCuts a x.promo, consumeCuts_fst _ _, consumeCuts_le _ _, consumeCuts_order _ _, ?_,
      by rw [consumed_eq]; rfl, by rw [remainder_eq]; rfl⟩
    · simp only [consumed_eq, remainder_eq]
      omega
    · intro hne
      refine consumeCuts_whole a x.promo ?_
      simp only [consumed_eq] at hne
      omega

end Sys2Proof.Proofs.Splits
end

section
/-! What the operations on a bucket list do to its amount, to the buckets it has and to the pools of its buckets (01 R6, R7, R10, 02 R34,
03 R54, R64). -/

namespace Sys2Proof.Proofs.Amounts

open Sys2Proof Sys2Proof.Machine Sys2Proof.Laws Sys2Proof.Proofs.Buckets Sys2Proof.Proofs.Splits

@[simp] theorem bucketSum_nil : bucketSum [] = 0 := rfl

@[simp] theorem bucketSum_cons (b : Bucket) (bs : List Bucket) : bucketSum (b :: bs) = b.amount + bucketSum bs := by simp [bucketSum]

/-- The bucket list has every bucket that another one has. -/
def Covers (cs bs : List Bucket) : Prop := ∀ p d, hasBucket p d bs = true → hasBucket p d cs = true

theorem Covers.refl (bs : List Bucket) : Covers bs bs := fun _ _ h => h

theorem Covers.trans {ds cs bs : List Bucket} (h : Covers ds cs) (h' : Covers cs bs) : Covers ds bs := fun p d hb => h p d (h' p d hb)

/-- Every bucket of a list is of a pool with a property. -/
def OfPools (P : Nat → Prop) (bs : List Bucket) : Prop := ∀ b ∈ bs, P b.pool

theorem covers_map {bs : List Bucket} {f : Bucket → Bucket} (hp : ∀ b, (f b).pool = b.pool) (hd : ∀ b, (f b).expiry = b.expiry) :
    Covers (bs.map f) bs := by
  intro p d h
  obtain ⟨b, hb, hbp, hbd⟩ := (hasBucket_true_iff _ _ _).1 h
  exact (hasBucket_true_iff _ _ _).2 ⟨f b, List.mem_map_of_mem hb, (hp b).trans hbp, (hd b).trans hbd⟩

theorem ofPools_map {P : Nat → Prop} {bs : List Bucket} {f : Bucket → Bucket} (hp : ∀ b, (f b).pool = b.pool) (h : OfPools P bs) :
    OfPools P (bs.map f) := by
  intro b hb
  obtain ⟨b', hb', rfl⟩ := List.mem_map.1 hb
  exact (hp b').symm ▸ h b' hb'

/-! ## One bucket changed -/

/-- The bucket of a pool and an expiry day changed. -/
def atBucket (p d : Nat) (g : Nat → Nat) (b : Bucket) : Bucket := if b.pool = p ∧ b.expiry = d then { b with amount := g b.amount } else b

theorem atBucket_pool (p d : Nat) (g : Nat → Nat) (b : Bucket) : (atBucket p d g b).pool = b.pool := by
  unfold atBucket
  split <;> rfl

theorem atBucket_expiry (p d : Nat) (g : Nat → Nat) (b : Bucket) : (atBucket p d g b).expiry = b.expiry := by
  unfold atBucket
  split <;> rfl

theorem map_atBucket_absent {p d : Nat} {g : Nat → Nat} {bs : List Bucket} (h : hasBucket p d bs = false) : bs.map (atBucket p d g) = bs := by
  refine (List.map_congr_left fun b hb => ?_).trans (List.map_id bs)
  rw [atBucket, if_neg ((hasBucket_false_iff _ _ _).1 h b hb), id]

/-- Of the buckets of an ordered list, one at most is of a pool and an expiry day. -/
theorem absent_after {b : Bucket} {bs : List Bucket} (h : (b :: bs).Pairwise Before) : hasBucket b.pool b.expiry bs = false := by
  refine (hasBucket_false_iff _ _ _).2 fun c hc he => ?_
  obtain ⟨hp, hd⟩ := he
  rcases (List.pairwise_cons.1 h).1 c hc with hlt | ⟨-, hlt⟩
  · exact absurd hd (Nat.ne_of_gt hlt)
  · exact absurd hp (Nat.ne_of_gt hlt)

/-- A change of one bucket changes the sum by what it changes that bucket. -/
theorem bucketSum_atBucket {p d : Nat} {g : Nat → Nat} {bs : List Bucket} {b : Bucket} (ho : bs.Pairwise Before) (hb : b ∈ bs)
    (hp : b.pool = p) (hd : b.expiry = d) : bucketSum (bs.map (atBucket p d g)) + b.amount = bucketSum bs + g b.amount := by
  induction bs with
  | nil => exact absurd hb List.not_mem_nil
  | cons c cs ih =>
    rw [List.map_cons, bucketSum_cons, bucketSum_cons]
    by_cases hc : c.pool = p ∧ c.expiry = d
    · obtain ⟨hcp, hcd⟩ := hc
      have habs := absent_after ho
      rw [hcp, hcd] at habs
      have hbc : b = c := by
        rcases List.mem_cons.1 hb with he | hm
        · exact he
        · exact absurd ⟨hp, hd⟩ ((hasBucket_false_iff _ _ _).1 habs b hm)
      subst hbc
      rw [map_atBucket_absent habs, atBucket, if_pos ⟨hcp, hcd⟩]
      dsimp only
      omega
    · have hm : b ∈ cs := by
        rcases List.mem_cons.1 hb with he | hm
        · exact absurd ⟨he ▸ hp, he ▸ hd⟩ hc
        · exact hm
      have := ih (List.pairwise_cons.1 ho).2 hm
      rw [atBucket, if_neg hc]
      omega

/-! ## Credits (01 R6) -/

theorem mergeBucket_eq (p d a : Nat) (bs : List Bucket) : mergeBucket p d a bs = bs.map (atBucket p d (fun x => x + a)) := rfl

theorem bucketSum_merge {p d a : Nat} {bs : List Bucket} (ho : bucketsOrdered bs) (h : hasBucket p d bs = true) :
    bucketSum (mergeBucket p d a bs) = bucketSum bs + a := by
  obtain ⟨b, hb, hp, hd⟩ := (hasBucket_true_iff _ _ _).1 h
  have := bucketSum_atBucket (g := fun x => x + a) ho.1 hb hp hd
  rw [mergeBucket_eq]
  omega

theorem covers_merge (p d a : Nat) (bs : List Bucket) : Covers (mergeBucket p d a bs) bs :=
  covers_map (atBucket_pool p d (fun x => x + a)) (atBucket_expiry p d (fun x => x + a))

theorem ofPools_merge {P : Nat → Prop} {bs : List Bucket} (p d a : Nat) (h : OfPools P bs) : OfPools P (mergeBucket p d a bs) :=
  ofPools_map (atBucket_pool p d (fun x => x + a)) h

theorem bucketSum_insert (x : Bucket) (bs : List Bucket) : bucketSum (insertBucket x bs) = x.amount + bucketSum bs := by
  induction bs with
  | nil => rfl
  | cons b bs ih =>
    unfold insertBucket
    split
    · rw [bucketSum_cons]
    · rw [bucketSum_cons, bucketSum_cons, ih]
      omega

/-- 01 R6: a credit that is made brings its amount, keeps every bucket, and has the bucket it names. -/
theorem credit_some {p d a : Nat} {bs cs : List Bucket} (h : credit p d a bs = some cs) (ho : bucketsOrdered bs) :
    bucketSum cs = bucketSum bs + a ∧ Covers cs bs := by
  unfold credit at h
  split at h
  · rename_i hb
    obtain rfl := Option.some.inj h
    exact ⟨bucketSum_merge ho hb, covers_merge _ _ _ _⟩
  · split at h
    · obtain rfl := Option.some.inj h
      refine ⟨?_, fun q e hq => ?_⟩
      · rw [bucketSum_insert]
        dsimp only
        omega
      · obtain ⟨b, hb, hbq⟩ := (hasBucket_true_iff _ _ _).1 hq
        exact (hasBucket_true_iff _ _ _).2 ⟨b, mem_insertBucket.2 (Or.inr hb), hbq⟩
    · exact absurd h (by simp)

theorem ofPools_credit {P : Nat → Prop} {p d a : Nat} {bs cs : List Bucket} (h : credit p d a bs = some cs) (hP : P p) (hb : OfPools P bs) :
    OfPools P cs := by
  unfold credit at h
  split at h
  · obtain rfl := Option.some.inj h
    exact ofPools_merge p d a hb
  · split at h
    · obtain rfl := Option.some.inj h
      intro b hm
      rcases mem_insertBucket.1 hm with rfl | hm
      · exact hP
      · exact hb b hm
    · exact absurd h (by simp)

/-- 01 R6: a credit is made where the list has the bucket, or a place for it. -/
theorem credit_isSome_iff (p d a : Nat) (bs : List Bucket) :
    (credit p d a bs).isSome = true ↔ hasBucket p d bs = true ∨ bs.length < Config.bucketLimit := by
  unfold credit
  split
  · rename_i h
    simp [h]
  · rename_i h
    split
    · rename_i hl
      simp [hl]
    · rename_i hl
      simp [h, hl]

/-! ## Empty buckets removed (01 R7) -/

theorem bucketSum_tidy (held : List PromoPart) (bs : List Bucket) : bucketSum (tidy held bs) = bucketSum bs := by
  induction bs with
  | nil => rfl
  | cons b bs ih =>
    unfold tidy at *
    by_cases hb : b.amount = 0
    · by_cases hr : refersTo held b = true
      · rw [List.filter_cons_of_pos (by simp [hr]), bucketSum_cons, bucketSum_cons, ih]
      · rw [List.filter_cons_of_neg (by simp [hb, hr]), bucketSum_cons, ih, hb, Nat.zero_add]
    · rw [List.filter_cons_of_pos (by simp [hb]), bucketSum_cons, bucketSum_cons, ih]

theorem ofPools_tidy {P : Nat → Prop} {bs : List Bucket} (held : List PromoPart) (h : OfPools P bs) : OfPools P (tidy held bs) :=
  fun b hb => h b (List.mem_filter.1 hb).1

/-- A bucket that a held part is drawn from stays. -/
theorem hasBucket_tidy {held : List PromoPart} {p : PromoPart} {bs : List Bucket} (hp : p ∈ held) (h : hasBucket p.pool p.expiry bs = true) :
    hasBucket p.pool p.expiry (tidy held bs) = true := by
  obtain ⟨b, hb, hbp, hbd⟩ := (hasBucket_true_iff _ _ _).1 h
  refine (hasBucket_true_iff _ _ _).2 ⟨b, List.mem_filter.2 ⟨hb, ?_⟩, hbp, hbd⟩
  have hr : refersTo held b = true := List.any_eq_true.2 ⟨p, hp, by simp [hbp, hbd]⟩
  simp [hr]

/-! ## Splits (01 R10) -/

theorem covers_afterSplit (s : State) (shop a : Nat) (c : Card) : Covers (afterSplit s shop a c).buckets c.buckets := by
  rw [afterSplit_eq]
  intro p d hb
  obtain ⟨b, hm, hbp, hbd⟩ := (hasBucket_true_iff _ _ _).1 hb
  rw [← splitCuts_fst s shop a c.buckets] at hm
  obtain ⟨e, he, rfl⟩ := List.mem_map.1 hm
  exact (hasBucket_true_iff _ _ _).2 ⟨leftBucket e, List.mem_map_of_mem he, hbp, hbd⟩

theorem ofPools_afterSplit {P : Nat → Prop} {c : Card} (s : State) (shop a : Nat) (h : OfPools P c.buckets) :
    OfPools P (afterSplit s shop a c).buckets := by
  rw [afterSplit_eq]
  intro b hb
  obtain ⟨e, he, rfl⟩ := List.mem_map.1 hb
  refine h e.1 ?_
  rw [← splitCuts_fst s shop a c.buckets]
  exact List.mem_map_of_mem he

/-- 01 R10: every promotional part of a split is drawn from a bucket of the list. -/
theorem part_of_split {s : State} {shop a : Nat} {c : Card} {p : PromoPart} (h : p ∈ (splitOf s shop a c).promo) :
    ∃ b ∈ c.buckets, b.pool = p.pool ∧ b.expiry = p.expiry := by
  rw [splitOf_eq] at h
  obtain ⟨e, he, rfl⟩ := List.mem_map.1 h
  refine ⟨e.1, ?_, rfl, rfl⟩
  rw [← splitCuts_fst s shop a c.buckets]
  exact List.mem_map_of_mem (List.mem_filter.1 he).1

/-- 01 R10: what a split leaves and what it takes make the card's value. -/
theorem worth_afterSplit {s : State} {shop a : Nat} {c : Card} (h : a ≤ spendable s shop c) :
    (afterSplit s shop a c).base + bucketSum (afterSplit s shop a c).buckets + a = c.base + bucketSum c.buckets := by
  have hb := splitOf_base_le h
  have hle := cutSum_le s shop a c.buckets
  have hsum := sum_left fun e he => (splitCuts_le s shop a c.buckets e he).1
  rw [splitCuts_fst] at hsum
  simp only [splitOf_eq] at hb
  simp only [afterSplit_eq]
  omega

/-! ## Held value returned (02 R34) -/

theorem returnPromo_cons (s : State) (p : PromoPart) (ps : List PromoPart) (bs : List Bucket) :
    returnPromo s (p :: ps) bs =
      match (if usable s p.pool p.expiry then credit p.pool p.expiry p.amount bs else none) with
      | some cs => returnPromo s ps cs
      | none => ((returnPromo s ps bs).1, (p.pool, p.amount) :: (returnPromo s ps bs).2) := rfl

/-- 02 R34: every part returns to its bucket or goes to pending expiry; no bucket is lost. -/
theorem returnPromo_keeps (s : State) (ps : List PromoPart) {bs : List Bucket} (ho : bucketsOrdered bs) :
    bucketSum (returnPromo s ps bs).1 + pendingSum (returnPromo s ps bs).2 = bucketSum bs + promoSum ps ∧
      Covers (returnPromo s ps bs).1 bs := by
  induction ps generalizing bs with
  | nil => exact ⟨rfl, Covers.refl bs⟩
  | cons p ps ih =>
    rw [returnPromo_cons, promoSum_cons]
    split
    · rename_i cs hc
      have hc : credit p.pool p.expiry p.amount bs = some cs := by
        split at hc
        · exact hc
        · exact absurd hc (by simp)
      obtain ⟨hsum, hcov⟩ := credit_some hc ho
      obtain ⟨ihs, ihc⟩ := ih (bucketsOrdered_credit hc ho)
      exact ⟨by omega, ihc.trans hcov⟩
    · obtain ⟨ihs, ihc⟩ := ih ho
      refine ⟨?_, ihc⟩
      simp only [pendingSum, List.map_cons, List.sum_cons] at ihs ⊢
      omega

/-- 02 R34: the pools that the return reaches are those of the buckets and the parts. -/
theorem returnPromo_pools {P : Nat → Prop} (s : State) (ps : List PromoPart) {bs : List Bucket} (hp : ∀ p ∈ ps, P p.pool)
    (hb : OfPools P bs) : OfPools P (returnPromo s ps bs).1 ∧ ∀ x ∈ (returnPromo s ps bs).2, P x.1 := by
  induction ps generalizing bs with
  | nil => exact ⟨hb, List.forall_mem_nil _⟩
  | cons p ps ih =>
    have hps : ∀ q ∈ ps, P q.pool := fun q hq => hp q (List.mem_cons_of_mem _ hq)
    rw [returnPromo_cons]
    split
    · rename_i cs hc
      have hc : credit p.pool p.expiry p.amount bs = some cs := by
        split at hc
        · exact hc
        · exact absurd hc (by simp)
      exact ih hps (ofPools_credit hc (hp p List.mem_cons_self) hb)
    · obtain ⟨h1, h2⟩ := ih hps hb
      exact ⟨h1, List.forall_mem_cons.2 ⟨hp p List.mem_cons_self, h2⟩⟩

/-! ## Shares of a refund (03 R54) -/

/-- The amounts of a list of shares. -/
def shareSum (xs : List Share) : Nat := (xs.map (fun x => x.amount)).sum

theorem placeShare_keeps {s : State} {q d a : Nat} {bs : List Bucket} {x : Nat × List Bucket} (h : placeShare s q d a bs = some x)
    (ho : bucketsOrdered bs) : bucketSum x.2 = bucketSum bs + a ∧ Covers x.2 bs := by
  unfold placeShare at h
  split at h
  · split at h
    · rename_i cs hc
      obtain rfl := Option.some.inj h
      exact credit_some hc ho
    · obtain ⟨b, hb, rfl⟩ := Option.map_eq_some_iff.1 h
      have hm := List.mem_of_find?_eq_some hb
      have hq : b.pool = q := by
        have := List.find?_some hb
        simp only [Bool.and_eq_true, beq_iff_eq] at this
        exact this.1
      exact ⟨bucketSum_merge ho ((hasBucket_true_iff _ _ _).2 ⟨b, hm, hq, rfl⟩), covers_merge _ _ _ _⟩
  · exact absurd h (by simp)

theorem placeShare_pools {P : Nat → Prop} {s : State} {q d a : Nat} {bs : List Bucket} {x : Nat × List Bucket}
    (h : placeShare s q d a bs = some x) (hq : P q) (hb : OfPools P bs) : OfPools P x.2 := by
  unfold placeShare at h
  split at h
  · split at h
    · rename_i cs hc
      obtain rfl := Option.some.inj h
      exact ofPools_credit hc hq hb
    · obtain ⟨b, -, rfl⟩ := Option.map_eq_some_iff.1 h
      exact ofPools_merge _ _ _ hb
  · exact absurd h (by simp)

/-- The forfeited shares of a list. -/
def forfeitedShares (xs : List Share) : List Share := xs.filter (fun x => x.placedAt.isNone)

theorem placedValue_add_forfeited (xs : List Share) : placedValue xs + shareSum (forfeitedShares xs) = shareSum xs := by
  induction xs with
  | nil => rfl
  | cons x xs ih =>
    unfold placedValue forfeitedShares shareSum at *
    cases hx : x.placedAt with
    | none =>
      rw [List.filter_cons_of_neg (by simp [hx]), List.filter_cons_of_pos (by simp [hx])]
      simp only [List.map_cons, List.sum_cons]
      omega
    | some d =>
      rw [List.filter_cons_of_pos (by simp [hx]), List.filter_cons_of_neg (by simp [hx])]
      simp only [List.map_cons, List.sum_cons]
      omega

/-- 03 R54, R55: what is placed comes into the list, no bucket is lost, and the shares make the amounts apportioned. -/
theorem placeShares_keeps (s : State) (xs : List (EntryPart × Nat)) {bs : List Bucket} (ho : bucketsOrdered bs) :
    bucketSum (placeShares s xs bs).2 = bucketSum bs + placedValue (placeShares s xs bs).1 ∧
      Covers (placeShares s xs bs).2 bs ∧ shareSum (placeShares s xs bs).1 = cutSum xs := by
  induction xs generalizing bs with
  | nil => exact ⟨rfl, Covers.refl bs, rfl⟩
  | cons x xs ih =>
    obtain ⟨p, a⟩ := x
    rw [cutSum_cons]
    unfold placeShares
    split
    · rename_i ha
      obtain ⟨h1, h2, h3⟩ := ih ho
      exact ⟨h1, h2, by omega⟩
    · split
      · rename_i y hy
        obtain ⟨hs, hc⟩ := placeShare_keeps hy ho
        obtain ⟨h1, h2, h3⟩ := ih (bucketsOrdered_placeShare hy ho)
        refine ⟨?_, h2.trans hc, ?_⟩
        · simp only [placedValue, Option.isSome_some, List.filter_cons_of_pos, List.map_cons, List.sum_cons] at h1 ⊢
          omega
        · simp only [shareSum, List.map_cons, List.sum_cons] at h3 ⊢
          omega
      · obtain ⟨h1, h2, h3⟩ := ih ho
        refine ⟨?_, h2, ?_⟩
        · simpa [placedValue] using h1
        · simp only [shareSum, List.map_cons, List.sum_cons] at h3 ⊢
          omega

theorem placeShares_pools {P : Nat → Prop} (s : State) (xs : List (EntryPart × Nat)) {bs : List Bucket} (hx : ∀ x ∈ xs, P x.1.pool)
    (hb : OfPools P bs) : OfPools P (placeShares s xs bs).2 ∧ ∀ x ∈ (placeShares s xs bs).1, P x.pool := by
  induction xs generalizing bs with
  | nil => exact ⟨hb, List.forall_mem_nil _⟩
  | cons x xs ih =>
    obtain ⟨p, a⟩ := x
    obtain ⟨hp, hxs⟩ := List.forall_mem_cons.1 hx
    unfold placeShares
    split
    · exact ih hxs hb
    · split
      · rename_i y hy
        obtain ⟨h1, h2⟩ := ih hxs (placeShare_pools hy hp hb)
        exact ⟨h1, List.forall_mem_cons.2 ⟨hp, h2⟩⟩
      · obtain ⟨h1, h2⟩ := ih hxs hb
        exact ⟨h1, List.forall_mem_cons.2 ⟨hp, h2⟩⟩

/-! ## Voids (03 R64) -/

theorem withoutBonus_some {e : Entry} {p : EntryPart} (h : bonusPart e = some p) (bs : List Bucket) :
    withoutBonus e bs = bs.map (atBucket p.pool (p.expiry.getD 0) (fun x => x - p.amount)) := by
  unfold withoutBonus
  rw [h]
  refine List.map_congr_left fun b _ => ?_
  simp [isBonusBucket, atBucket]

theorem withoutBonus_none {e : Entry} (h : bonusPart e = none) (bs : List Bucket) : withoutBonus e bs = bs := by
  unfold withoutBonus
  rw [h]

/-- 03 R63, R64: the bonus that is still in its bucket leaves the list. -/
theorem bucketSum_withoutBonus {e : Entry} {c : Card} (ho : bucketsOrdered c.buckets) (hv : valueLeft e c = true) :
    bucketSum (withoutBonus e c.buckets) + ((bonusPart e).map (fun p => p.amount)).getD 0 = bucketSum c.buckets := by
  cases hp : bonusPart e with
  | none => rw [withoutBonus_none hp]; rfl
  | some p =>
    simp only [valueLeft, hp, Bool.and_eq_true, List.any_eq_true, isBonusBucket, beq_iff_eq, decide_eq_true_eq] at hv
    obtain ⟨-, b, hb, ⟨hbp, hbd⟩, hle⟩ := hv
    have := bucketSum_atBucket (g := fun x => x - p.amount) ho.1 hb hbp hbd
    rw [withoutBonus_some hp]
    simp only [Option.map_some, Option.getD_some] at this ⊢
    omega

theorem ofPools_withoutBonus {P : Nat → Prop} {bs : List Bucket} (e : Entry) (h : OfPools P bs) : OfPools P (withoutBonus e bs) := by
  cases hp : bonusPart e with
  | none => rw [withoutBonus_none hp]; exact h
  | some p => rw [withoutBonus_some hp]; exact ofPools_map (atBucket_pool _ _ _) h

end Sys2Proof.Proofs.Amounts
end

section
/-! Soundness of the value records, record by record, and what each write must bring to keep it (01 R1, R4, R7, 02 R25, 04 R67, 05 R85). -/

namespace Sys2Proof.Proofs.Records

open Sys2Proof Sys2Proof.Machine Sys2Proof.Laws Sys2Proof.Proofs.Buckets Sys2Proof.Proofs.Bounds Sys2Proof.Proofs.Steps
  Sys2Proof.Proofs.Periods Sys2Proof.Proofs.Value Sys2Proof.Proofs.Splits Sys2Proof.Proofs.Amounts

/-! ## Soundness by record -/

/-- 02 R25, 01 R7: a card has a hold's reference and the buckets of its parts. -/
def Anchors (c : Card) (ref : HoldRef) (h : Hold) : Prop :=
  ref ∈ c.holds ∧ ∀ p ∈ h.parts.promo, hasBucket p.pool p.expiry c.buckets = true

/-- 05 R85: an entry's parts are of defined pools; a SALE or RELOAD has at most one. -/
def EntrySound (s : State) (e : Entry) : Prop :=
  (∀ p ∈ e.parts, poolUsed s p.pool = true) ∧ (e.kind = .sale ∨ e.kind = .reload → e.parts.length ≤ 1)

/-- 01 R4, R21: a CLOSED card holds nothing. -/
def ClosedEmpty (c : Card) : Prop := c.state = .closed → cardWorth c = 0 ∧ c.holds = []

/-- `valueSound`, as look-ups see it. -/
structure Sound (s : State) : Prop where
  tables : tablesFormed s
  ordered : ∀ {id c}, s.card? id = some c → bucketsOrdered c.buckets
  anchored : ∀ {n h}, (s.holdSlot n).hold = some h → ∃ c, s.card? h.card = some c ∧ Anchors c ⟨n, (s.holdSlot n).gen⟩ h
  total : ∀ {n h}, (s.holdSlot n).hold = some h → h.total = splitTotal h.parts
  parts : ∀ {n h}, (s.holdSlot n).hold = some h → ∀ p ∈ h.parts.promo, poolUsed s p.pool = true
  entries : ∀ {e}, e ∈ s.journal.entries → EntrySound s e
  buckets : ∀ {id c}, s.card? id = some c → OfPools (fun p => poolUsed s p = true) c.buckets
  empty : ∀ p, (s.pool p).state = .empty → (s.pool p).pending = 0
  closed : ∀ {id c}, s.card? id = some c → ClosedEmpty c

theorem card?_iff {s : State} (h : tablesFormed s) (id : Nat) (c : Card) : s.card? id = some c ↔ (id, c) ∈ s.cards :=
  ⟨HoldSlots.mem_of_tableGet, HoldSlots.tableGet_of_mem h.1⟩

theorem pool_of_mem {s : State} (h : tablesFormed s) {e : Nat × Pool} (he : e ∈ s.pools) : s.pool e.1 = e.2 := by
  have hg : tableGet e.1 s.pools = some e.2 := HoldSlots.tableGet_of_mem ((tableCanonical_iff _ _).1 h.2.2.1).1 he
  simp [State.pool, tableRead, hg]

theorem cardWorth_zero_iff (c : Card) : cardWorth c = 0 ↔ c.base = 0 ∧ bucketSum c.buckets = 0 := by
  unfold cardWorth
  omega

theorem sound_iff (s : State) : valueSound s ↔ Sound s := by
  constructor
  · rintro ⟨ht, ho, hh, ⟨he, hb, hp⟩, hc⟩
    refine { tables := ht, ordered := fun h => bucketsOrdered_of_card? h ho, anchored := fun h => ?_, total := fun h => (hh _ _ h).2.1,
             parts := fun h => ?_, entries := fun h => ?_, buckets := fun h => ?_, empty := fun p hs => ?_, closed := fun h hs => ?_ }
    · obtain ⟨⟨c, hc, hr, hp⟩, -, -⟩ := hh _ _ h
      exact ⟨c, hc, hr, List.all_eq_true.1 hp⟩
    · exact List.all_eq_true.1 (hh _ _ h).2.2
    · exact ⟨List.all_eq_true.1 (he _ h).1, (he _ h).2⟩
    · exact List.all_eq_true.1 (hb _ ((card?_iff ht _ _).1 h))
    · cases hg : tableGet p s.pools with
      | none => simp [State.pool, tableRead, hg, emptyPool]
      | some x =>
        have hx : s.pool p = x := by simp [State.pool, tableRead, hg]
        rw [hx] at hs ⊢
        exact hp _ (HoldSlots.mem_of_tableGet hg) hs
    · obtain ⟨h1, h2, h3⟩ := hc _ ((card?_iff ht _ _).1 h) hs
      exact ⟨(cardWorth_zero_iff _).2 ⟨h1, h2⟩, h3⟩
  · intro h
    have hcard : ∀ e ∈ s.cards, s.card? e.1 = some e.2 := fun e he => (card?_iff h.tables _ _).2 he
    refine ⟨h.tables, fun e he => h.ordered (hcard e he), fun n x hx => ?_, ⟨fun e he => ?_, fun e he => ?_, fun e he hs => ?_⟩,
      fun e he hs => ?_⟩
    · obtain ⟨c, hc, hr, hp⟩ := h.anchored hx
      exact ⟨⟨c, hc, hr, List.all_eq_true.2 hp⟩, h.total hx, List.all_eq_true.2 (h.parts hx)⟩
    · exact ⟨List.all_eq_true.2 (h.entries he).1, (h.entries he).2⟩
    · exact List.all_eq_true.2 (h.buckets (hcard e he))
    · have := h.empty e.1
      rw [pool_of_mem h.tables he] at this
      exact this hs
    · obtain ⟨hw, hh⟩ := h.closed (hcard e he) hs
      exact ⟨((cardWorth_zero_iff _).1 hw).1, ((cardWorth_zero_iff _).1 hw).2, hh⟩

theorem Sound.rising {s : State} (h : Sound s) : tableRising s.cards = true := h.tables.1

theorem Sound.slotsRising {s : State} (h : Sound s) : tableRising s.holds = true := ((tableCanonical_iff _ _).1 h.tables.2.1).1

/-! ## Which pools are used -/

/-- 04 R67: no pool that is used falls out of use. -/
def StaysUsed (s t : State) : Prop := ∀ p, poolUsed s p = true → poolUsed t p = true

theorem poolUsed_iff (s : State) (p : Nat) : poolUsed s p = true ↔ poolOk p = true ∧ (s.pool p).state ≠ .empty := by simp [poolUsed]

theorem poolUsed_congr {s t : State} (h : t.pools = s.pools) : poolUsed t = poolUsed s := by
  have hp : t.pool = s.pool := funext fun p => by simp only [State.pool, h]
  funext p
  unfold poolUsed
  rw [hp]

theorem EntrySound.mono {s t : State} {e : Entry} (hu : StaysUsed s t) (h : EntrySound s e) : EntrySound t e :=
  ⟨fun p hp => hu _ (h.1 p hp), h.2⟩

/-! ## What each write must bring -/

/-- A state with the same cards, holds and pools, whose new entries are sound. -/
theorem Sound.of_same {s t : State} (h : Sound s) (ht : tablesFormed t) (hc : t.cards = s.cards) (hh : t.holds = s.holds)
    (hp : t.pools = s.pools) (he : ∀ e ∈ t.journal.entries, EntrySound s e) : Sound t := by
  have hcard : ∀ id, t.card? id = s.card? id := fun id => by simp only [State.card?, hc]
  have hslot : ∀ n, t.holdSlot n = s.holdSlot n := fun n => by simp only [State.holdSlot, hh]
  have hpool : ∀ p, t.pool p = s.pool p := fun p => by simp only [State.pool, hp]
  have hused := poolUsed_congr hp
  refine { tables := ht, ordered := fun hx => h.ordered (hcard _ ▸ hx), anchored := fun {n x} hx => ?_, total := fun {n x} hx => ?_,
           parts := fun {n x} hx => ?_, entries := fun hx => ?_, buckets := fun hx => ?_, empty := fun p => ?_,
           closed := fun hx => h.closed (hcard _ ▸ hx) }
  · rw [hslot] at hx ⊢
    rw [hcard]
    exact h.anchored hx
  · exact h.total (hslot n ▸ hx)
  · rw [hused]
    exact h.parts (hslot n ▸ hx)
  · unfold EntrySound
    rw [hused]
    exact he _ hx
  · rw [hused]
    exact h.buckets (hcard _ ▸ hx)
  · rw [hpool]
    exact h.empty p

theorem Sound.setCard {s : State} (h : Sound s) {id : Nat} {c : Card} (ho : bucketsOrdered c.buckets)
    (hb : OfPools (fun p => poolUsed s p = true) c.buckets) (hc : ClosedEmpty c)
    (ha : ∀ {n x}, (s.holdSlot n).hold = some x → x.card = id → Anchors c ⟨n, (s.holdSlot n).gen⟩ x) : Sound (s.setCard id c) := by
  have hcase : ∀ {j d}, (s.setCard id c).card? j = some d → d = c ∨ s.card? j = some d := fun {j d} hd => by
    rw [card?_setCard] at hd
    split at hd
    · exact Or.inl (Option.some.inj hd).symm
    · exact Or.inr hd
  refine { tables := (safe_setCard (W := True) (c := c) fun _ => ho).tables h.tables, ordered := fun hd => ?_, anchored := fun {n x} hx => ?_,
           total := h.total, parts := h.parts, entries := h.entries, buckets := fun hd => ?_, empty := h.empty, closed := fun hd => ?_ }
  · rcases hcase hd with rfl | hd
    · exact ho
    · exact h.ordered hd
  · rw [card?_setCard]
    split
    · rename_i he
      exact ⟨c, rfl, ha hx he⟩
    · exact h.anchored hx
  · rcases hcase hd with rfl | hd
    · exact hb
    · exact h.buckets hd
  · rcases hcase hd with rfl | hd
    · exact hc
    · exact h.closed hd

/-- A card has the references and buckets of every hold that an earlier form of it has. -/
theorem Anchors.mono {c d : Card} {r : HoldRef} {x : Hold} (h : Anchors c r x) (hr : ∀ r ∈ c.holds, r ∈ d.holds)
    (hb : Covers d.buckets c.buckets) : Anchors d r x := ⟨hr r h.1, fun p hp => hb _ _ (h.2 p hp)⟩

/-- The removal of empty buckets leaves those of the card's holds. -/
theorem Anchors.tidy {s : State} {c : Card} {n g : Nat} {x : Hold} (h : Anchors c ⟨n, g⟩ x) (hx : (s.holdSlot n).hold = some x) :
    Anchors (tidyCard s c) ⟨n, g⟩ x :=
  ⟨h.1, fun p hp => hasBucket_tidy (List.mem_flatMap.2 ⟨_, h.1, by simpa [hx] using hp⟩) (h.2 p hp)⟩

theorem Sound.anchors_of {s : State} (h : Sound s) {id n : Nat} {c : Card} {x : Hold} (hc : s.card? id = some c)
    (hx : (s.holdSlot n).hold = some x) (he : x.card = id) : Anchors c ⟨n, (s.holdSlot n).gen⟩ x := by
  obtain ⟨d, hd, ha⟩ := h.anchored hx
  rw [he, hc] at hd
  exact Option.some.inj hd ▸ ha

/-- No hold is of an absent card. -/
theorem Sound.no_hold_of_absent {s : State} (h : Sound s) {id n : Nat} {x : Hold} (hc : s.card? id = none)
    (hx : (s.holdSlot n).hold = some x) (he : x.card = id) : False := by
  obtain ⟨d, hd, -⟩ := h.anchored hx
  rw [he, hc] at hd
  exact absurd hd (by simp)

/-- No hold is of a card without references. -/
theorem Sound.no_hold_of_unheld {s : State} (h : Sound s) {id n : Nat} {c : Card} {x : Hold} (hc : s.card? id = some c) (hr : c.holds = [])
    (hx : (s.holdSlot n).hold = some x) (he : x.card = id) : False := by
  have := (h.anchors_of hc hx he).1
  rw [hr] at this
  exact absurd this List.not_mem_nil

/-- A card rewritten with all its references and buckets. -/
theorem Sound.recard {s : State} (h : Sound s) {id : Nat} {c d : Card} (hc : s.card? id = some c) (ho : bucketsOrdered d.buckets)
    (hb : OfPools (fun p => poolUsed s p = true) d.buckets) (hd : ClosedEmpty d) (hr : ∀ r ∈ c.holds, r ∈ d.holds)
    (hcov : Covers d.buckets c.buckets) : Sound (s.setCard id d) :=
  h.setCard ho hb hd fun hx he => (h.anchors_of hc hx he).mono hr hcov

theorem cardWorth_tidy (s : State) (c : Card) : cardWorth (tidyCard s c) = cardWorth c := by
  unfold cardWorth tidyCard
  rw [bucketSum_tidy]

theorem closedEmpty_tidy (s : State) {c : Card} (h : ClosedEmpty c) : ClosedEmpty (tidyCard s c) := fun hs =>
  ⟨(cardWorth_tidy s c).trans (h hs).1, (h hs).2⟩

/-- The same, with its empty buckets removed. -/
theorem Sound.recard_tidy {s : State} (h : Sound s) {id : Nat} {c d : Card} (hc : s.card? id = some c) (ho : bucketsOrdered d.buckets)
    (hb : OfPools (fun p => poolUsed s p = true) d.buckets) (hd : ClosedEmpty d) (hr : ∀ r ∈ c.holds, r ∈ d.holds)
    (hcov : Covers d.buckets c.buckets) : Sound (s.setCard id (tidyCard s d)) :=
  h.setCard (bucketsOrdered_tidy _ ho) (ofPools_tidy _ hb) (closedEmpty_tidy s hd)
    fun hx he => ((h.anchors_of hc hx he).mono hr hcov).tidy hx

theorem Sound.freeSlot {s : State} (h : Sound s) {n : Nat} {x : HoldSlot} (hx : x.hold = none) : Sound (s.setHoldSlot n x) := by
  have hcase : ∀ {m y}, ((s.setHoldSlot n x).holdSlot m).hold = some y → (s.setHoldSlot n x).holdSlot m = s.holdSlot m := fun {m y} hy => by
    rw [holdSlot_setHoldSlot] at hy ⊢
    split at hy
    · rw [hx] at hy
      exact absurd hy (by simp)
    · rename_i hm
      rw [if_neg hm]
  refine { tables := (safe_setHoldSlot (W := True) s n x).tables h.tables, ordered := h.ordered, anchored := fun {m y} hy => ?_,
           total := fun {m y} hy => ?_, parts := fun {m y} hy => ?_, entries := h.entries, buckets := h.buckets, empty := h.empty,
           closed := h.closed }
  · have hs := hcase hy
    rw [hs] at hy ⊢
    exact h.anchored hy
  · exact h.total (hcase hy ▸ hy)
  · exact h.parts (hcase hy ▸ hy)

theorem Sound.fillSlot {s : State} (h : Sound s) {n : Nat} {x : HoldSlot} {y : Hold} {c : Card} (hx : x.hold = some y)
    (hc : s.card? y.card = some c) (ha : Anchors c ⟨n, x.gen⟩ y) (ht : y.total = splitTotal y.parts)
    (hp : ∀ p ∈ y.parts.promo, poolUsed s p.pool = true) : Sound (s.setHoldSlot n x) := by
  have hcase : ∀ {m z}, ((s.setHoldSlot n x).holdSlot m).hold = some z →
      (m = n ∧ z = y) ∨ (m ≠ n ∧ (s.holdSlot m).hold = some z) := fun {m z} hz => by
    rw [holdSlot_setHoldSlot] at hz
    split at hz
    · rename_i hm
      rw [hx] at hz
      exact Or.inl ⟨hm, (Option.some.inj hz).symm⟩
    · rename_i hm
      exact Or.inr ⟨hm, hz⟩
  refine { tables := (safe_setHoldSlot (W := True) s n x).tables h.tables, ordered := h.ordered, anchored := fun {m z} hz => ?_,
           total := fun {m z} hz => ?_, parts := fun {m z} hz => ?_, entries := h.entries, buckets := h.buckets, empty := h.empty,
           closed := h.closed }
  · rw [holdSlot_setHoldSlot]
    rcases hcase hz with ⟨rfl, rfl⟩ | ⟨hm, hz⟩
    · rw [if_pos rfl]
      exact ⟨c, hc, ha⟩
    · rw [if_neg hm]
      exact h.anchored hz
  · rcases hcase hz with ⟨-, rfl⟩ | ⟨-, hz⟩
    · exact ht
    · exact h.total hz
  · rcases hcase hz with ⟨-, rfl⟩ | ⟨-, hz⟩
    · exact hp
    · exact h.parts hz

theorem staysUsed_setPool {s : State} {p : Nat} {x : Pool} (hx : x.state = .empty → (s.pool p).state = .empty) : StaysUsed s (s.setPool p x) := by
  intro q hq
  obtain ⟨hok, hne⟩ := (poolUsed_iff s q).1 hq
  refine (poolUsed_iff _ q).2 ⟨hok, ?_⟩
  rw [pool_setPool]
  split
  · rename_i he
    exact fun hs => hne (he ▸ hx hs)
  · exact hne

theorem Sound.setPool {s : State} (h : Sound s) {p : Nat} {x : Pool} (hx : x.state = .empty → (s.pool p).state = .empty ∧ x.pending = 0) :
    Sound (s.setPool p x) := by
  have hu : StaysUsed s (s.setPool p x) := staysUsed_setPool fun hs => (hx hs).1
  refine { tables := (safe_setPool (W := True) s p x).tables h.tables, ordered := h.ordered, anchored := h.anchored, total := h.total,
           parts := fun hy q hq => hu _ (h.parts hy q hq), entries := fun he => (h.entries he).mono hu,
           buckets := fun hc b hb => hu _ (h.buckets hc b hb), empty := fun q hq => ?_, closed := h.closed }
  rw [pool_setPool] at hq ⊢
  split at hq
  · rename_i he
    rw [if_pos he]
    exact (hx hq).2
  · rename_i he
    rw [if_neg he]
    exact h.empty q hq

/-! ## Entries and pools together -/

theorem Sound.pushEntry {s : State} (h : Sound s) {e : Entry} (he : EntrySound s e) : Sound { s with journal := pushEntry e s.journal } := by
  refine h.of_same h.tables rfl rfl rfl fun x hx => ?_
  rcases List.mem_append.1 (show x ∈ (if Config.journalSlots ≤ s.journal.entries.length then s.journal.entries.tail
    else s.journal.entries) ++ [e] from hx) with hx | hx
  · refine h.entries ?_
    split at hx
    · exact List.mem_of_mem_tail hx
    · exact hx
  · exact List.mem_singleton.1 hx ▸ he

theorem Sound.amendEntry {s : State} (h : Sound s) {q : Nat} {f : Entry → Entry} (hp : ∀ e, (f e).parts = e.parts)
    (hk : ∀ e, (f e).kind = e.kind) : Sound (amendEntry q f s) := by
  refine h.of_same h.tables rfl rfl rfl fun x hx => ?_
  obtain ⟨e, he, rfl⟩ := List.mem_map.1 hx
  split
  · unfold EntrySound
    rw [hp, hk]
    exact h.entries he
  · exact h.entries he

/-- Soundness lasts, and no used pool falls out of use. -/
def SoundStep (s t : State) : Prop := Sound s → Sound t ∧ StaysUsed s t

theorem SoundStep.refl (s : State) : SoundStep s s := fun h => ⟨h, fun _ hp => hp⟩

theorem SoundStep.trans {s t u : State} (h : SoundStep s t) (h' : SoundStep t u) : SoundStep s u := fun hs =>
  ⟨(h' (h hs).1).1, fun p hp => (h' (h hs).1).2 p ((h hs).2 p hp)⟩

theorem soundStep_setPool {s : State} {p : Nat} {x : Pool} (hx : Sound s → x.state = .empty → (s.pool p).state = .empty ∧ x.pending = 0) :
    SoundStep s (s.setPool p x) := fun h => ⟨h.setPool (hx h), staysUsed_setPool fun hs => (hx h hs).1⟩

/-- 04 R70: a posting to a pool's totals leaves its state, and no pool without records gets pending expiry. -/
theorem soundStep_movePool (k : EntryKind) (a p : Nat) (s : State) : SoundStep s (s.setPool p (movePool k a (s.pool p))) := by
  refine soundStep_setPool fun h hs => ?_
  rw [movePool_state] at hs
  refine ⟨hs, ?_⟩
  have := h.empty p hs
  cases k <;> simp [movePool, this]

theorem soundStep_movePools (k : EntryKind) (ps : List EntryPart) (s : State) :
    SoundStep s (ps.foldl (fun s p => s.setPool p.pool (movePool k p.amount (s.pool p.pool))) s) :=
  foldl_rel SoundStep.refl SoundStep.trans (fun s (p : EntryPart) => soundStep_movePool k p.amount p.pool s) ps s

theorem soundStep_addPending {p : Nat} (a : Nat) {s : State} (hp : poolUsed s p = true) : SoundStep s (addPending p a s) :=
  soundStep_setPool fun _ hs => absurd hs ((poolUsed_iff s p).1 hp).2

theorem soundStep_addPendings (ps : List (Nat × Nat)) {s : State} (hp : ∀ x ∈ ps, poolUsed s x.1 = true) : SoundStep s (addPendings ps s) := by
  induction ps generalizing s with
  | nil => exact SoundStep.refl s
  | cons x ps ih =>
    obtain ⟨hx, hps⟩ := List.forall_mem_cons.1 hp
    intro h
    have hone := soundStep_addPending x.2 hx h
    exact SoundStep.trans (fun _ => hone) (ih fun y hy => hone.2 _ (hps y hy)) h

theorem Sound.calm {s t : State} (h : Sound s) (ht : tablesFormed t) (hc : Calm s t) : Sound t :=
  h.of_same ht hc.cards hc.holds hc.pools fun _ he => h.entries (hc.journal ▸ he)

/-- 05 R87: the writing of a sound entry whose forfeited parts are of used pools. -/
theorem Sound.writeEntry {s : State} (h : Sound s) {e : Entry} (he : EntrySound s e) (hf : ∀ p ∈ e.forfeited, poolUsed s p.pool = true) :
    Sound (writeEntry e s) := by
  have h1 := h.pushEntry he
  have h2 := h1.calm ((safe_postPositions (W := True) e _).tables h1.tables) (calm_postPositions e _)
  obtain ⟨h3, hu⟩ := soundStep_movePools e.kind e.parts _ h2
  have hpools : (postPositions e { s with journal := Machine.pushEntry e s.journal }).pools = s.pools := (calm_postPositions e _).pools
  have h4 := (soundStep_addPendings (e.forfeited.map (fun p => (p.pool, p.amount))) (fun x hx => by
    obtain ⟨p, hp, rfl⟩ := List.mem_map.1 hx
    refine hu _ ?_
    rw [poolUsed_congr hpools]
    exact hf p hp) h3).1
  exact h4.calm ((safe_giveNotices (W := True) _ _).tables h4.tables) (calm_giveNotices _ _)

end Sys2Proof.Proofs.Records
end

section
/-! Every rule that moves value keeps the records sound and the outstanding value equal to the value in hands (05 R95). -/

namespace Sys2Proof.Proofs.Moves

open Sys2Proof Sys2Proof.Machine Sys2Proof.Laws Sys2Proof.Proofs.Buckets Sys2Proof.Proofs.Bounds Sys2Proof.Proofs.Steps
  Sys2Proof.Proofs.Periods Sys2Proof.Proofs.Value Sys2Proof.Proofs.Splits Sys2Proof.Proofs.Amounts Sys2Proof.Proofs.Records

/-! ## Checks that have passed -/

theorem mustBeActive_none (c : Card) : mustBeActive c = none ↔ c.state = .active := by
  unfold mustBeActive
  cases c.state <;> simp

theorem resolveHold_none (s : State) (n gen : Nat) :
    resolveHold s n gen = none ↔ n < Config.holdSlots ∧ gen = (s.holdSlot n).gen ∧ (s.holdSlot n).hold.isSome = true := by
  unfold resolveHold
  split
  · rename_i hn
    split
    · rename_i hg
      simp [hn, hg]
    · rename_i hg
      rw [← apply_ite some]
      simp [hg]
  · rename_i hn
    simp [hn]

/-- A list of checks all of which pass. -/
theorem firstFailing_cons_none (c : Check) (cs : List Check) : firstFailing (c :: cs) = none ↔ c = none ∧ firstFailing cs = none := by
  simp [firstFailing_none]

@[simp] theorem firstFailing_nil_none : firstFailing [] = none := rfl

/-- A card that is present is the card that is read. -/
theorem exists_card {s : State} {id : Nat} (h : (s.card? id).isSome = true) : s.card? id = some (s.card id) := by
  obtain ⟨c, hc⟩ := Option.isSome_iff_exists.1 h
  rw [hc, card_of_card? hc]

/-! ## What keeps the balance -/

/-- The records stay sound, and the surplus stays. -/
def Fair (s t : State) : Prop := Sound s → Sound t ∧ surplus t = surplus s

theorem Fair.refl (s : State) : Fair s s := fun h => ⟨h, rfl⟩

theorem Fair.trans {s t u : State} (h : Fair s t) (h' : Fair t u) : Fair s u := fun hs =>
  ⟨(h' (h hs).1).1, ((h' (h hs).1).2).trans (h hs).2⟩

theorem Fair.after {s t u : State} (h' : Fair t u) (h : Fair s t) : Fair s u := h.trans h'

theorem fair_foldl {α : Type} {f : State → α → State} (h : ∀ s a, Fair s (f s a)) (l : List α) (s : State) : Fair s (l.foldl f s) :=
  foldl_rel Fair.refl Fair.trans h l s

/-- Where the cards, the holds, the pools, the entries and the counters stay. -/
theorem fair_of_same {W : Prop} {s t : State} (h : Safe W s t) (hc : t.cards = s.cards) (hh : t.holds = s.holds) (hp : t.pools = s.pools)
    (he : t.journal.entries = s.journal.entries) (hn : t.journal.counters = s.journal.counters) : Fair s t := fun hs =>
  ⟨hs.of_same (h.tables hs.tables) hc hh hp fun _ hx => hs.entries (he ▸ hx), surplus_same hn hc hh hp⟩

theorem fair_of_calm {W : Prop} {s t : State} (h : Safe W s t) (hc : Calm s t) : Fair s t :=
  fair_of_same h hc.cards hc.holds hc.pools (by rw [hc.journal]) (by rw [hc.journal])

/-- The value on the card of an id, 0 where there is none. -/
def worthAt (s : State) (id : Nat) : Nat := ((s.card? id).map cardWorth).getD 0

theorem worthAt_some {s : State} {id : Nat} {c : Card} (h : s.card? id = some c) : worthAt s id = cardWorth c := by simp [worthAt, h]

theorem worthAt_none {s : State} {id : Nat} (h : s.card? id = none) : worthAt s id = 0 := by simp [worthAt, h]

theorem surplus_setCard {s : State} (h : Sound s) (id : Nat) (c : Card) :
    surplus (s.setCard id c) = surplus s + units (worthAt s id) - units (cardWorth c) := by
  cases hc : s.card? id with
  | none =>
    rw [surplus_setCard_none c h.rising hc, worthAt_none hc, units_zero]
    ring
  | some d => rw [surplus_setCard_some c h.rising hc, worthAt_some hc]

/-- A card written with the value that it had. -/
theorem surplus_setCard_even {s : State} (h : Sound s) {id : Nat} {c : Card} (hw : cardWorth c = worthAt s id) :
    surplus (s.setCard id c) = surplus s := by
  rw [surplus_setCard h, hw]
  ring

/-- A card written, and an entry that says by how much its value has changed. -/
theorem fair_card_entry {s : State} {id : Nat} {c : Card} {e : Entry} (hs : Sound s) (hc : Sound (s.setCard id c)) (he : EntrySound s e)
    (hk : e.kind ≠ .expire) (hf : e.forfeited = [])
    (hv : counted e = units (cardWorth c) - units (worthAt s id)) :
    Sound (writeEntry e (s.setCard id c)) ∧ surplus (writeEntry e (s.setCard id c)) = surplus s := by
  refine ⟨hc.writeEntry he (by simp [hf]), ?_⟩
  rw [surplus_writeEntry hk (by simp [hf]), surplus_setCard hs, hv, hf]
  simp only [partTotal, List.map_nil, List.sum_nil, units_zero]
  ring

theorem partsSum_eq (e : Entry) : partsSum e = partTotal e.parts := rfl

@[simp] theorem partTotal_nil : partTotal [] = 0 := rfl

@[simp] theorem partTotal_cons (p : EntryPart) (ps : List EntryPart) : partTotal (p :: ps) = p.amount + partTotal ps := by simp [partTotal]

theorem partTotal_entryParts (ps : List PromoPart) : partTotal (entryParts ps) = promoSum ps := by
  simp [partTotal, entryParts, promoSum, Function.comp_def]

/-! ## Sales and reloads (01 R12 to R17) -/

/-- 01 R16: a bonus is no larger than any limit that applies. -/
theorem foldl_min_le (ls : List (Nat × Nat)) (g : Nat) :
    ls.foldl (fun m x => min m x.1) g ≤ g ∧ ∀ x ∈ ls, ls.foldl (fun m x => min m x.1) g ≤ x.1 := by
  induction ls generalizing g with
  | nil => exact ⟨Nat.le_refl g, List.forall_mem_nil _⟩
  | cons x ls ih =>
    obtain ⟨h1, h2⟩ := ih (min g x.1)
    rw [List.foldl_cons]
    exact ⟨h1.trans (Nat.min_le_left _ _), List.forall_mem_cons.2 ⟨h1.trans (Nat.min_le_right _ _), h2⟩⟩

/-- 01 R16: a bonus is granted from an OPEN pool alone, and where its bucket can take it. -/
theorem bonus_granted {s : State} {p shop b : Nat} {c : Card} (h : (bonusOf s p shop b c).amount ≠ 0) :
    (s.pool p).state = .opened ∧ (hasBucket p (grantExpiry s p) c.buckets = true ∨ c.buckets.length < Config.bucketLimit) := by
  unfold bonusOf at h
  split at h
  · rename_i ho
    refine ⟨ho, ?_⟩
    by_contra! hn
    obtain ⟨hb, hl⟩ := hn
    have hmem : (0, 4) ∈ bonusLimits s p shop c := by
      unfold bonusLimits
      refine List.mem_append_left _ (List.mem_append_right _ ?_)
      simp [hb, Nat.not_lt.1 (Nat.not_lt.2 hl)]
    have := (foldl_min_le (bonusLimits s p shop c) (computedBonus b (s.pool p))).2 _ hmem
    exact h (Nat.le_zero.1 this)
  · exact absurd rfl h

/-- 01 R16: the card takes the bonus, into a bucket of a used pool. -/
theorem creditBonus_keeps {s : State} {p shop b : Nat} {c : Card} (hp : poolOk p = true) (ho : bucketsOrdered c.buckets)
    (hb : OfPools (fun p => poolUsed s p = true) c.buckets) :
    cardWorth (creditBonus s p (bonusOf s p shop b c) c) = cardWorth c + (bonusOf s p shop b c).amount ∧
      Covers (creditBonus s p (bonusOf s p shop b c) c).buckets c.buckets ∧
      OfPools (fun p => poolUsed s p = true) (creditBonus s p (bonusOf s p shop b c) c).buckets := by
  unfold creditBonus
  split
  · rename_i hz
    exact ⟨by rw [hz, Nat.add_zero], Covers.refl _, hb⟩
  · rename_i hne
    obtain ⟨hopen, hplace⟩ := bonus_granted hne
    obtain ⟨cs, hcs⟩ := Option.isSome_iff_exists.1 ((credit_isSome_iff p (grantExpiry s p) (bonusOf s p shop b c).amount c.buckets).2 hplace)
    obtain ⟨hsum, hcov⟩ := credit_some hcs ho
    have hused : poolUsed s p = true := (poolUsed_iff s p).2 ⟨hp, by rw [hopen]; decide⟩
    simp only [hcs, Option.getD_some]
    refine ⟨?_, hcov, ofPools_credit (P := fun p => poolUsed s p = true) hcs hused hb⟩
    simp only [cardWorth, hsum]
    omega

theorem bonusParts_used {s : State} {p shop b : Nat} {c : Card} (hp : poolOk p = true) :
    ∀ x ∈ bonusParts s p (bonusOf s p shop b c), poolUsed s x.pool = true := by
  unfold bonusParts
  split
  · exact List.forall_mem_nil _
  · rename_i hne
    rw [List.forall_mem_singleton]
    exact (poolUsed_iff s p).2 ⟨hp, by rw [(bonus_granted hne).1]; decide⟩

theorem partTotal_bonusParts (s : State) (p : Nat) (g : Bonus) : partTotal (bonusParts s p g) = g.amount := by
  unfold bonusParts
  split
  · rename_i h
    rw [h]
    rfl
  · simp

theorem length_bonusParts (s : State) (p : Nat) (g : Bonus) : (bonusParts s p g).length ≤ 1 := by
  unfold bonusParts
  split <;> simp

/-- 05 R94: a SALE or RELOAD entry counts its base and its parts. -/
theorem counted_purchase {s : State} {k : EntryKind} (hk : k = .sale ∨ k = .reload) (id shop amount ref : Nat) (ps : List EntryPart) :
    counted (purchaseEntry s k id shop amount ref ps) = units amount + units (partTotal ps) := by
  rcases hk with rfl | rfl <;> simp [counted, purchaseEntry, newEntry, basePart, partsSum_eq]

/-- What a sale or a reload brings to its card before the bonus. -/
structure Bought (s : State) (id amount : Nat) (c : Card) : Prop where
  worth : cardWorth c = worthAt s id + amount
  ordered : bucketsOrdered c.buckets
  pools : OfPools (fun p => poolUsed s p = true) c.buckets
  active : c.state = .active
  anchors : ∀ {n x}, (s.holdSlot n).hold = some x → x.card = id → Anchors c ⟨n, (s.holdSlot n).gen⟩ x

theorem creditBonus_state (s : State) (p : Nat) (g : Bonus) (c : Card) : (creditBonus s p g c).state = c.state := by
  unfold creditBonus
  split <;> rfl

theorem creditBonus_holds (s : State) (p : Nat) (g : Bonus) (c : Card) : (creditBonus s p g c).holds = c.holds := by
  unfold creditBonus
  split <;> rfl

/-- A card that is written ACTIVE needs no emptiness. -/
theorem closedEmpty_of_active {c : Card} (h : c.state = .active) : ClosedEmpty c := fun hs => by
  rw [h] at hs
  exact absurd hs (by decide)

theorem purchase_fair {k : EntryKind} (hk : k = .sale ∨ k = .reload) {id shop amount : Nat} {pool : Option Nat} {ref : Nat} {c : Card}
    {s : State} (hp : pool.all poolOk = true) (hs : Sound s) (hb : Bought s id amount c) :
    Sound (purchase k id shop amount pool ref c s).state ∧ surplus (purchase k id shop amount pool ref c s).state = surplus s := by
  have hne : k ≠ .expire := by rcases hk with rfl | rfl <;> decide
  cases pool with
  | none =>
    have hcard := hs.setCard hb.ordered hb.pools (closedEmpty_of_active hb.active) hb.anchors
    refine fair_card_entry hs hcard ⟨List.forall_mem_nil _, fun _ => Nat.zero_le _⟩ hne rfl ?_
    rw [counted_purchase hk, hb.worth, units_add]
    simp only [partTotal_nil, units_zero]
    ring
  | some p =>
    obtain ⟨hworth, hcov, hpools⟩ := creditBonus_keeps (shop := shop) (b := amount) hp hb.ordered hb.pools
    have hcard := hs.setCard (bucketsOrdered_creditBonus p _ hb.ordered) hpools
      (closedEmpty_of_active (by rw [creditBonus_state, hb.active]))
      fun hx he => (hb.anchors hx he).mono (fun r hr => by rw [creditBonus_holds]; exact hr) hcov
    refine fair_card_entry hs hcard ⟨bonusParts_used hp, fun _ => length_bonusParts _ _ _⟩ hne rfl ?_
    rw [counted_purchase hk, hworth, hb.worth, partTotal_bonusParts, units_add, units_add]
    ring

theorem sell_fair (id shop amount : Nat) (reloadable : Bool) (pool : Option Nat) (ref : Nat) (s : State) :
    Fair s (sellRule id shop amount reloadable pool ref s).state := by
  intro hs
  unfold sellRule
  rcases HoldSlots.ruled_cases (sellChecks id shop amount pool s) _ s with h | ⟨hp, h⟩
  · rw [h]
    exact Fair.refl s hs
  · rw [h]
    simp only [sellChecks, purchaseFields, firstFailing_cons_none, require_none, Bool.and_eq_true] at hp
    obtain ⟨⟨-, hpool⟩, -, habs, -⟩ := hp
    have hnone : s.card? id = none := Option.isNone_iff_eq_none.1 habs
    refine purchase_fair (Or.inl rfl) hpool hs
      { worth := ?_, ordered := bucketsOrdered_nil, pools := List.forall_mem_nil _, active := rfl,
        anchors := fun hx he => (hs.no_hold_of_absent hnone hx he).elim }
    rw [worthAt_none hnone]
    simp [cardWorth, soldCard]

theorem reload_fair (id shop amount : Nat) (pool : Option Nat) (ref : Nat) (s : State) :
    Fair s (reloadRule id shop amount pool ref s).state := by
  intro hs
  unfold reloadRule
  rcases HoldSlots.ruled_cases (reloadChecks id shop amount pool s) _ s with h | ⟨hp, h⟩
  · rw [h]
    exact Fair.refl s hs
  · rw [h]
    simp only [reloadChecks, purchaseFields, firstFailing_cons_none, require_none, Bool.and_eq_true, mustBeActive_none] at hp
    obtain ⟨⟨-, hpool⟩, -, hpres, hact, -⟩ := hp
    have hc := exists_card hpres
    refine purchase_fair (Or.inr rfl) hpool hs
      { worth := ?_, ordered := hs.ordered (c := s.card id) hc, pools := hs.buckets (c := s.card id) hc, active := hact,
        anchors := fun hx he => (hs.anchors_of hc hx he).mono (fun _ hr => hr) (Covers.refl _) }
    rw [worthAt_some hc]
    simp only [cardWorth]
    omega

/-! ## Redemptions and holds (02) -/

theorem takenAmount_le (s : State) (shop amount : Nat) (c : Card) : takenAmount s shop amount c ≤ spendable s shop c := Nat.min_le_right _ _

/-- 05 R94: a REDEEM or CAPTURE entry counts its split. -/
theorem counted_redemption {s : State} {k : EntryKind} (hk : k = .redeem ∨ k = .capture) (id shop ref : Nat) (x : Split) :
    counted (redemptionEntry s k id shop ref x) = -units (splitTotal x) := by
  rw [splitTotal_eq, units_add]
  rcases hk with rfl | rfl <;> simp [counted, redemptionEntry, newEntry, basePart, partsSum_eq, partTotal_entryParts] <;> ring

theorem split_parts_used {s : State} (hs : Sound s) {id shop a : Nat} {c : Card} (hc : s.card? id = some c) :
    ∀ p ∈ (splitOf s shop a c).promo, poolUsed s p.pool = true := fun p hp => by
  obtain ⟨b, hb, hbp, -⟩ := part_of_split hp
  exact hbp ▸ hs.buckets hc b hb

theorem entryParts_used {s : State} {ps : List PromoPart} (h : ∀ p ∈ ps, poolUsed s p.pool = true) :
    ∀ p ∈ entryParts ps, poolUsed s p.pool = true := fun p hp => by
  obtain ⟨q, hq, rfl⟩ := List.mem_map.1 hp
  exact h q hq

theorem redemptionEntry_sound {s t : State} {k : EntryKind} (hk : k = .redeem ∨ k = .capture) (id shop ref : Nat) {x : Split}
    (h : ∀ p ∈ x.promo, poolUsed s p.pool = true) : EntrySound s (redemptionEntry t k id shop ref x) :=
  ⟨entryParts_used h, fun hx => by rcases hk with rfl | rfl <;> rcases hx with hx | hx <;> exact absurd hx (by simp [redemptionEntry, newEntry])⟩

theorem cardWorth_afterSplit {s : State} {shop a : Nat} {c : Card} (h : a ≤ spendable s shop c) :
    cardWorth (afterSplit s shop a c) + a = cardWorth c := worth_afterSplit h

theorem redeem_fair (id shop amount : Nat) (part : Bool) (ref : Nat) (s : State) : Fair s (redeemRule id shop amount part ref s).state := by
  intro hs
  unfold redeemRule
  rcases HoldSlots.ruled_cases (redeemChecks id shop amount part s) _ s with h | ⟨hp, h⟩
  · rw [h]
    exact Fair.refl s hs
  · rw [h]
    simp only [redeemChecks, takingChecks, List.cons_append, List.nil_append, firstFailing_cons_none, require_none, mustBeActive_none] at hp
    obtain ⟨-, -, hpres, hact, -⟩ := hp
    have hc := exists_card hpres
    have hle := takenAmount_le s shop amount (s.card id)
    have hworth := cardWorth_afterSplit hle
    have hcard := hs.recard_tidy hc (bucketsOrdered_walkSplit s shop (takenAmount s shop amount (s.card id)) (hs.ordered hc))
      (ofPools_afterSplit s shop _ (hs.buckets hc)) (closedEmpty_of_active hact) (fun _ hr => hr) (covers_afterSplit _ _ _ _)
    refine fair_card_entry hs hcard (redemptionEntry_sound (Or.inl rfl) _ _ _ (split_parts_used hs hc))
      (show EntryKind.redeem ≠ .expire by decide) rfl ?_
    rw [counted_redemption (Or.inl rfl), splitTotal_splitOf, cardWorth_tidy, worthAt_some hc, ← hworth, units_add]
    ring

/-- 02 R30: the card with a split set aside in a slot. -/
def setAside (s : State) (shop a n : Nat) (c : Card) : Card :=
  { afterSplit s shop a c with holds := c.holds ++ [⟨n, (s.holdSlot n).gen⟩] }

theorem placeEffect_state (id shop amount ref : Nat) (s : State) :
    (placeEffect id shop amount ref s).state =
      (s.setCard id (setAside s shop (takenAmount s shop amount (s.card id)) s.lowestFreeHoldSlot (s.card id))).setHoldSlot
        s.lowestFreeHoldSlot
        { s.holdSlot s.lowestFreeHoldSlot with
          hold := some (placedHold s id shop ref (splitOf s shop (takenAmount s shop amount (s.card id)) (s.card id))) } := rfl

/-- 02 R30: the value set aside leaves the card for a FREE slot. -/
theorem setAside_fair {s : State} (hs : Sound s) {id shop a n ref : Nat} {c : Card} (hc : s.card? id = some c) (hact : c.state = .active)
    (ha : a ≤ spendable s shop c) (hfree : (s.holdSlot n).hold = none) :
    let t := (s.setCard id (setAside s shop a n c)).setHoldSlot n
      { s.holdSlot n with hold := some (placedHold s id shop ref (splitOf s shop a c)) }
    Sound t ∧ surplus t = surplus s := by
  have hcard : Sound (s.setCard id (setAside s shop a n c)) :=
    hs.recard hc (bucketsOrdered_walkSplit s shop a (hs.ordered hc)) (ofPools_afterSplit s shop a (hs.buckets hc))
      (closedEmpty_of_active hact) (fun r hr => List.mem_append_left _ hr) (covers_afterSplit s shop a c)
  have hanchor : Anchors (setAside s shop a n c) ⟨n, (s.holdSlot n).gen⟩ (placedHold s id shop ref (splitOf s shop a c)) :=
    ⟨List.mem_append_right _ (List.mem_singleton.2 rfl), fun p hp =>
      covers_afterSplit s shop a c _ _ ((hasBucket_true_iff _ _ _).2 (part_of_split hp))⟩
  refine ⟨hcard.fillSlot rfl (card?_setCard_same s id _) hanchor rfl (split_parts_used hs hc), ?_⟩
  have hworth : cardWorth (setAside s shop a n c) + a = cardWorth c := cardWorth_afterSplit ha
  rw [surplus_setHoldSlot _ _ hcard.slotsRising, surplus_setCard hs, worthAt_some hc, ← hworth, units_add]
  simp only [slotWorth, holdSlot_setCard_other, hfree, placedHold, splitTotal_splitOf, Option.map_some, Option.map_none, Option.getD_some,
    Option.getD_none, units_zero]
  ring

theorem place_fair (id shop amount : Nat) (part : Bool) (ref : Nat) (s : State) : Fair s (placeRule id shop amount part ref s).state := by
  intro hs
  unfold placeRule
  rcases HoldSlots.ruled_cases (placeChecks id shop amount part s) _ s with h | ⟨hp, h⟩
  · rw [h]
    exact Fair.refl s hs
  · rw [h, placeEffect_state]
    simp only [placeChecks, takingChecks, List.cons_append, List.nil_append, firstFailing_cons_none, require_none, mustBeActive_none] at hp
    obtain ⟨-, -, hpres, hact, -⟩ := hp
    exact setAside_fair hs (exists_card hpres) hact (takenAmount_le _ _ _ _) (HoldSlots.lowestFreeHoldSlot_free hs.tables)

end Sys2Proof.Proofs.Moves
end

section
/-! The ends of holds, refunds and voids, and the requests of cards and pools keep the balance (05 R95). -/

namespace Sys2Proof.Proofs.Ends

open Sys2Proof Sys2Proof.Machine Sys2Proof.Laws Sys2Proof.Proofs.Buckets Sys2Proof.Proofs.Bounds Sys2Proof.Proofs.Steps
  Sys2Proof.Proofs.Periods Sys2Proof.Proofs.Value Sys2Proof.Proofs.Splits Sys2Proof.Proofs.Amounts Sys2Proof.Proofs.Records
  Sys2Proof.Proofs.Moves

/-! ## The end of a hold (02 R34) -/

/-- 02 R26: the state with a slot's hold ended and nothing returned yet. -/
def freed (n : Nat) (e : LastEnd) (s : State) : State := s.setHoldSlot n (endedSlot (s.holdSlot n) e)

/-- 02 R34: the card of an ended hold. -/
def returnedCard (n : Nat) (back : Split) (e : LastEnd) (s : State) (c : Card) : Card :=
  tidyCard (freed n e s) (cardAfterReturn s ⟨n, (s.holdSlot n).gen⟩ back c)

/-- 02 R34: the end of a hold whose card is present. -/
theorem endHold_placed {n : Nat} {h : Hold} {c : Card} {s : State} (hh : (s.holdSlot n).hold = some h) (hc : s.card? h.card = some c)
    (back : Split) (e : LastEnd) :
    endHold n back e s =
      addPendings (pendingOfReturn s back c) ((freed n e s).setCard h.card (returnedCard n back e s c)) := by
  have hf : freed n e s = s.setHoldSlot n (endedSlot (s.holdSlot n) e) := rfl
  simp only [endHold, hh, hc, ← hf]
  rfl

theorem cardWorth_returned (n : Nat) (back : Split) (e : LastEnd) (s : State) {c : Card} (ho : bucketsOrdered c.buckets) :
    cardWorth (returnedCard n back e s c) + pendingSum (pendingOfReturn s back c) = cardWorth c + splitTotal back := by
  have hsum := (returnPromo_keeps s back.promo ho).1
  rw [returnedCard, cardWorth_tidy, splitTotal_eq]
  simp only [cardWorth, cardAfterReturn, pendingOfReturn]
  omega

/-- 02 R34: the end of a PLACED hold takes its total out of the slot and returns `back`. -/
theorem endHold_keeps {n : Nat} {h : Hold} {s : State} (hs : Sound s) (hh : (s.holdSlot n).hold = some h) {back : Split}
    (hback : ∀ p ∈ back.promo, poolUsed s p.pool = true) (e : LastEnd) :
    Sound (endHold n back e s) ∧ StaysUsed s (endHold n back e s) ∧
      surplus (endHold n back e s) = surplus s + units h.total - units (splitTotal back) := by
  obtain ⟨c, hc, href, -⟩ := hs.anchored hh
  have ho := hs.ordered hc
  obtain ⟨hpools, hpend⟩ := returnPromo_pools (P := fun p => poolUsed s p = true) s back.promo hback (hs.buckets hc)
  obtain ⟨-, hcov⟩ := returnPromo_keeps s back.promo ho
  have hfreed : Sound (freed n e s) := hs.freeSlot rfl
  have hopen : ClosedEmpty (cardAfterReturn s ⟨n, (s.holdSlot n).gen⟩ back c) := fun hcl => by
    have hnil := (hs.closed hc hcl).2
    rw [hnil] at href
    exact absurd href List.not_mem_nil
  have hcard : Sound ((freed n e s).setCard h.card (returnedCard n back e s c)) := by
    refine hfreed.setCard (bucketsOrdered_tidy _ (bucketsOrdered_returnPromo s _ ho)) (ofPools_tidy _ hpools) (closedEmpty_tidy _ hopen)
      fun {m x} hx he => ?_
    refine Anchors.tidy ?_ hx
    have hm : m ≠ n := fun hm => by
      rw [hm, freed, holdSlot_setHoldSlot_same] at hx
      exact absurd hx (by simp [endedSlot])
    have hslot : (freed n e s).holdSlot m = s.holdSlot m := by rw [freed, holdSlot_setHoldSlot, if_neg hm]
    rw [hslot] at hx ⊢
    obtain ⟨hr, hb⟩ := hs.anchors_of hc hx he
    exact ⟨List.mem_filter.2 ⟨hr, by simp [hm]⟩, fun p hp => hcov _ _ (hb p hp)⟩
  have hend := soundStep_addPendings (s := (freed n e s).setCard h.card (returnedCard n back e s c)) (pendingOfReturn s back c) hpend hcard
  rw [endHold_placed hh hc]
  refine ⟨hend.1, hend.2, ?_⟩
  have hslots : surplus (freed n e s) = surplus s + units h.total := by
    rw [freed, surplus_setHoldSlot _ _ hs.slotsRising]
    simp only [slotWorth, hh, endedSlot, Option.map_some, Option.map_none, Option.getD_some, Option.getD_none, units_zero]
    ring
  have hworth := congrArg units (cardWorth_returned n back e s ho)
  rw [units_add, units_add] at hworth
  have hok : ∀ x ∈ pendingOfReturn s back c, poolOk x.1 = true := fun x hx => ((poolUsed_iff _ _).1 (hpend x hx)).1
  rw [surplus_addPendings _ _ hok, surplus_setCard hfreed, hslots,
    worthAt_some (s := freed n e s) hc]
  have hsub : units (cardWorth c) = units (cardWorth (returnedCard n back e s c)) + units (pendingSum (pendingOfReturn s back c)) -
      units (splitTotal back) := by rw [hworth]; ring
  rw [hsub]
  ring

/-- 02 R33, R36, R46: a hold that returns all its parts moves nothing. -/
theorem endHold_fair (n : Nat) (e : LastEnd) {h : Hold} {s : State} (hh : (s.holdSlot n).hold = some h) : Fair s (endHold n h.parts e s) := by
  intro hs
  obtain ⟨hsound, -, hsur⟩ := endHold_keeps hs hh (hs.parts hh) e
  refine ⟨hsound, ?_⟩
  rw [hsur, hs.total hh]
  ring

theorem expireHold_fair (n : Nat) (s : State) : Fair s (expireHold n s) := by
  unfold expireHold
  split
  · rename_i h hh
    split
    · exact (endHold_fair n .expired hh).trans (fair_of_calm (W := True) (safe_giveNotice _ _) (calm_giveNotice _ _))
    · exact Fair.refl s
  · exact Fair.refl s

theorem release_fair (n gen shop : Nat) (s : State) : Fair s (releaseRule n gen shop s).state := by
  unfold releaseRule
  rcases HoldSlots.ruled_cases (releaseChecks n gen shop s) (releaseEffect n shop s) s with h | ⟨hp, h⟩
  · rw [h]
    exact Fair.refl s
  · rw [h]
    simp only [releaseChecks, firstFailing_cons_none, resolveHold_none] at hp
    obtain ⟨-, ⟨-, -, hsome⟩, -⟩ := hp
    obtain ⟨x, hx⟩ := Option.isSome_iff_exists.1 hsome
    have he : (releaseEffect n shop s).state = endHold n (s.hold n).parts .released s := rfl
    rw [he, HoldSlots.hold_of_placed hx]
    exact endHold_fair n .released hx

theorem consumed_part {a : Nat} {x : Split} {p : PromoPart} (h : p ∈ (consumed a x).promo) : ∃ q ∈ x.promo, q.pool = p.pool := by
  rw [consumed_eq] at h
  obtain ⟨e, he, rfl⟩ := List.mem_map.1 (List.mem_filter.1 h).1
  exact ⟨e.1, by rw [← consumeCuts_fst a x.promo]; exact List.mem_map_of_mem he, rfl⟩

theorem remainder_part {a : Nat} {x : Split} {p : PromoPart} (h : p ∈ (remainder a x).promo) : ∃ q ∈ x.promo, q.pool = p.pool := by
  rw [remainder_eq] at h
  obtain ⟨e, he, rfl⟩ := List.mem_map.1 (List.mem_filter.1 h).1
  exact ⟨e.1, by rw [← consumeCuts_fst a x.promo]; exact List.mem_map_of_mem he, rfl⟩

theorem capture_fair (n gen shop amount : Nat) (ref : Option Nat) (s : State) : Fair s (captureRule n gen shop amount ref s).state := by
  intro hs
  unfold captureRule
  rcases HoldSlots.ruled_cases (captureChecks n gen shop amount s) (captureEffect n shop amount ref s) s with h | ⟨hp, h⟩
  · rw [h]
    exact Fair.refl s hs
  · rw [h]
    simp only [captureChecks, firstFailing_cons_none, resolveHold_none] at hp
    obtain ⟨-, ⟨-, -, hsome⟩, -⟩ := hp
    obtain ⟨x, hx⟩ := Option.isSome_iff_exists.1 hsome
    have hused : ∀ q ∈ x.parts.promo, poolUsed s q.pool = true := hs.parts hx
    obtain ⟨hend, hstay, hsur⟩ := endHold_keeps hs hx (back := remainder amount x.parts)
      (fun p hp => by obtain ⟨q, hq, he⟩ := remainder_part hp; exact he ▸ hused q hq) .captured
    have hentry : EntrySound (endHold n (remainder amount x.parts) .captured s)
        (redemptionEntry s .capture x.card shop (ref.getD x.ref) (consumed amount x.parts)) :=
      redemptionEntry_sound (Or.inr rfl) _ _ _ fun p hp => hstay _ (by obtain ⟨q, hq, he⟩ := consumed_part hp; exact he ▸ hused q hq)
    have he : (captureEffect n shop amount ref s).state =
        writeEntry (redemptionEntry s .capture (s.hold n).card shop (ref.getD (s.hold n).ref) (consumed amount (s.hold n).parts))
          (endHold n (remainder amount (s.hold n).parts) .captured s) := rfl
    rw [he, HoldSlots.hold_of_placed hx]
    refine ⟨hend.writeEntry hentry (List.forall_mem_nil _), ?_⟩
    rw [surplus_writeEntry (show EntryKind.capture ≠ .expire by decide) (List.forall_mem_nil _), hsur, counted_redemption (Or.inr rfl),
      hs.total hx, ← splitTotal_consumed_remainder amount x.parts, units_add]
    change _ + _ - units 0 = _
    rw [units_zero]
    ring

/-- 02 R41: an extension moves nothing. -/
theorem extend_fair (n gen shop : Nat) (s : State) : Fair s (extendRule n gen shop s).state := by
  intro hs
  unfold extendRule
  rcases HoldSlots.ruled_cases (extendChecks n gen shop s) (extendEffect n shop s) s with h | ⟨hp, h⟩
  · rw [h]
    exact Fair.refl s hs
  · rw [h]
    simp only [extendChecks, firstFailing_cons_none, resolveHold_none] at hp
    obtain ⟨-, ⟨-, -, hsome⟩, -⟩ := hp
    obtain ⟨x, hx⟩ := Option.isSome_iff_exists.1 hsome
    obtain ⟨c, hc, ha⟩ := hs.anchored hx
    have he : (extendEffect n shop s).state = s.setHoldSlot n { s.holdSlot n with hold := some (extendedHold s shop (s.hold n)) } := rfl
    rw [he, HoldSlots.hold_of_placed hx]
    refine ⟨hs.fillSlot (y := extendedHold s shop x) rfl hc ha (hs.total (h := x) hx) (hs.parts (h := x) hx), ?_⟩
    rw [surplus_setHoldSlot _ _ hs.slotsRising]
    simp only [slotWorth, hx, extendedHold, Option.map_some, Option.getD_some]
    ring

/-! ## Refunds (03) -/

/-- A whole number of minor units that is not negative, as the counters count it. -/
theorem units_toNat {z : Int} (h : 0 ≤ z) : units z.toNat = BitVec.ofInt 64 z := by
  obtain ⟨n, rfl⟩ := Int.eq_ofNat_of_zero_le h
  rw [Int.toNat_natCast, BitVec.ofInt_natCast]
  rfl

theorem entry_mem {s : State} {q : Nat} (h : (s.entry? q).isSome = true) : s.entry q ∈ s.journal.entries := by
  obtain ⟨e, he⟩ := Option.isSome_iff_exists.1 h
  have hq : s.entry q = e := by simp [State.entry, he]
  rw [hq]
  exact List.mem_of_find?_eq_some he

theorem partTotal_map_shares (xs : List Share) :
    partTotal (xs.map (fun x => { pool := x.pool, amount := x.amount, expiry := none })) = shareSum xs := by
  simp [partTotal, shareSum, Function.comp_def]

/-- 03 R50, R51: the destination as it is written: what was there, or nothing. -/
theorem destCard_worth (s : State) (id shop : Nat) : cardWorth (destCard s id shop) = worthAt s id := by
  unfold destCard
  cases hc : s.card? id with
  | none =>
    rw [worthAt_none hc]
    rfl
  | some c =>
    rw [worthAt_some hc]
    rfl

theorem destCard_anchors {s : State} (hs : Sound s) {id shop n : Nat} {x : Hold} (hx : (s.holdSlot n).hold = some x) (he : x.card = id) :
    Anchors (destCard s id shop) ⟨n, (s.holdSlot n).gen⟩ x := by
  unfold destCard
  cases hc : s.card? id with
  | none => exact (hs.no_hold_of_absent hc hx he).elim
  | some c => exact hs.anchors_of hc hx he

theorem destCard_pools {s : State} (hs : Sound s) (id shop : Nat) : OfPools (fun p => poolUsed s p = true) (destCard s id shop).buckets := by
  unfold destCard
  cases hc : s.card? id with
  | none => exact List.forall_mem_nil _
  | some c => exact hs.buckets hc

theorem destCard_ordered {s : State} (hs : Sound s) (id shop : Nat) : bucketsOrdered (destCard s id shop).buckets := by
  unfold destCard
  cases hc : s.card? id with
  | none => exact bucketsOrdered_nil
  | some c => exact hs.ordered hc

theorem refundEffect_state (original shop amount : Nat) (target : Option Nat) (ref : Nat) (s : State) :
    (refundEffect original shop amount target ref s).state =
      writeEntry (refundEntry s original shop amount target ref (destCard s (destination (s.entry original) target) shop))
        (amendEntry original (grownOriginal amount)
          (s.setCard (destination (s.entry original) target)
            (refundedCard s (s.entry original) amount (destCard s (destination (s.entry original) target) shop)))) := rfl

theorem refund_fair (original shop amount : Nat) (target : Option Nat) (ref : Nat) (s : State) :
    Fair s (refundRule original shop amount target ref s).state := by
  intro hs
  unfold refundRule
  rcases HoldSlots.ruled_cases (refundChecks original shop amount target s) (refundEffect original shop amount target ref s) s with h | ⟨hp, h⟩
  · rw [h]
    exact Fair.refl s hs
  · rw [h, refundEffect_state]
    simp only [refundChecks, firstFailing_cons_none, require_none, mustBeActive_none, decide_eq_true_eq] at hp
    obtain ⟨-, hpres, -, -, -, -, -, hact, -, -, hbase, -⟩ := hp
    generalize hid : destination (s.entry original) target = id at hact hbase ⊢
    generalize hd : destCard s id shop = d at hact hbase ⊢
    generalize he : s.entry original = e at hbase ⊢
    have hmem := entry_mem hpres
    rw [he] at hmem
    have hod : bucketsOrdered d.buckets := hd ▸ destCard_ordered hs id shop
    have hwd : cardWorth d = worthAt s id := hd ▸ destCard_worth s id shop
    obtain ⟨hsum, hcov, hshares⟩ := placeShares_keeps s (e.parts.zip (refundShares e amount)) hod
    obtain ⟨hpools, hxs⟩ := placeShares_pools (P := fun p => poolUsed s p = true) s (e.parts.zip (refundShares e amount))
      (fun x hx => (hs.entries hmem).1 x.1 (List.of_mem_zip hx).1) (hd ▸ destCard_pools hs id shop)
    have hcard : Sound (s.setCard id (refundedCard s e amount d)) :=
      hs.setCard (bucketsOrdered_placeShares s _ hod) hpools (closedEmpty_of_active hact)
        fun hx hc => (hd ▸ destCard_anchors hs hx hc : Anchors d _ _).mono (fun _ hr => hr) hcov
    have hamend : Sound (amendEntry original (grownOriginal amount) (s.setCard id (refundedCard s e amount d))) :=
      hcard.amendEntry (fun _ => rfl) (fun _ => rfl)
    have hparts : ∀ p ∈ (refundEntry s original shop amount target ref d).parts, poolUsed s p.pool = true := fun p hp => by
      obtain ⟨x, hx, rfl⟩ := List.mem_map.1 hp
      rw [he] at hx
      exact hxs x hx
    have hforf : ∀ p ∈ (refundEntry s original shop amount target ref d).forfeited, poolUsed s p.pool = true := fun p hp => by
      obtain ⟨x, hx, rfl⟩ := List.mem_map.1 hp
      rw [he] at hx
      exact hxs x (List.mem_filter.1 hx).1
    refine ⟨hamend.writeEntry ⟨hparts, fun hk => by rcases hk with hk | hk <;> exact absurd hk (by simp [refundEntry, newEntry])⟩ hforf, ?_⟩
    rw [surplus_writeEntry (show EntryKind.refund ≠ .expire by decide) (fun p hp => ((poolUsed_iff _ _).1 (hforf p hp)).1), surplus_amendEntry,
      surplus_setCard hs, ← hwd]
    have hcount : counted (refundEntry s original shop amount target ref d) =
        BitVec.ofInt 64 (baseShare e amount) + units (shareSum (placement s e amount d).1) := by
      simp [counted, refundEntry, newEntry, basePart, partsSum_eq, partTotal_map_shares, he]
    have hgone : partTotal (refundEntry s original shop amount target ref d).forfeited = shareSum (forfeitedShares (placement s e amount d).1) := by
      simp only [refundEntry, he]
      exact partTotal_map_shares _
    have hplaced := placedValue_add_forfeited (placement s e amount d).1
    have hw : cardWorth (refundedCard s e amount d) =
        ((d.base : Int) + baseShare e amount).toNat + (bucketSum d.buckets + placedValue (placement s e amount d).1) := by
      simp only [cardWorth, refundedCard, placement, hsum]
    rw [hcount, hgone, hw, ← hplaced]
    simp only [cardWorth, units_add, units_toNat hbase, BitVec.ofInt_add, BitVec.ofInt_natCast]
    simp only [units]
    ring

/-! ## Voids (03) -/

theorem voidEffect_state (original shop ref : Nat) (s : State) :
    (voidEffect original shop ref s).state =
      writeEntry (voidEntry s original shop ref)
        (amendEntry original (fun x => { x with voided := some true })
          (s.setCard (entryCard (s.entry original)) (voidedCard s (s.entry original) (s.card (entryCard (s.entry original)))))) := rfl

/-- The card of a void before it may be closed. -/
def drainedCard (s : State) (e : Entry) (c : Card) : Card :=
  tidyCard s { c with base := c.base - (basePart e).toNat, buckets := withoutBonus e c.buckets }

theorem voidedCard_eq (s : State) (e : Entry) (c : Card) :
    voidedCard s e c = if e.kind = .sale && cardValue s (drainedCard s e c) = 0 then closedCard s (drainedCard s e c) else drainedCard s e c := rfl

theorem cardWorth_voided (s : State) (e : Entry) (c : Card) : cardWorth (voidedCard s e c) = cardWorth (drainedCard s e c) := by
  rw [voidedCard_eq]
  split <;> rfl

theorem voidedCard_buckets (s : State) (e : Entry) (c : Card) : (voidedCard s e c).buckets = (drainedCard s e c).buckets := by
  rw [voidedCard_eq]
  split <;> rfl

theorem voidedCard_closedEmpty {s : State} {e : Entry} {c : Card} (hc : c.state ≠ .closed) (hh : c.holds = []) :
    ClosedEmpty (voidedCard s e c) := by
  rw [voidedCard_eq]
  split
  · rename_i hv
    simp only [Bool.and_eq_true, decide_eq_true_eq, cardValue] at hv
    intro _
    refine ⟨?_, hh⟩
    have hzero := of_decide_eq_true hv.2
    change (drainedCard s e c).base + bucketSum (drainedCard s e c).buckets = 0
    omega
  · exact fun hs => absurd hs hc

/-- 03 R63: what a void takes off the card. -/
theorem cardWorth_drained {s : State} {e : Entry} {c : Card} (ho : bucketsOrdered c.buckets) (hv : valueLeft e c = true)
    (hone : e.parts.length ≤ 1) : cardWorth (drainedCard s e c) + ((basePart e).toNat + partsSum e) = cardWorth c := by
  have hb := bucketSum_withoutBonus ho hv
  have hbase : (basePart e).toNat ≤ c.base := by
    simp only [valueLeft, Bool.and_eq_true, decide_eq_true_eq] at hv
    omega
  have hp : ((bonusPart e).map (fun p => p.amount)).getD 0 = partsSum e := by
    unfold bonusPart partsSum
    match hparts : e.parts, hone with
    | [], _ => rfl
    | [p], _ => simp
  rw [hp] at hb
  rw [drainedCard, cardWorth_tidy]
  unfold cardWorth
  dsimp only
  omega

theorem void_fair (original shop ref : Nat) (s : State) : Fair s (voidRule original shop ref s).state := by
  intro hs
  unfold voidRule
  rcases HoldSlots.ruled_cases (voidChecks original shop s) (voidEffect original shop ref s) s with h | ⟨hp, h⟩
  · rw [h]
    exact Fair.refl s hs
  · rw [h, voidEffect_state]
    simp only [voidChecks, firstFailing_cons_none, require_none, decide_eq_true_eq, Bool.or_eq_true] at hp
    obtain ⟨-, hpres, hkind, -, -, -, -, hsome, hopen, hheld, hleft, -⟩ := hp
    have hmem := entry_mem hpres
    have hc := exists_card hsome
    generalize he : s.entry original = e at hkind hmem hc hopen hheld hleft ⊢
    generalize hid : entryCard e = id at hc hopen hheld hleft ⊢
    generalize s.card id = c at hc hopen hheld hleft ⊢
    have hnil : c.holds = [] := List.isEmpty_iff.1 hheld
    obtain ⟨hused, hone⟩ := hs.entries hmem
    have hcard : Sound (s.setCard id (voidedCard s e c)) := by
      refine hs.setCard ?_ ?_ (voidedCard_closedEmpty hopen hnil) fun hx hcid => (hs.no_hold_of_unheld hc hnil hx hcid).elim
      · exact bucketsOrdered_voidedCard e (hs.ordered hc)
      · rw [voidedCard_buckets]
        exact ofPools_tidy _ (ofPools_withoutBonus e (hs.buckets hc))
    have hamend : Sound (amendEntry original (fun x => { x with voided := some true }) (s.setCard id (voidedCard s e c))) :=
      hcard.amendEntry (fun _ => rfl) (fun _ => rfl)
    have hparts : ∀ p ∈ (voidEntry s original shop ref).parts, poolUsed s p.pool = true := fun p hp => by
      obtain ⟨x, hx, rfl⟩ := List.mem_map.1 hp
      rw [he] at hx
      exact hused x hx
    refine ⟨hamend.writeEntry ⟨hparts, fun hk => by rcases hk with hk | hk <;> exact absurd hk (by simp [voidEntry, newEntry])⟩
      (List.forall_mem_nil _), ?_⟩
    have hworth := cardWorth_drained (s := s) (hs.ordered hc) hleft (hone hkind)
    have hcount : counted (voidEntry s original shop ref) = -(units (basePart e).toNat + units (partsSum e)) := by
      simp [counted, voidEntry, newEntry, basePart, partsSum, he, Function.comp_def]
    rw [surplus_writeEntry (show EntryKind.void ≠ .expire by decide) (List.forall_mem_nil _), surplus_amendEntry, surplus_setCard hs,
      worthAt_some hc, cardWorth_voided, hcount, ← hworth, units_add, units_add]
    change _ + _ - units 0 = _
    rw [units_zero]
    ring

/-! ## Grants and adjustments -/

theorem grant_fair (id pool amount : Nat) (s : State) : Fair s (grantRule id pool amount s).state := by
  intro hs
  unfold grantRule
  rcases HoldSlots.ruled_cases (grantChecks id pool amount s) (grantEffect id pool amount s) s with h | ⟨hp, h⟩
  · rw [h]
    exact Fair.refl s hs
  · rw [h]
    simp only [grantChecks, firstFailing_cons_none, require_none, mustBeActive_none, decide_eq_true_eq, Bool.and_eq_true] at hp
    obtain ⟨⟨⟨-, hpool⟩, -⟩, hpres, hact, hopen, -, -, hcredit, -⟩ := hp
    have hc := exists_card hpres
    obtain ⟨cs, hcs⟩ := Option.isSome_iff_exists.1 hcredit
    have hused : poolUsed s pool = true := (poolUsed_iff s pool).2 ⟨hpool, by rw [hopen]; decide⟩
    have hd : grantedCard s pool amount (s.card id) = { s.card id with buckets := cs } := by simp [grantedCard, hcs]
    obtain ⟨hsum, hcov⟩ := credit_some hcs (hs.ordered hc)
    have hcard : Sound (s.setCard id (grantedCard s pool amount (s.card id))) := by
      rw [hd]
      exact hs.recard hc (bucketsOrdered_credit hcs (hs.ordered hc))
        (ofPools_credit (P := fun p => poolUsed s p = true) hcs hused (hs.buckets hc)) (closedEmpty_of_active hact) (fun _ hr => hr) hcov
    refine fair_card_entry hs hcard ⟨?_, fun hk => by rcases hk with hk | hk <;> exact absurd hk (by simp [grantEntry, newEntry])⟩
      (show EntryKind.grant ≠ .expire by decide) rfl ?_
    · intro p hp
      obtain rfl := List.mem_singleton.1 hp
      exact hused
    · have hw : cardWorth { s.card id with buckets := cs } = cardWorth (s.card id) + amount := by
        simp only [cardWorth, hsum]
        omega
      have hcount : counted (grantEntry s id pool amount) = units amount := by simp [counted, grantEntry, newEntry]
      rw [hcount, hd, worthAt_some hc, hw, units_add]
      ring

theorem adjust_fair (shop : Nat) (amount : Int) (ref : Option Nat) (s : State) : Fair s (adjustRule shop amount ref s).state := by
  intro hs
  unfold adjustRule
  rcases HoldSlots.ruled_cases (adjustChecks shop amount s) (adjustEffect shop amount ref s) s with h | ⟨hp, h⟩
  · rw [h]
    exact Fair.refl s hs
  · rw [h]
    have hshop := fair_of_calm (safe_setShop (W := True) (s := s) (i := shop) (x := adjustedShop amount (s.shop shop))
      fun h => ⟨(h shop).1, (h shop).2⟩) (calm_setShop _ _ _) hs
    refine ⟨hshop.1.writeEntry ⟨List.forall_mem_nil _, fun _ => Nat.zero_le _⟩ (List.forall_mem_nil _), ?_⟩
    have hstate : (adjustEffect shop amount ref s).state = writeEntry (adjustEntry s shop amount ref)
        (s.setShop shop (adjustedShop amount (s.shop shop))) := rfl
    rw [hstate, surplus_writeEntry (show EntryKind.adjust ≠ .expire by decide) (List.forall_mem_nil _), hshop.2]
    change _ + 0 - units 0 = _
    rw [units_zero]
    ring

/-! ## Card states (01 R20, R21) -/

theorem freeze_fair (id : Nat) {x : CardState} (hx : x ≠ .closed) (s : State) : Fair s (ruled (freezeChecks id s) (frozenAs id x s) s).state := by
  intro hs
  rcases HoldSlots.ruled_cases (freezeChecks id s) (frozenAs id x s) s with h | ⟨hp, h⟩
  · rw [h]
    exact Fair.refl s hs
  · rw [h]
    simp only [freezeChecks, cardChecks, List.cons_append, List.nil_append, firstFailing_cons_none, require_none] at hp
    obtain ⟨-, hpres, -⟩ := hp
    have hc := exists_card hpres
    exact ⟨hs.recard hc (hs.ordered (c := s.card id) hc) (hs.buckets (c := s.card id) hc) (fun h => absurd h hx) (fun _ hr => hr) (Covers.refl _),
      surplus_setCard_even hs (worthAt_some hc).symm⟩

theorem close_fair (id : Nat) (s : State) : Fair s (closeRule id s).state := by
  intro hs
  unfold closeRule
  rcases HoldSlots.ruled_cases (closeChecks id s) _ s with h | ⟨hp, h⟩
  · rw [h]
    exact Fair.refl s hs
  · rw [h]
    simp only [closeChecks, cardChecks, List.cons_append, List.nil_append, firstFailing_cons_none, require_none, Bool.and_eq_true,
      decide_eq_true_eq, List.isEmpty_iff] at hp
    obtain ⟨-, hpres, -, ⟨hzero, hnil⟩, -⟩ := hp
    have hc := exists_card hpres
    have hw : cardWorth (s.card id) = 0 := by
      unfold cardValue at hzero
      unfold cardWorth
      omega
    exact ⟨hs.recard hc (hs.ordered (c := s.card id) hc) (hs.buckets (c := s.card id) hc) (fun _ => ⟨hw, hnil⟩) (fun _ hr => hr) (Covers.refl _),
      surplus_setCard_even hs (worthAt_some hc).symm⟩

/-! ## Pools (04 R71 to R73) -/

theorem changePool_fair {p : Nat} {x : Pool} {s : State} (hx : Sound s → x.state ≠ .empty ∧ x.pending = (s.pool p).pending) :
    Fair s (changePool p x s) := by
  intro hs
  obtain ⟨hne, hpend⟩ := hx hs
  have hset : Fair s (s.setPool p x) := fun _ => ⟨hs.setPool fun h => absurd h hne, surplus_setPool_same hpend⟩
  exact hset.trans (fair_of_calm (W := True) (safe_giveNotices _ _) (calm_giveNotices _ _)) hs

theorem definePool_fair (pool : Nat) (cfg : PoolArg) (s : State) : Fair s (definePoolRule pool cfg s).state := by
  unfold definePoolRule
  rcases HoldSlots.ruled_cases (definePoolChecks pool cfg s) _ s with h | ⟨hp, h⟩
  · rw [h]
    exact Fair.refl s
  · rw [h]
    simp only [definePoolChecks, firstFailing_cons_none, require_none, mayDefine, Bool.or_eq_true, Bool.and_eq_true, decide_eq_true_eq] at hp
    obtain ⟨-, -, hmay, -⟩ := hp
    refine changePool_fair fun hs => ⟨show PoolState.opened ≠ .empty by decide, ?_⟩
    rcases hmay with hmt | ⟨-, hz⟩
    · exact (hs.empty pool hmt).symm
    · exact hz.symm

theorem addBudget_fair (pool amount : Nat) (s : State) : Fair s (addBudgetRule pool amount s).state := by
  unfold addBudgetRule
  rcases HoldSlots.ruled_cases (addBudgetChecks pool amount s) _ s with h | ⟨hp, h⟩
  · dsimp only
    rw [h]
    exact Fair.refl s
  · dsimp only
    rw [h]
    simp only [addBudgetChecks, firstFailing_cons_none, require_none, Bool.or_eq_true, decide_eq_true_eq] at hp
    obtain ⟨-, hstate, -⟩ := hp
    refine changePool_fair fun _ => ⟨fun h => ?_, rfl⟩
    have h : (s.pool pool).state = .empty := h
    rw [h] at hstate
    exact absurd hstate (by decide)

theorem setPoolState_fair (pool target : Nat) (s : State) : Fair s (setPoolStateRule pool target s).state := by
  unfold setPoolStateRule
  rcases HoldSlots.ruled_cases (setPoolStateChecks pool target s) _ s with h | ⟨hp, h⟩
  · dsimp only
    rw [h]
    exact Fair.refl s
  · dsimp only
    rw [h]
    simp only [setPoolStateChecks, firstFailing_cons_none, require_none] at hp
    obtain ⟨-, hmove, -⟩ := hp
    refine changePool_fair fun _ => ⟨fun h => ?_, rfl⟩
    obtain ⟨x, hx, hm⟩ := (Option.any_eq_true _ _).1 hmove
    have h : (poolStateOf target).getD .empty = .empty := h
    rw [hx, Option.getD_some] at h
    rw [h] at hm
    cases hs : (s.pool pool).state <;> rw [hs] at hm <;> exact absurd hm (by decide)

end Sys2Proof.Proofs.Ends
end

section
/-! Conservation of value (05 R95): what every command makes of the value records. -/

namespace Sys2Proof.Proofs.Balance

open Sys2Proof Sys2Proof.Machine Sys2Proof.Laws Sys2Proof.Proofs.Buckets Sys2Proof.Proofs.Bounds Sys2Proof.Proofs.Steps
  Sys2Proof.Proofs.Periods Sys2Proof.Proofs.Value Sys2Proof.Proofs.Splits Sys2Proof.Proofs.Amounts Sys2Proof.Proofs.Records
  Sys2Proof.Proofs.Moves Sys2Proof.Proofs.Ends

/-! ## The sweep (01 R9, 04 R78, R81) -/

/-- A card with the value of its swept buckets gone. -/
def sweptCard (s : State) (c : Card) : Card :=
  { c with buckets := c.buckets.map (fun b => if sweeps s b then { b with amount := 0 } else b) }

/-- What the sweep takes from a list of buckets, with their pools. -/
def sweptAmounts (s : State) (bs : List Bucket) : List (Nat × Nat) := (bs.filter (sweeps s)).map (fun b => (b.pool, b.amount))

theorem bucketSum_swept (s : State) (bs : List Bucket) :
    bucketSum (bs.map (fun b => if sweeps s b then { b with amount := 0 } else b)) + pendingSum (sweptAmounts s bs) = bucketSum bs := by
  induction bs with
  | nil => rfl
  | cons b bs ih =>
    unfold sweptAmounts at *
    rw [List.map_cons, bucketSum_cons, bucketSum_cons]
    cases hb : sweeps s b with
    | true =>
      rw [List.filter_cons_of_pos hb, if_pos rfl]
      simp only [pendingSum, List.map_cons, List.sum_cons] at ih ⊢
      omega
    | false =>
      rw [List.filter_cons_of_neg (by simp [hb]), if_neg (by simp)]
      omega

theorem sweep_fair (s : State) (x : Sweep) : Fair s { s with sweep := x } := fair_of_same (W := True) (safe_sweep s x) rfl rfl rfl rfl rfl

/-- 04 R78: the count of swept value moves no value. -/
theorem countSwept_fair (b : Bucket) (s : State) : Fair s (countSwept b s) := sweep_fair s _

theorem visitFold_keeps (bs : List Bucket) {s : State} (hs : Sound s) (hu : OfPools (fun p => poolUsed s p = true) bs) :
    Sound (bs.foldl (fun s b => countSwept b (addPending b.pool b.amount s)) s) ∧
      surplus (bs.foldl (fun s b => countSwept b (addPending b.pool b.amount s)) s) =
        surplus s - units (pendingSum (bs.map (fun b => (b.pool, b.amount)))) := by
  induction bs generalizing s with
  | nil =>
    refine ⟨hs, ?_⟩
    change _ = _ - units 0
    rw [units_zero]
    simp
  | cons b bs ih =>
    obtain ⟨hb, hbs⟩ := List.forall_mem_cons.1 hu
    obtain ⟨hsound, hstay⟩ := soundStep_addPending b.amount hb hs
    obtain ⟨hcs, hcsur⟩ := countSwept_fair b _ hsound
    obtain ⟨h1, h2⟩ := ih hcs fun x hx => hstay _ (hbs x hx)
    refine ⟨h1, ?_⟩
    rw [List.foldl_cons, h2, hcsur, surplus_addPending _ _ ((poolUsed_iff _ _).1 hb).1]
    simp only [pendingSum, List.map_cons, List.sum_cons, units_add]
    ring

theorem visitCard_fair {id : Nat} {c : Card} {s : State} (hc : s.card? id = some c) : Fair s (visitCard id c s) := by
  intro hs
  have hsum := bucketSum_swept s c.buckets
  have hpools := hs.buckets hc
  have hempty : ClosedEmpty (sweptCard s c) := fun hcl => by
    obtain ⟨hw, hh⟩ := hs.closed hc hcl
    refine ⟨?_, hh⟩
    simp only [cardWorth, sweptCard] at hw ⊢
    omega
  have hpl : ∀ b, (if sweeps s b then { b with amount := 0 } else b : Bucket).pool = b.pool := fun b => by split <;> rfl
  have hex : ∀ b, (if sweeps s b then { b with amount := 0 } else b : Bucket).expiry = b.expiry := fun b => by split <;> rfl
  have hcard : Sound (s.setCard id (tidyCard s (sweptCard s c))) :=
    hs.recard_tidy hc (bucketsOrdered_map _ hpl hex (hs.ordered hc)) (ofPools_map hpl hpools) hempty (fun _ hr => hr) (covers_map hpl hex)
  have hfold := visitFold_keeps (c.buckets.filter (sweeps s)) hcard (fun b hb => hpools b (List.mem_filter.1 hb).1)
  refine ⟨hfold.1, ?_⟩
  have hsur : surplus (visitCard id c s) = _ := hfold.2
  have hw : cardWorth (sweptCard s c) + pendingSum ((c.buckets.filter (sweeps s)).map (fun b => (b.pool, b.amount))) = cardWorth c := by
    simp only [cardWorth, sweptCard, sweptAmounts] at hsum ⊢
    omega
  rw [hsur, surplus_setCard hs, worthAt_some hc, cardWorth_tidy, ← hw, units_add]
  ring

/-- 04 R78: the card visited next is present. -/
theorem nextVisit_mem {s : State} {v : Nat × Nat} (h : nextVisit s = some v) : ∃ e ∈ s.cards, v = (e.2.slot, e.1) := by
  have hfold : ∀ (l : List (Nat × Nat)) (best : Option (Nat × Nat)),
      l.foldl (fun best e =>
        if s.sweep.cursor ≤ e.1 then
          match best with
          | some b => if e.1 < b.1 then some e else best
          | none => some e
        else best) best = some v → best = some v ∨ v ∈ l := by
    intro l
    induction l with
    | nil => exact fun best hb => Or.inl hb
    | cons e l ih =>
      intro best hb
      rcases ih _ hb with hv | hv
      · dsimp only at hv
        split at hv
        · split at hv
          · split at hv
            · exact Or.inr (Option.some.inj hv ▸ List.mem_cons_self)
            · exact Or.inl hv
          · exact Or.inr (Option.some.inj hv ▸ List.mem_cons_self)
        · exact Or.inl hv
      · exact Or.inr (List.mem_cons_of_mem _ hv)
  rcases hfold _ _ h with h | h
  · exact absurd h (by simp)
  · obtain ⟨e, he, hv⟩ := List.mem_map.1 h
    exact ⟨e, he, hv.symm⟩

theorem sweepStep_fair (s : State) : Fair s (sweepStep s) := by
  intro hs
  unfold sweepStep
  split
  · split
    · rename_i v hv
      obtain ⟨e, he, rfl⟩ := nextVisit_mem hv
      have hc : s.card? e.1 = some e.2 := (card?_iff hs.tables _ _).2 he
      rw [card_of_card? hc]
      exact (visitCard_fair hc).trans (sweep_fair _ _) hs
    · exact sweep_fair _ _ hs
  · exact Fair.refl s hs

theorem surplus_expirePool {s : State} {p : Nat} (hp : poolOk p = true) : surplus (writeEntry (expireEntry s p) s) = surplus s := by
  have hcalm := calm_postPositions (expireEntry s p) { s with journal := pushEntry (expireEntry s p) s.journal }
  unfold writeEntry
  rw [surplus_calm (calm_giveNotices _ _), postPools]
  have hparts : (expireEntry s p).parts = [{ pool := p, amount := (s.pool p).pending, expiry := none }] := rfl
  have hkind : (expireEntry s p).kind = .expire := rfl
  have hpool : (postPositions (expireEntry s p) { s with journal := pushEntry (expireEntry s p) s.journal }).pool p = s.pool p := by
    simp only [State.pool, hcalm.pools]
  have hnone : (expireEntry s p).forfeited.map (fun p => (p.pool, p.amount)) = [] := rfl
  rw [hnone, hparts, List.foldl_cons, List.foldl_nil, hkind]
  change surplus (State.setPool _ p _) = _
  rw [surplus_setPool _ hp, surplus_calm hcalm, surplus_pushEntry, hpool]
  have hcount : counted (expireEntry s p) = -units (s.pool p).pending := by simp [counted, expireEntry, newEntry]
  simp only [hcount, movePool, Nat.sub_self, units_zero]
  ring

theorem expirePool_fair {p : Nat} (hp : poolOk p = true) (s : State) : Fair s (expirePool s p) := by
  unfold expirePool
  split
  · rename_i h
    simp only [Bool.and_eq_true, decide_eq_true_eq] at h
    intro hs
    have hused : poolUsed s p = true := (poolUsed_iff s p).2 ⟨hp, fun he => h.1 (hs.empty p he)⟩
    refine ⟨hs.writeEntry ⟨fun x hx => ?_, fun hk => by rcases hk with hk | hk <;> exact absurd hk (by simp [expireEntry, newEntry])⟩
      (List.forall_mem_nil _), surplus_expirePool hp⟩
    obtain rfl := List.mem_singleton.1 hx
    exact hused
  · exact Fair.refl s

theorem sweepFinish_fair (s : State) : Fair s (sweepFinish s) := by
  unfold sweepFinish
  split
  · have hpools : ∀ (l : List Nat), (∀ p ∈ l, poolOk p = true) → ∀ u, Fair u (l.foldl expirePool u) := by
      intro l
      induction l with
      | nil => exact fun _ u => Fair.refl u
      | cons p l ih =>
        intro hl u
        obtain ⟨hp, hl⟩ := List.forall_mem_cons.1 hl
        exact (expirePool_fair hp u).trans (ih hl _)
    have hall := hpools (List.range Config.poolCount) (fun p hp => by simpa [poolOk] using List.mem_range.1 hp) s
    exact (fair_of_calm (W := True) (safe_giveNotices _ _) (calm_giveNotices _ _)).after ((sweep_fair _ _).after hall)
  · exact Fair.refl s

/-! ## The release (07 R138) -/

/-- A sum loses nothing by the records that count for nothing. -/
theorem tableSum_filter {α : Type} (f : α → Nat) (g : Nat × α → Bool) (t : Table α) (h : ∀ e ∈ t, g e = false → f e.2 = 0) :
    tableSum f (t.filter g) = tableSum f t := by
  induction t with
  | nil => rfl
  | cons e t ih =>
    obtain ⟨he, ht⟩ := List.forall_mem_cons.1 h
    have ih := ih ht
    cases hg : g e with
    | true => rw [List.filter_cons_of_pos hg, tableSum_cons, tableSum_cons, ih]
    | false => rw [List.filter_cons_of_neg (by simp [hg]), tableSum_cons, ih, he hg, Nat.zero_add]

theorem purgedBy_closed {period : Nat} {c : Card} (h : purgedBy period c = true) : c.state = .closed := by
  simp only [purgedBy, Bool.and_eq_true, decide_eq_true_eq] at h
  exact h.1

theorem releaseRecords_fair (period : Nat) (r : SummaryRelease) (s : State) : Fair s (releaseRecords period r s) := by
  intro hs
  have ht : tablesFormed (releaseRecords period r s) :=
    ⟨(held_releaseRecords (W := True) period r s).cards hs.tables.1, hs.tables.2⟩
  have hcard : ∀ {id c}, (releaseRecords period r s).card? id = some c ↔ s.card? id = some c ∧ purgedBy period c = false := fun {id c} => by
    rw [card?_iff ht, card?_iff hs.tables]
    simp [releaseRecords, List.mem_filter]
  have hworth : ∀ e ∈ s.cards, (!purgedBy period e.2) = false → cardWorth e.2 = 0 := fun e he hp =>
    (hs.closed ((card?_iff hs.tables _ _).2 he) (purgedBy_closed (by simpa using hp))).1
  refine ⟨{ tables := ht, ordered := fun h => hs.ordered (hcard.1 h).1, anchored := fun {n x} hx => ?_, total := hs.total,
            parts := hs.parts, entries := hs.entries, buckets := fun h => hs.buckets (hcard.1 h).1, empty := hs.empty,
            closed := fun h => hs.closed (hcard.1 h).1 }, ?_⟩
  · obtain ⟨c, hc, ha⟩ := hs.anchored (n := n) hx
    refine ⟨c, hcard.2 ⟨hc, ?_⟩, ha⟩
    by_contra hp
    have hnil := (hs.closed hc (purgedBy_closed (by simpa using hp))).2
    exact absurd (hnil ▸ ha.1) List.not_mem_nil
  · have hsum : tableSum cardWorth (releaseRecords period r s).cards = tableSum cardWorth s.cards := tableSum_filter _ _ _ hworth
    have hp : allPending (releaseRecords period r s) = allPending s := rfl
    have hh : (releaseRecords period r s).holds = s.holds := rfl
    unfold surplus
    rw [valueInHands_eq, valueInHands_eq, hsum, hp, hh]
    rfl

theorem takeClose_fair (cause : CloseCause) (s : State) : Fair s (takeClose cause s) :=
  fair_of_same (W := True) (safe_takeClose cause s) rfl rfl rfl rfl rfl

theorem takePending_fair (s : State) : Fair s (takePending s) := by
  have hsafe := safe_takePending (W := True) s
  unfold takePending at *
  split at hsafe
  · exact fair_of_same hsafe rfl rfl rfl rfl rfl
  · exact Fair.refl s

theorem release_fair (s : State) : Fair s (release s) := by
  rw [release_eq]
  have h1 : Fair s (releaseShops s) := fair_of_calm (W := True) (safe_releaseShops s) (calm_releaseShops s)
  have h2 : Fair s (releasedBlocks s) := h1.trans (releaseRecords_fair _ _ _)
  exact ((h2.trans (fair_of_calm (W := True) (safe_giveNotices _ _) (calm_giveNotices _ _))).trans
    (fair_of_calm (W := True) (safe_endRuns _ _) (calm_endRuns _ _))).trans (takePending_fair _)

theorem testRelease_fair (s : State) : Fair s (testRelease s).1 := by
  rw [testRelease_fst]
  split
  · exact release_fair s
  · exact Fair.refl s

theorem endComputation_fair (s : State) : Fair s (endComputation s) := by
  rw [endComputation_eq]
  split
  · have h1 : Fair s (assignedBlocks s) := by
      have ha := calm_assignPayouts s
      have hc := calm_startCursors
        { assignPayouts s with period := settledPeriod (computationPart (assignPayouts s)) (assignPayouts s).period }
      have hj : (assignedBlocks s).journal = s.journal := hc.journal.trans ha.journal
      exact fair_of_same (W := True) (safe_assignedBlocks s) (hc.cards.trans ha.cards) (hc.holds.trans ha.holds) (hc.pools.trans ha.pools)
        (by rw [hj]) (by rw [hj])
    have hcalm : Calm (assignedBlocks s) (computationEnded s) := by
      unfold computationEnded
      dsimp only
      split
      · exact (calm_giveNotice _ _).trans (calm_autoStart _)
      · exact calm_giveNotice _ _
    have h2 : Fair (assignedBlocks s) (computationEnded s) := by
      refine fair_of_calm (W := True) ?_ hcalm
      unfold computationEnded
      dsimp only
      split
      · exact (safe_giveNotice _ _).trans (safe_autoStart _)
      · exact safe_giveNotice _ _
    exact ((h1.trans h2).trans (testRelease_fair _)).trans (fair_of_calm (W := True) (safe_giveNotices _ _) (calm_giveNotices _ _))
  · exact Fair.refl s

theorem scheduleClose_fair (cause : CloseCause) (s : State) : Fair s (scheduleClose cause s) := by
  refine fair_of_same (W := True) (safe_scheduleClose cause s) ?_ ?_ ?_ ?_ ?_ <;> unfold scheduleClose <;> split <;> rfl

/-! ## The clock, the supply and the restart -/

theorem intervalExpiry_fair (s : State) : Fair s (intervalExpiry s) := by
  have hsafe := safe_intervalExpiry (W := True) s
  unfold intervalExpiry at *
  split
  · rename_i h
    rw [if_pos h] at hsafe
    intro hs
    obtain ⟨hsound, hsur⟩ := scheduleClose_fair .interval s hs
    have hfair : Fair (scheduleClose .interval s)
        { scheduleClose .interval s with period := loadCountdown (scheduleClose .interval s).period } :=
      fair_of_same (W := True) (safe_period_same (by simp) (by simp) (by simp)) rfl rfl rfl rfl rfl
    exact (Fair.trans (fun _ => ⟨hsound, hsur⟩) hfair) hs
  · exact Fair.refl s

/-- A change of every hold that leaves its card, its total and its parts. -/
theorem mapHolds_fair {s t : State} (g : Hold → Hold) (hg : ∀ h, (g h).card = h.card ∧ (g h).total = h.total ∧ (g h).parts = h.parts)
    (hsafe : Safe True s t) (hh : t.holds = s.holds.map (fun e => (e.1, { e.2 with hold := e.2.hold.map g })))
    (hc : t.cards = s.cards) (hp : t.pools = s.pools) (hj : t.journal = s.journal) : Fair s t := by
  intro hs
  have hslot : ∀ n, t.holdSlot n = { s.holdSlot n with hold := (s.holdSlot n).hold.map g } := fun n => by
    unfold State.holdSlot tableRead
    rw [hh]
    induction s.holds with
    | nil => rfl
    | cons e l ih =>
      obtain ⟨j, x⟩ := e
      rw [List.map_cons]
      unfold tableGet
      split
      · rfl
      · exact ih
  have hcard : ∀ id, t.card? id = s.card? id := fun id => by simp only [State.card?, hc]
  have hpool : ∀ p, t.pool p = s.pool p := fun p => by simp only [State.pool, hp]
  have hused := poolUsed_congr hp
  have hback : ∀ {n y}, (t.holdSlot n).hold = some y → ∃ x, (s.holdSlot n).hold = some x ∧ y = g x := fun {n y} hy => by
    rw [hslot] at hy
    obtain ⟨x, hx, hgx⟩ := Option.map_eq_some_iff.1 hy
    exact ⟨x, hx, hgx.symm⟩
  refine ⟨{ tables := hsafe.tables hs.tables, ordered := fun h => hs.ordered (hcard _ ▸ h), anchored := fun {n y} hy => ?_,
            total := fun {n y} hy => ?_, parts := fun {n y} hy => ?_, entries := fun {e} he => ?_, buckets := fun h => ?_,
            empty := fun p => ?_, closed := fun h => hs.closed (hcard _ ▸ h) }, ?_⟩
  · obtain ⟨x, hx, rfl⟩ := hback hy
    obtain ⟨h1, -, h3⟩ := hg x
    obtain ⟨c, hcc, hr, hb⟩ := hs.anchored hx
    rw [hcard, h1]
    refine ⟨c, hcc, ?_, ?_⟩
    · rw [hslot]
      exact hr
    · rw [h3]
      exact hb
  · obtain ⟨x, hx, rfl⟩ := hback hy
    obtain ⟨-, h2, h3⟩ := hg x
    rw [h2, h3]
    exact hs.total hx
  · obtain ⟨x, hx, rfl⟩ := hback hy
    obtain ⟨-, -, h3⟩ := hg x
    rw [hused, h3]
    exact hs.parts hx
  · unfold EntrySound
    rw [hused]
    exact hs.entries (hj ▸ he)
  · rw [hused]
    exact hs.buckets (hcard _ ▸ h)
  · rw [hpool]
    exact hs.empty p
  · have hsum : tableSum slotWorth t.holds = tableSum slotWorth s.holds := by
      rw [hh]
      unfold tableSum
      rw [List.map_map]
      refine congrArg List.sum (List.map_congr_left fun e _ => ?_)
      simp only [Function.comp_apply, slotWorth]
      cases e.2.hold with
      | none => rfl
      | some x => simp [(hg x).2.1]
    have hpend : allPending t = allPending s := by simp only [allPending, hpool]
    unfold surplus
    rw [valueInHands_eq, valueInHands_eq, hsum, hpend, hc, hj]

theorem tickState_fair (s : State) : Fair s (tickState s) :=
  mapHolds_fair (fun x => { x with remaining := x.remaining - 1 }) (fun _ => ⟨rfl, rfl, rfl⟩) (safe_tickState s) rfl rfl rfl rfl

theorem unpowered_fair (s : State) : Fair s (unpowered s) := by
  rw [unpowered_eq]
  exact (fair_of_calm (W := True) (safe_clearRuns s) (calm_clearRuns s)).trans
    (mapHolds_fair (fun h => { h with remaining := 0, extensions := 0 }) (fun _ => ⟨rfl, rfl, rfl⟩) (safe_unpowerRegisters _) rfl rfl rfl rfl)

theorem holdSlot_addPendings (ps : List (Nat × Nat)) (s : State) (m : Nat) : (addPendings ps s).holdSlot m = s.holdSlot m := by
  unfold addPendings
  induction ps generalizing s with
  | nil => rfl
  | cons p ps ih => rw [List.foldl_cons, ih]; rfl

/-- The end of one hold leaves the other slots. -/
theorem holdSlot_endHold_other {n m : Nat} (h : m ≠ n) (back : Split) (e : LastEnd) (s : State) :
    (endHold n back e s).holdSlot m = s.holdSlot m := by
  unfold endHold
  split
  · rfl
  · dsimp only
    split
    · rw [holdSlot_setHoldSlot, if_neg h]
    · rw [holdSlot_addPendings, holdSlot_setCard_other, holdSlot_setHoldSlot, if_neg h]

/-- The listed holds are those of the slots, each slot once. -/
theorem placedHolds_spec {s : State} (hs : Sound s) :
    s.placedHolds.Pairwise (fun a b => a.1 ≠ b.1) ∧ ∀ e ∈ s.placedHolds, (s.holdSlot e.1).hold = some e.2 := by
  have hr : s.holds.Pairwise (fun a b => a.1 < b.1) := by simpa only [tableRising, decide_eq_true_eq] using hs.slotsRising
  have hmem : ∀ {e : Nat × HoldSlot} {x : Nat × Hold}, (e.2.hold.map (fun h => (e.1, h))) = some x → e.1 = x.1 ∧ e.2.hold = some x.2 :=
    fun {e x} hx => by
      obtain ⟨h, hh, rfl⟩ := Option.map_eq_some_iff.1 hx
      exact ⟨rfl, hh⟩
  constructor
  · refine List.Pairwise.filterMap _ (fun a b hab x hx y hy => ?_) hr
    rw [← (hmem hx).1, ← (hmem hy).1]
    exact Nat.ne_of_lt hab
  · intro x hx
    obtain ⟨e, he, hex⟩ := List.mem_filterMap.1 hx
    obtain ⟨h1, h2⟩ := hmem hex
    have hget : tableGet e.1 s.holds = some e.2 := HoldSlots.tableGet_of_mem hs.slotsRising he
    rw [← h1, State.holdSlot, tableRead, hget]
    exact h2

theorem releaseHolds46_fair (s : State) : Fair s (releaseHolds46 s) := by
  have hfold : ∀ (l : List (Nat × Hold)) (u : State), l.Pairwise (fun a b => a.1 ≠ b.1) → (∀ e ∈ l, (u.holdSlot e.1).hold = some e.2) →
      Fair u (l.foldl (fun s e => endHold e.1 e.2.parts .restart s) u) := by
    intro l
    induction l with
    | nil => exact fun u _ _ => Fair.refl u
    | cons e l ih =>
      intro u hd hl
      obtain ⟨he, hl⟩ := List.forall_mem_cons.1 hl
      obtain ⟨hne, hd⟩ := List.pairwise_cons.1 hd
      refine (endHold_fair e.1 .restart he).trans (ih _ hd fun x hx => ?_)
      rw [holdSlot_endHold_other (hne x hx).symm]
      exact hl x hx
  intro hs
  obtain ⟨hd, hl⟩ := placedHolds_spec hs
  exact hfold s.placedHolds s hd hl hs

theorem restarted_fair (cause : RestartCause) (s : State) : Fair s (restarted cause s) := by
  have h0 : Fair s (restartRegisters cause s) := fair_of_same (W := True) (safe_restartRegisters cause s) rfl rfl rfl rfl rfl
  exact (((h0.trans (fair_of_calm (W := True) (safe_clearRuns _) (calm_clearRuns _))).trans (releaseHolds46_fair _)).trans
    (fair_of_calm (W := True) (safe_makeUncertain _) (calm_makeUncertain _))).trans (fair_of_calm (W := True) (safe_restartPeriod _) (calm_restartPeriod _))

theorem restartBlocks_fair (cause : RestartCause) (s : State) : Fair s (restartBlocks cause s) := by
  rw [restartBlocks_eq]
  exact (((restarted_fair cause s).trans (fair_of_calm (W := True) (safe_giveNotices _ _) (calm_giveNotices _ _))).trans (testRelease_fair _)).trans
    (fair_of_calm (W := True) (safe_giveNotices _ _) (calm_giveNotices _ _))

theorem restartDrained_fair (s : State) : Fair s (restartDrained s) := by
  unfold restartDrained
  split
  · exact restartBlocks_fair _ _
  · exact Fair.refl s

theorem settle_fair (s : State) : Fair s (settle s) := by
  unfold settle
  exact (((((fair_of_calm (W := True) (safe_enterOffers s) (calm_enterOffers s)).trans (fair_foldl (fun s n => expireHold_fair n s) _ _)).trans
    (fair_of_calm (W := True) (safe_timeOuts _) (calm_timeOuts _))).trans (intervalExpiry_fair _)).trans
    (fair_of_calm (W := True) (safe_takeRollover _) (calm_takeRollover _))).trans (restartDrained_fair _)

theorem react_fair (b : Reactor) (s : State) : Fair s (react b s) := by
  cases b with
  | poolTable => exact (fair_of_calm (W := True) (safe_giveNotices _ _) (calm_giveNotices _ _)).after (sweep_fair s _)
  | periodController =>
    dsimp only [react]
    split
    · exact scheduleClose_fair _ _
    · exact Fair.refl s
  | journal =>
    dsimp only [react]
    split
    · exact fair_of_calm (W := True) (safe_giveNotice _ _) (calm_giveNotice _ _)
    · exact Fair.refl s

theorem rolloverAction_fair (s : State) : Fair s (rolloverAction s) := by
  unfold rolloverAction nextReaction
  split
  · exact fair_of_calm (W := True) (safe_takeRollover s) (calm_takeRollover s)
  · split
    · exact Fair.refl s
    · exact (react_fair _ _).after (fair_of_same (W := True) (safe_time_same rfl rfl rfl) rfl rfl rfl rfl rfl)

/-! ## A part without value -/

/-- 05 R101, 10 R178: where no value record and no entry is, the records are sound and nothing is outstanding. -/
theorem sound_of_empty {s : State} (hc : s.cards = []) (hh : s.holds = []) (hp : s.pools = []) (hj : s.journal = emptyJournal)
    (ht : tablesFormed s) : Sound s ∧ surplus s = 0 := by
  have hcard : ∀ id, s.card? id = none := fun id => by simp [State.card?, hc]
  have hslot : ∀ n, (s.holdSlot n).hold = none := fun n => by simp [State.holdSlot, hh, tableRead, freeHoldSlot]
  refine ⟨{ tables := ht, ordered := fun h => ?_, anchored := fun h => ?_, total := fun h => ?_, parts := fun h => ?_,
            entries := fun h => ?_, buckets := fun h => ?_, empty := fun p _ => ?_, closed := fun h => ?_ }, ?_⟩
  · exact absurd h (by simp [hcard])
  · exact absurd h (by simp [hslot])
  · exact absurd h (by simp [hslot])
  · exact absurd h (by simp [hslot])
  · rw [hj] at h
    exact absurd h List.not_mem_nil
  · exact absurd h (by simp [hcard])
  · simp [State.pool, hp, tableRead, emptyPool]
  · exact absurd h (by simp [hcard])
  · have hpend : allPending s = 0 := by simp [allPending, State.pool, hp, tableRead, emptyPool]
    unfold surplus
    rw [valueInHands_eq, hc, hh, hpend, hj]
    decide

end Sys2Proof.Proofs.Balance
end

section
/-! Every command keeps the value records sound and the balance of value (05 R95, 02 R25). -/

namespace Sys2Proof.Proofs.Conserved

open Sys2Proof Sys2Proof.Machine Sys2Proof.Laws Sys2Proof.Proofs.Bounds Sys2Proof.Proofs.Steps Sys2Proof.Proofs.Periods
  Sys2Proof.Proofs.Value Sys2Proof.Proofs.Records Sys2Proof.Proofs.Moves Sys2Proof.Proofs.Ends Sys2Proof.Proofs.Balance

/-! ## Requests -/

theorem calm_ruled {cs : List Check} {e : Done} {s : State} (h : Calm s e.state) : Calm s (ruled cs e s).state := by
  rcases HoldSlots.ruled_cases cs e s with hs | ⟨-, he⟩
  · rw [hs]
    exact Calm.refl s
  · rw [he]
    exact h

theorem fair_ruled {cs : List Check} {e : Done} {s : State} (h : Fair s e.state) : Fair s (ruled cs e s).state := by
  rcases HoldSlots.ruled_cases cs e s with hs | ⟨-, he⟩
  · rw [hs]
    exact Fair.refl s
  · rw [he]
    exact h

theorem setChannelEffect_fair (n : Nat) (cfg : ChannelArg) (s : State) : Fair s (setChannelEffect n cfg s).state := by
  unfold setChannelEffect
  dsimp only
  split
  · exact (testRelease_fair _).after (fair_of_calm (W := True) ((safe_setPayoutStates _ _ _).after (safe_setChannel _ _ _))
      ((calm_setChannel n _ s).trans (calm_setPayoutStates _ _ _)))
  · exact fair_of_calm (W := True) (safe_setChannel _ _ _) (calm_setChannel _ _ _)

theorem scheduled_fair (x : SchedulerMode) (n : Nat) (s : State) : Fair s { s with period := scheduled x n s.period } :=
  fair_of_same (W := True) (safe_scheduled x n s) rfl rfl rfl rfl rfl

/-- Every rule that a link's permission and mode checks let through keeps the balance. -/
theorem fair_ruleOf {i : Instr} {s : State} (hm : linkAndModeCheck (requestLink i) (requestFrame i).kind s = none) :
    Fair s (ruleOf i s).state := by
  have hcalm : Calm s (ruleOf i s).state → Fair s (ruleOf i s).state := fair_of_calm (safe_ruleOf hm)
  cases i with
  | sellCard => exact sell_fair _ _ _ _ _ _ _
  | reloadCard => exact reload_fair _ _ _ _ _ _
  | redeem => exact redeem_fair _ _ _ _ _ _
  | placeHold => exact place_fair _ _ _ _ _ _
  | captureHold => exact capture_fair _ _ _ _ _ _
  | releaseHold => exact Ends.release_fair _ _ _ _
  | extendHold => exact extend_fair _ _ _ _
  | refund => exact refund_fair _ _ _ _ _ _
  | voidSale => exact void_fair _ _ _ _
  | freezeCard => exact freeze_fair _ (by decide) _
  | unfreezeCard => exact freeze_fair _ (by decide) _
  | closeCard => exact close_fair _ _
  | grantPromo => exact grant_fair _ _ _ _
  | definePool => exact definePool_fair _ _ _
  | addBudget => exact addBudget_fair _ _ _
  | setPoolState => exact setPoolState_fair _ _ _
  | adjustCarry => exact adjust_fair _ _ _ _
  | removeShop =>
    exact fair_ruled ((testRelease_fair _).after (fair_of_calm (W := True) (safe_removedShop _ s) (calm_removedShop _ s)))
  | closePeriod => exact fair_ruled (takeClose_fair _ s)
  | setScheduler => exact fair_ruled (scheduled_fair _ _ s)
  | setChannel => exact fair_ruled (setChannelEffect_fair _ _ s)
  | payoutResult =>
    exact fair_ruled ((testRelease_fair _).after (fair_of_calm (W := True) (safe_resolved _ _ _ _ s) (calm_resolved _ _ _ _ s)))
  | resetChannel =>
    exact fair_ruled ((testRelease_fair _).after (fair_of_calm (W := True) ((safe_setChannel _ _ _).after (safe_setPayoutStates _ _ s))
      ((calm_setChannel _ _ _).after (calm_setPayoutStates _ _ s))))
  | journalSeek => exact hcalm (calm_ruled (calm_setCursor _ _ s))
  | journalRead => exact hcalm (calm_ruled (calm_readEffect _ _ s))
  | defineShop | stageSchedule | setShopState | clearAttention | setPayoutAccount => exact hcalm (calm_ruled (calm_setShop _ _ s))
  | startRun | suspendChannel | resumeChannel => exact hcalm (calm_ruled (calm_setChannel _ _ s))
  | advanceDay => exact hcalm (calm_rollDay _ s)
  | enterConfig | openPart | setRollover | setRoute => exact hcalm (calm_ruled (calm_of rfl rfl rfl rfl rfl))
  | setTime | setDay | setTrading | restart => exact hcalm (calm_of rfl rfl rfl rfl rfl)
  | storeInitialise => exact hcalm (calm_initialiseTaken s)
  | balance | lookupReference | cardDetail | holdDetail | poolStatus | shopPosition | periodSummary | channelStatus =>
    exact fair_ruled (Fair.refl s)
  | _ => exact Fair.refl s

theorem fair_carryOut {c : Instr} {rule : State → Done} {s : State}
    (h : linkAndModeCheck (requestLink c) (requestFrame c).kind s = none → Fair s (rule s).state) : Fair s (carryOut c rule s) := by
  cases hm : linkAndModeCheck (requestLink c) (requestFrame c).kind s with
  | none =>
    rw [carryOut_pass hm]
    exact (fair_of_calm (W := True) (safe_finish _ _) (calm_finish _ _)).after (h hm)
  | some a =>
    rw [carryOut_fail hm]
    exact fair_of_calm (W := True) (safe_placeReply _ _ _) (calm_placeReply _ _ _)

theorem fair_takeFrame {c : Instr} {s t : State} (h : takeFrame c s = some t) : Fair s t := by
  have hsafe := safe_takeFrame (W := True) h
  unfold takeFrame at h
  dsimp only at h
  split at h
  · obtain rfl := Option.some.inj h
    exact fair_of_calm hsafe (calm_setLink _ _ _)
  · exact absurd h (by simp)

theorem fair_taken {c : Instr} {s t : State} (h : taken c s = some t) : Fair s t := by
  unfold taken at h
  split at h
  · exact (settle_fair s).trans (fair_takeFrame h)
  · exact absurd h (by simp)

theorem fair_untaken (c : Instr) (s : State) : Fair s (untaken c s) := by
  unfold untaken
  split
  · exact (settle_fair s).trans (fair_of_calm (W := True) (safe_arrive _ _ _) (calm_setLink _ _ _))
  · exact Fair.refl s

theorem fair_takeRequest {c : Instr} {rule : State → Done} {s t : State}
    (hr : ∀ u, linkAndModeCheck (requestLink c) (requestFrame c).kind u = none → Fair u (rule u).state)
    (h : takeRequest c rule s = .next t) : Fair s t := by
  rw [takeRequest_next, Host.Outcome.next.injEq] at h
  subst h
  cases ht : taken c s with
  | none => exact fair_untaken c s
  | some u => exact (fair_taken ht).trans (fair_carryOut (hr u))

theorem fair_unknownRequest {l : Link} {tag kind : Nat} {payload : List Byte} {s t : State}
    (h : exec (.unknownRequest l tag kind payload) s = .next t) : Fair s t := by
  rw [exec_unknownRequest, Host.Outcome.next.injEq] at h
  subst h
  split
  · rename_i u hu
    split at hu
    · exact (fair_of_calm (W := True) (safe_finish _ (answered u _)) (calm_finish _ _)).after (fair_taken hu)
    · exact absurd hu (by simp)
  · exact fair_untaken _ s

/-! ## Events -/

theorem fair_event {f : State → State} {s t : State} (hf : ∀ u, Fair u (f u)) (h : event f s = .next t) : Fair s t := by
  rw [event, Host.Outcome.next.injEq] at h
  subst h
  split
  · exact (settle_fair s).trans (hf _)
  · exact Fair.refl s

theorem fair_dueEvent {f : State → State} {s t : State} (hf : ∀ u, Fair u (f u)) (h : dueEvent f s = .next t) : Fair s t := by
  rw [dueEvent, Host.Outcome.next.injEq] at h
  subst h
  split
  · exact (fair_of_calm (W := True) (safe_enterOffers s) (calm_enterOffers s)).trans (hf _)
  · exact Fair.refl s

theorem fair_calm_event {c : Instr} {s t : State} (h : exec c s = .next t) (hc : Calm s t) : Fair s t := fair_of_calm (exec_safe h) hc

theorem calm_lineEvent {f : State → State} {s t : State} (hf : ∀ u, Calm u (f u)) (h : lineEvent f s = .next t) : Calm s t := by
  rw [lineEvent, Host.Outcome.next.injEq] at h
  subst h
  split
  · exact hf _
  · exact Calm.refl s

theorem freeing_fair {f : LinkState → LinkState} (hf : ∀ {k}, linkBounded k = true → linkBounded (f k) = true) (l : Link) (s : State) :
    Fair s (freeing f l s) :=
  fair_of_calm (W := True) (safe_freeing hf l s) ((calm_setLink _ _ s).trans (calm_enterOffers _))

/-- 10 R178: the completion of STORE_INITIALISE leaves nothing outstanding and nothing in hands. -/
theorem initialiseDone_sound {s : State} (hs : Sound s) :
    Sound (initialiseDone s) ∧ (surplus (initialiseDone s) = surplus s ∨ surplus (initialiseDone s) = 0) := by
  have ht := (safe_initialiseDone (W := True) s).tables hs.tables
  unfold initialiseDone at *
  split
  · rename_i h
    rw [if_pos h] at ht
    obtain ⟨h1, h2⟩ := sound_of_empty (s := placeReply .a { code := .ok, payload := [] }
      { initialBlocks s with
        ctrl := { mode := .config, store := .valid, initInFlight := false, lastRestart := .initialise, formatMark := true,
                  draining := false }
        tLink := emptiedLink s.tLink
        aLink := { emptiedLink s.aLink with busy := s.aLink.busy } }) rfl rfl rfl rfl ht
    exact ⟨h1, Or.inr h2⟩
  · exact ⟨hs, Or.inl rfl⟩

/-- 10 R176: a power-on keeps the balance where it finds the format mark, and starts from nothing where it finds none. -/
theorem powered_sound {s : State} (hs : Sound s) :
    Sound (powered s) ∧ (surplus (powered s) = surplus s ∨ surplus (powered s) = 0) := by
  have ht := (safe_powered (W := True) s).tables hs.tables
  have hun : Fair s { unpowered s with power := true } :=
    (unpowered_fair s).trans (fair_of_same (W := True) (safe_power _ true) rfl rfl rfl rfl rfl)
  unfold powered markRead at *
  split
  · have hv : ∀ u : State, Calm u { u with ctrl := { u.ctrl with store := .valid } } := fun _ => calm_of rfl rfl rfl rfl rfl
    have hvalid : ∀ u : State, Fair u { u with ctrl := { u.ctrl with store := .valid } } := fun u hu =>
      ⟨hu.calm hu.tables (hv u), surplus_calm (hv u)⟩
    obtain ⟨h1, h2⟩ := (hun.trans (hvalid _)).trans (restartBlocks_fair .powerOn _) hs
    exact ⟨h1, Or.inl h2⟩
  · rename_i h
    rw [if_neg h] at ht
    obtain ⟨h1, h2⟩ := sound_of_empty (s := { initialBlocks { unpowered s with power := true } with
      ctrl := { mode := .config, store := .blank, initInFlight := false, lastRestart := .powerOn, formatMark := false,
                draining := false }
      tLink := restartLink (unpowered s).tLink
      aLink := restartLink (unpowered s).aLink }) rfl rfl rfl rfl ht
    exact ⟨h1, Or.inr h2⟩

/-! ## Commands -/

/-- Every command keeps the records sound; the surplus too, but for the two commands that may empty the store. -/
theorem exec_sound {c : Instr} {s t : State} (h : exec c s = .next t) (hs : Sound s) :
    Sound t ∧ (surplus t = surplus s ∨ surplus t = 0 ∧ (c = .storeInitialiseComplete ∨ c = .powerOn)) := by
  suffices hfair : c ≠ .storeInitialiseComplete → c ≠ .powerOn → Fair s t by
    by_cases hi : c = .storeInitialiseComplete
    · subst hi
      have he : exec .storeInitialiseComplete s = .next (if s.power then initialiseDone (settle s) else s) := rfl
      rw [he, Host.Outcome.next.injEq] at h
      subst h
      split
      · obtain ⟨hu, hsur⟩ := settle_fair s hs
        obtain ⟨h1, h2⟩ := initialiseDone_sound hu
        rw [hsur] at h2
        exact ⟨h1, h2.imp_right fun h => ⟨h, Or.inl rfl⟩⟩
      · exact ⟨hs, Or.inl rfl⟩
    · by_cases hp : c = .powerOn
      · subst hp
        obtain rfl := Host.Outcome.next.inj h
        obtain ⟨h1, h2⟩ := powered_sound hs
        exact ⟨h1, h2.imp_right fun h => ⟨h, Or.inr rfl⟩⟩
      · obtain ⟨h1, h2⟩ := hfair hi hp hs
        exact ⟨h1, Or.inl h2⟩
  intro hi hp
  cases hq : isRequest c with
  | true =>
    rw [exec_request hq] at h
    exact fair_takeRequest (fun _ => fair_ruleOf) h
  | false =>
    have hcalm := fair_calm_event h
    cases c with
    | unknownRequest => exact fair_unknownRequest h
    | frameReceived | frameGapTimeout | breakEnded => exact hcalm (calm_lineEvent (fun _ => calm_setLink _ _ _) h)
    | payoutOfferEntersQueue => exact hcalm (calm_lineEvent calm_offerEnters h)
    | frameSent => exact fair_event (freeing_fair linkBounded_sentAt _) h
    | linkReset => exact fair_event (freeing_fair linkBounded_resetLink _) h
    | tick => exact fair_event tickState_fair h
    | holdExpiry => exact fair_dueEvent (expireHold_fair _) h
    | confirmTimeout => exact fair_dueEvent (fun u => fair_of_calm (W := True) (safe_confirmEnd _ u) (calm_confirmEnd _ u)) h
    | intervalCountdownExpiry => exact fair_dueEvent intervalExpiry_fair h
    | dayRollover => exact fair_dueEvent rolloverAction_fair h
    | sweepVisit => exact fair_event sweepStep_fair h
    | sweepEnd => exact fair_event sweepFinish_fair h
    | closeComputeStep => exact fair_event (fun u => fair_of_calm (W := True) (safe_computeStep u) (calm_computeStep u)) h
    | closeComputationEnd => exact fair_event endComputation_fair h
    | runWalkStep => exact fair_event (fun u => fair_of_calm (W := True) (safe_walkStep _ u) (calm_walkStep _ u)) h
    | restartAfterDrain => exact fair_event restartDrained_fair h
    | storeInitialiseComplete => exact absurd rfl hi
    | powerOn => exact absurd rfl hp
    | lossOfPower =>
      have hl : exec .lossOfPower s = .next (if s.power then unpowered s else s) := rfl
      rw [hl, Host.Outcome.next.injEq] at h
      subst h
      split
      · exact unpowered_fair s
      · exact Fair.refl s
    | _ => exact absurd hq (by simp [isRequest])

theorem withPending_sound {s : State} (cs : List Instr) (h : Sound s) : Sound (s.withPending cs) :=
  h.calm h.tables (calm_of rfl rfl rfl rfl rfl)

/-- Settles O4: the first two clauses by what every operation keeps; the third by the soundness of the records. -/
theorem tablesAndBucketsStayOrdered : Obligations.TablesAndBucketsStayOrdered := by
  refine ⟨fun s t hs h => (step_safe h).2.tables hs, fun s t hs h => (step_safe h).2.ordered hs, fun s t hs h => ?_⟩
  rcases step_cases h with rfl | ⟨c, rest, -, he⟩
  · exact hs
  · exact (sound_iff t).2 (exec_sound he (withPending_sound rest ((sound_iff s).1 hs))).1

/-- Settles O8: every operation moves the counters by what it moves the value in hands. -/
theorem valueIsConserved : Obligations.ValueIsConserved := by
  refine ⟨fun s t hs hz h => ?_, fun c s t hs hi hp h => ?_⟩
  · rcases step_cases h with rfl | ⟨c, rest, -, he⟩
    · exact hz
    · have hsur : surplus (s.withPending rest) = 0 := (surplus_calm (calm_of rfl rfl rfl rfl rfl)).trans hz
      rcases (exec_sound he (withPending_sound rest ((sound_iff s).1 hs))).2 with he | ⟨he, -⟩
      · exact he.trans hsur
      · exact he
  · rcases (exec_sound h ((sound_iff s).1 hs)).2 with he | ⟨-, hc⟩
    · exact he
    · rcases hc with rfl | rfl
      · exact absurd rfl hi
      · exact absurd rfl hp

end Sys2Proof.Proofs.Conserved
end

section
/-! Every well-formed request is read back from its frame (11, Frame envelope, Field encodings, Kind codes). -/

namespace Sys2Proof.Proofs.RoundTrip

open Sys2Proof Sys2Proof.Machine Sys2Proof.Laws

/-! ## The composite fields -/

theorem getSchedule_fields {c : ScheduleArg} (h : c.wf = true) : getSchedule (payloadBytes (scheduleFields c)) = some (c, []) := by
  obtain ⟨r, f, k, m, o⟩ := c
  simp only [ScheduleArg.wf, Bool.and_eq_true] at h
  obtain ⟨⟨⟨⟨hr, hf⟩, hk⟩, hm⟩, ho⟩ := h
  simp [getSchedule, scheduleFields, getU_u16 hr, getU_u16 hf, getU_u16 hk, getU_u32 hm, getOpt_optFld_end (f := .u16) (fun _ => rfl) ho]

theorem getPool_fields {c : PoolArg} (h : c.wf = true) : getPool (payloadBytes (poolFields c)) = some (c, []) := by
  obtain ⟨o, m, r, cap, v, b, y, l⟩ := c
  simp only [PoolArg.wf, Bool.and_eq_true] at h
  obtain ⟨⟨⟨⟨⟨ho, hr⟩, hc⟩, hv⟩, hb⟩, hl⟩ := h
  have hmask : ∀ q, getMask 16 0 0#16 (payloadBytes (maskFields m) ++ q) = some (m, q) := getMask_maskFields m
  simp [getPool, poolFields, getOpt_optFld (f := .u16) (fun _ => rfl) ho, hmask, getU_u16 hr, getU_u32 hc, getU_u16 hv,
    getU_u64 hb, getFlag_flag, getU_u64_end hl]

theorem getSeek_fields {x : SeekPos} (h : x.wf = true) : getSeek (payloadBytes (seekFields x)) = some (x, []) := by
  cases x with
  | seq n => simp [getSeek, seekFields, getU_u8 (n := 0) rfl, getU_u32_end h]
  | oldest => simp [getSeek, seekFields, getU_u8_end (n := 1) rfl]
  | next => simp [getSeek, seekFields, getU_u8_end (n := 2) rfl]

theorem getPeriod_fields {o : Option Nat} (h : fitsOpt 4 o = true) : getPeriod (payloadBytes (periodFields o)) = some (o, []) := by
  cases o with
  | none => simp [getPeriod, periodFields, getU_u8_end (n := 1) rfl]
  | some n =>
    have hn : fits 4 n = true := by simpa [fitsOpt] using h
    simp [getPeriod, periodFields, getU_u8 (n := 0) rfl, getU_u32_end hn]

theorem getChannel_fields {c : ChannelArg} (h : c.wf = true) : getChannel (payloadBytes (channelFields c)) = some (c, []) := by
  obtain ⟨e, r, a, t⟩ := c
  simp only [ChannelArg.wf, Bool.and_eq_true] at h
  obtain ⟨hr, ht⟩ := h
  cases r with
  | none => simp [getChannel, channelFields, getFlag_flag, getU_u16_end ht]
  | some r =>
    have hb : fits 2 r.1 = true ∧ fits 2 r.2 = true := by simpa using hr
    simp [getChannel, channelFields, getFlag_flag, getU_u16 hb.1, getU_u16 hb.2, getU_u16_end ht]

theorem getRoute_fields {o : Option (Nat × Nat)} (h : o.all (fun x => fits 1 x.1 && fits 1 x.2) = true) :
    getRoute (payloadBytes (routeFields o)) = some (o, []) := by
  cases o with
  | none => simp [getRoute, routeFields, getU_u8_end (n := 1) rfl]
  | some x =>
    have hb : fits 1 x.1 = true ∧ fits 1 x.2 = true := by simpa using h
    simp [getRoute, routeFields, getU_u8 (n := 0) rfl, getU_u8 hb.1, getU_u8_end hb.2]

@[simp] theorem ended_nil (c : Instr) : ended c [] = some c := rfl

/-! ## The requests, by the decoder that reads their kind -/

/-- Settles O12: each field of a payload is read back, in the order in which its request names them. -/
theorem requestsReadBackAsSent : Obligations.RequestsReadBackAsSent := by
  intro i hi hw
  cases i with
  | sellCard | reloadCard | balance | redeem | placeHold | captureHold | releaseHold | extendHold | refund | voidSale | lookupReference =>
    simp only [Instr.wf, Bool.and_eq_true, and_assoc] at hw
    simp [decodeRequest, decodeFields, decodeTerminal, requestFrame, requestLink, getU_u16, getU_u32, getU_u64, getFlag_flag,
      getU_u16_end, getU_u32_end, getOpt_optFld (f := .u8) (k := 1) (fun _ => rfl),
      getOpt_optFld (f := .u64) (k := 8) (fun _ => rfl), getOpt_optFld_end (f := .u16) (k := 2) (fun _ => rfl),
      getOpt_optFld_end (f := .u32) (k := 4) (fun _ => rfl), hw]
  | cardDetail | freezeCard | unfreezeCard | closeCard | holdDetail | grantPromo | definePool | addBudget | setPoolState | poolStatus
  | journalSeek | journalRead | valueSummary =>
    simp only [Instr.wf, Bool.and_eq_true, and_assoc] at hw
    simp [decodeRequest, decodeFields, decodeValue, requestFrame, requestLink, getU_u8, getU_u64, getU_u8_end,
      getU_u16_end, getU_u32_end, getU_u64_end, getPool_fields, getSeek_fields, hw]
  | defineShop | stageSchedule | setShopState | removeShop | shopPosition | adjustCarry | clearAttention | setPayoutAccount | closePeriod
  | setScheduler | periodStatus | periodSummary =>
    simp only [Instr.wf, Bool.and_eq_true, and_assoc] at hw
    simp [decodeRequest, decodeFields, decodeShop, requestFrame, requestLink, getU_u8, getU_u16, getU_u64, getU_u8_end,
      getU_u16_end, getU_u64_end, getSchedule_fields, getPeriod_fields, getSigned_i64,
      getOpt_optFld_end (f := .u32) (k := 4) (fun _ => rfl), hw]
  | setChannel | startRun | payoutResult | suspendChannel | resumeChannel | resetChannel | channelStatus | setTime | setDay | setRollover
  | setTrading | advanceDay | timeStatus | identify | partStatus | enterConfig | openPart | restart | storeInitialise | setRoute =>
    simp only [Instr.wf, Bool.and_eq_true, and_assoc] at hw
    simp [decodeRequest, decodeFields, decodePart, requestFrame, requestLink, getU_u8, getU_u32, getU_u8_end,
      getU_u16_end, getU_u32_end, getFlag_flag_end, getChannel_fields, getRoute_fields, hw]
  | _ => exact absurd hi (by simp [isRequest])

end Sys2Proof.Proofs.RoundTrip
end

section
/-! Self-contained rules: a frame's bytes at a receiver (11 R183), the bonus limits (01 R16, R17), the close formulas (07 R128 to R132), the
tick (09 R163). -/

namespace Sys2Proof.Proofs.Engine

open Sys2Proof Sys2Proof.Machine Sys2Proof.Laws Sys2Proof.Proofs.Basics Sys2Proof.Proofs.Bounds Sys2Proof.Proofs.Buckets
  Sys2Proof.Proofs.Moves

/-! ## A frame's bytes at a receiver -/

theorem byteAt_collecting {k : LinkState} {got : List Byte} {b : Byte} {bs : List Byte} (hb : k.inBreak = false) (hg : k.partialRx = got)
    (h : receiveByte got b = .collecting bs) : byteAt k b = { k with partialRx := bs } := by
  simp [byteAt, hb, hg, h]

theorem byteAt_frame {k : LinkState} {got : List Byte} {b : Byte} {f : RxFrame} (hb : k.inBreak = false) (hg : k.partialRx = got)
    (h : receiveByte got b = .frame f) : byteAt k b = arriveAt { k with partialRx := [] } f := by
  simp [byteAt, hb, hg, h]

theorem bytesAt_cons (k : LinkState) (b : Byte) (bs : List Byte) : bytesAt k (b :: bs) = bytesAt (byteAt k b) bs := rfl

theorem bytesAt_append (k : LinkState) (as bs : List Byte) : bytesAt k (as ++ bs) = bytesAt (bytesAt k as) bs := List.foldl_append

/-- 11 R183: the bytes that the length still asks for are collected. -/
theorem bytesAt_collect (y n : Byte) (bs got : List Byte) {k : LinkState} (hb : k.inBreak = false) (hg : k.partialRx = y :: n :: got)
    (h : (got ++ bs).length < n.toNat + 2) : bytesAt k bs = { k with partialRx := y :: n :: (got ++ bs) } := by
  induction bs generalizing got k with
  | nil =>
    rw [List.append_nil, ← hg]
    rfl
  | cons b bs ih =>
    have hone : receiveByte (y :: n :: got) b = .collecting (y :: n :: (got ++ [b])) := by
      have hl : (got ++ [b]).length < n.toNat + 2 := by
        simp only [List.length_append, List.length_cons, List.length_nil] at h ⊢
        omega
      simp only [receiveByte, if_pos hl]
    have hrest := ih (k := { k with partialRx := y :: n :: (got ++ [b]) }) (got ++ [b]) hb rfl (by simpa using h)
    rw [bytesAt_cons, byteAt_collecting hb hg hone, hrest, List.append_assoc]
    rfl

/-- 11 R183: the last byte that the length asks for ends a frame whose CRC passes. -/
theorem receiveByte_last {y n c1 c0 : Byte} {body : List Byte} {f : RxFrame} (hn : n.toNat = body.length)
    (hc : putU 2 (crc (n :: body)).toNat = [c1, c0]) (hf : frameOfBody body = some f) :
    receiveByte (y :: n :: (body ++ [c1])) c0 = .frame f := by
  have hlen : ¬ (body ++ [c1] ++ [c0]).length < n.toNat + 2 := by
    simp only [List.length_append, List.length_cons, List.length_nil]
    omega
  have htake : (body ++ [c1] ++ [c0]).take n.toNat = body := by rw [hn, List.append_assoc, List.take_left]
  have hdrop : (body ++ [c1] ++ [c0]).drop n.toNat = [c1, c0] := by rw [hn, List.append_assoc, List.drop_left]; rfl
  simp only [receiveByte, if_neg hlen, htake, hdrop, hc, if_true, hf]

theorem frameOfBody_fields {f : RxFrame} (hk : f.kind < 256) (ht : f.tag < 65536) :
    frameOfBody (putU 1 f.kind ++ putU 2 f.tag ++ f.payload) = some f := by
  obtain ⟨k, t, p⟩ := f
  simp only [putU, frameOfBody, List.cons_append, List.nil_append, BitVec.toNat_ofNat, Option.some.injEq, RxFrame.mk.injEq, and_true]
  dsimp only at hk ht
  omega

/-- Settles O13: sync, length, then byte by byte the body, and the CRC that was computed over it. -/
theorem sentFrameIsReceived : Obligations.SentFrameIsReceived := by
  intro l f s hp hpart hbreak hk ht hl
  have hex : exec (.frameReceived l (rxBytes f)) s = lineEvent (fun s => s.setLink l (bytesAt (s.link l) (rxBytes f))) s := rfl
  rw [hex, lineEvent_power hp]
  refine congrArg (fun k => Host.Outcome.next (s.setLink l k)) ?_
  generalize s.link l = k at hpart hbreak ⊢
  generalize hbody : putU 1 f.kind ++ putU 2 f.tag ++ f.payload = body
  have hlen : body.length = f.payload.length + 3 := by
    rw [← hbody]
    simp only [List.length_append, putU_length]
    omega
  generalize hn : BitVec.ofNat 8 body.length = n
  have hnat : n.toNat = body.length := by
    rw [← hn, BitVec.toNat_ofNat]
    omega
  obtain ⟨c1, c0, hcrc⟩ : ∃ c1 c0, putU 2 (crc (n :: body)).toNat = [c1, c0] := ⟨_, _, rfl⟩
  have hbytes : rxBytes f = syncByte :: n :: (body ++ [c1]) ++ [c0] := by
    simp only [rxBytes, envelope, hbody, hn, hcrc]
    simp
  have h1 : byteAt k syncByte = { k with partialRx := [syncByte] } := byteAt_collecting hbreak hpart rfl
  have h2 : byteAt { k with partialRx := [syncByte] } n = { k with partialRx := [syncByte, n] } := by
    refine byteAt_collecting hbreak rfl ?_
    rw [receiveByte_length, if_pos (by simp; omega)]
  have h3 := bytesAt_collect syncByte n (body ++ [c1]) [] (k := { k with partialRx := [syncByte, n] }) hbreak rfl (by simp; omega)
  have h4 := byteAt_frame (k := { k with partialRx := syncByte :: n :: (body ++ [c1]) }) (b := c0) hbreak rfl
    (receiveByte_last hnat hcrc (hbody ▸ frameOfBody_fields hk ht))
  have hall : bytesAt k (rxBytes f) = byteAt (bytesAt (byteAt (byteAt k syncByte) n) (body ++ [c1])) c0 := by
    rw [hbytes, bytesAt_append]
    rfl
  rw [hall, h1, h2, h3, List.nil_append, h4, ← hpart]
  unfold arriveAt
  rw [if_neg (by simp [hbreak])]

/-! ## The close formulas -/

theorem roundHalfEven_nearest {n d : Nat} (hd : 0 < d) :
    2 * (roundHalfEven n d * d) ≤ 2 * n + d ∧ 2 * n ≤ 2 * (roundHalfEven n d * d) + d ∧
      (2 * (roundHalfEven n d * d) = 2 * n + d ∨ 2 * n = 2 * (roundHalfEven n d * d) + d → roundHalfEven n d % 2 = 0) := by
  have hdiv : n / d * d + n % d = n := Nat.div_add_mod' n d
  have hr := Nat.mod_lt n hd
  have hup : (n / d + 1) * d = n / d * d + d := Nat.succ_mul _ _
  unfold roundHalfEven
  dsimp only
  split
  · rw [hup]
    omega
  · split
    · omega
    · split
      · omega
      · rw [hup]
        omega

theorem max_toNat (z : Int) : (max z 0).toNat = z.toNat := by omega

theorem withinLimit_false_iff (z : Int) : withinLimit z = false ↔ clampMoney z ≠ z := by
  rw [← Bool.not_eq_true, withinLimit_iff]

/-- 07 R131: a clamp of the computation acts where one of its figures passes its limit. -/
theorem clampActs_iff (x : Shop) :
    clampActs x = true ↔ clampMoney (exactFee x.closing x.closingSchedule) ≠ exactFee x.closing x.closingSchedule ∨
      clampMoney (exactCommission x.closing x.closingSchedule) ≠ exactCommission x.closing x.closingSchedule ∨
      clampMoney (exactNet x) ≠ exactNet x := by
  simp only [clampActs, Bool.not_eq_true', Bool.and_eq_false_iff, withinLimit_false_iff, or_assoc]

theorem isHeld_iff (x : Shop) : isHeld x = true ↔ clampActs x = true ∨ x.closing.saturated = true ∨ x.attention = true := by
  simp only [isHeld, Bool.or_eq_true, or_assoc]

theorem payoutDue_eq (x : Shop) :
    payoutDue x = if ¬isHeld x = true ∧ 0 < clampMoney (exactNet x) ∧ (x.closingSchedule.minPayout : Int) ≤ clampMoney (exactNet x) then
      clampMoney (exactNet x) else 0 := by
  unfold payoutDue
  simp only [Bool.and_eq_true, Bool.not_eq_true', decide_eq_true_eq, Bool.not_eq_true, and_assoc]

theorem exec_closeComputeStep {s : State} (hp : s.power = true) (hq : quiet s = true) : exec .closeComputeStep s = .next (computeStep s) :=
  event_quiet hp hq

/-- Settles O44: the rounding by its quotient and rest, the step by its two branches. -/
theorem closeStepComputesTheShop : Obligations.CloseStepComputesTheShop := by
  refine ⟨fun n d hd => roundHalfEven_nearest hd, fun s hp hq hst => ⟨fun hm => ?_, fun hm hnone => ?_, fun hm i hi => ?_⟩⟩
  · rw [exec_closeComputeStep hp hq]
    simp [computeStep, walkAdvances, hm]
  · have hn : nextToCompute s = none := hnone
    rw [exec_closeComputeStep hp hq]
    simp [computeStep, walkAdvances, hst, hm, hn]
  · have hn : nextToCompute s = some i := hi
    rw [exec_closeComputeStep hp hq]
    have hadv : walkAdvances s = true := by simp [walkAdvances, hst, hm]
    have hclamp : ∀ z : Int, (if z > 100000000000 then (100000000000 : Int) else if z < -100000000000 then -100000000000 else z) = clampMoney z :=
      fun z => (clampMoney_eq z).symm
    simp only [hclamp]
    have hfee : (roundHalfEven ((max ((s.shop i).closing.redeemedBase - (s.shop i).closing.refundedBase +
        ((s.shop i).closing.redeemedPromo - (s.shop i).closing.refundedPromo)) 0).toNat * (s.shop i).closingSchedule.redemptionRate) 1000000 : Int) +
        (s.shop i).closing.count * (s.shop i).closingSchedule.fixedFee = exactFee (s.shop i).closing (s.shop i).closingSchedule := by
      rw [max_toNat]
      simp [exactFee, netTaken]
    have hcom : (roundHalfEven ((max ((s.shop i).closing.sold - (s.shop i).closing.voided) 0).toNat *
        (s.shop i).closingSchedule.commissionRate) 1000000 : Int) = exactCommission (s.shop i).closing (s.shop i).closingSchedule := by
      rw [max_toNat]
      rfl
    simp only [hfee, hcom]
    have hnet : (s.shop i).closing.redeemedBase - (s.shop i).closing.refundedBase +
        ((s.shop i).closing.redeemedPromo - (s.shop i).closing.refundedPromo) - ((s.shop i).closing.sold - (s.shop i).closing.voided) -
        clampMoney (exactFee (s.shop i).closing (s.shop i).closingSchedule) +
        clampMoney (exactCommission (s.shop i).closing (s.shop i).closingSchedule) - (s.shop i).closing.sponsor + (s.shop i).carry =
        exactNet (s.shop i) := rfl
    simp only [hnet, ← clampActs_iff, ← isHeld_iff, ← payoutDue_eq, Bool.decide_eq_true]
    unfold computeStep
    rw [if_pos hadv, hn]
    rfl

/-! ## The tick -/

theorem tableRead_map {α : Type} {d : α} (f : α → α) (hd : f d = d) (k : Nat) (t : Table α) :
    tableRead d k (t.map (fun e => (e.1, f e.2))) = f (tableRead d k t) := by
  unfold tableRead
  induction t with
  | nil => exact hd.symm
  | cons e t ih =>
    rw [List.map_cons]
    unfold tableGet
    split
    · rfl
    · exact ih

/-- Settles O52: the tick's four fields, record by record. -/
theorem tickCountsEveryTimer : Obligations.TickCountsEveryTimer := by
  intro s hp hq
  dsimp only
  intro hclock
  have hdue := (quiet_parts hq).2.2.2.1
  have hc : tickClock s.time.clock = if s.time.clock + 1 = 4294967296 then 0 else s.time.clock + 1 := by
    unfold tickClock
    split <;> omega
  refine ⟨tickState s, event_quiet hp hq, ?_, fun n => tableRead_map tickHold rfl n s.holds, fun n => ?_, ?_, rfl⟩
  · simp only [tickState, hc, hdue, secondOfDay, Bool.false_or]
    simp
  · exact tableRead_map tickChannel rfl n s.channels
  · simp only [tickState, countdownRuns, Bool.and_eq_true, decide_eq_true_eq, and_assoc]
    split <;> rfl

/-! ## The bonus -/

/-- 01 R16, R17: the bonus of a computed amount under a list of limits, each with its reason. -/
def limitedBonus (g0 : Nat) (ls : List (Nat × Nat)) : Bonus :=
  { amount := ls.foldl (fun m x => min m x.1) g0
    reason := if ls.foldl (fun m x => min m x.1) g0 = g0 then 0
      else ((ls.find? (fun x => x.1 = ls.foldl (fun m x => min m x.1) g0)).map (fun x => x.2)).getD 0 }

theorem bonusOf_opened {s : State} {p : Nat} (h : (s.pool p).state = .opened) (shop b : Nat) (c : Card) :
    bonusOf s p shop b c = limitedBonus (computedBonus b (s.pool p)) (bonusLimits s p shop c) := by
  unfold bonusOf
  rw [if_pos h]
  rfl

/-- 01 R16: the limits of a bonus, the last two only where they apply. -/
def limitsOf (cap left room : Nat) (full barred : Bool) : List (Nat × Nat) :=
  [(cap, 1), (left, 2), (room, 3)] ++ (if full then [(0, 4)] else []) ++ (if barred then [(0, 5)] else [])

theorem limitedBonus_amount (g0 cap left room : Nat) (full barred : Bool) :
    (limitedBonus g0 (limitsOf cap left room full barred)).amount =
      if full || barred then 0 else min (min (min g0 cap) left) room := by
  cases full <;> cases barred <;> simp [limitedBonus, limitsOf]

/-- 01 R17: FULL, or the first limit that gives the bonus. -/
theorem limitedBonus_reason (g0 cap left room : Nat) (full barred : Bool) :
    (limitedBonus g0 (limitsOf cap left room full barred)).reason =
      if (limitedBonus g0 (limitsOf cap left room full barred)).amount = g0 then 0
      else if (limitedBonus g0 (limitsOf cap left room full barred)).amount = cap then 1
      else if (limitedBonus g0 (limitsOf cap left room full barred)).amount = left then 2
      else if (limitedBonus g0 (limitsOf cap left room full barred)).amount = room then 3
      else if full then 4 else 5 := by
  have hamount := limitedBonus_amount g0 cap left room full barred
  generalize hg : (limitedBonus g0 (limitsOf cap left room full barred)).amount = g at hamount ⊢
  have hfold : (limitsOf cap left room full barred).foldl (fun m x => min m x.1) g0 = g := hg
  have hr : (limitedBonus g0 (limitsOf cap left room full barred)).reason =
      if g = g0 then 0 else (((limitsOf cap left room full barred).find? (fun x => x.1 = g)).map (fun x => x.2)).getD 0 := by
    simp only [limitedBonus, hfold]
  rw [hr]
  by_cases h0 : g = g0
  · rw [if_pos h0, if_pos h0]
  · rw [if_neg h0, if_neg h0]
    by_cases h1 : g = cap
    · simp [limitsOf, h1]
    · by_cases h2 : g = left
      · rw [if_neg h1, if_pos h2]
        have h1' : ¬cap = g := fun h => h1 h.symm
        simp [limitsOf, h2 ▸ h1', h2]
      · by_cases h3 : g = room
        · rw [if_neg h1, if_neg h2, if_pos h3]
          have h1' : ¬cap = g := fun h => h1 h.symm
          have h2' : ¬left = g := fun h => h2 h.symm
          subst h3
          simp [limitsOf, h1', h2']
        · rw [if_neg h1, if_neg h2, if_neg h3]
          have h1' : ¬cap = g := fun h => h1 h.symm
          have h2' : ¬left = g := fun h => h2 h.symm
          have h3' : ¬room = g := fun h => h3 h.symm
          have hzero : full || barred := by
            by_contra hn
            rw [if_neg hn] at hamount
            omega
          obtain rfl : 0 = g := by rw [hamount, if_pos hzero]
          cases full with
          | true => simp [limitsOf, h1', h2', h3']
          | false =>
            have hb : barred = true := by simpa using hzero
            simp [limitsOf, h1', h2', h3', hb]

/-- Settles O18: the limits as `limitsOf`, their minimum and the first that gives it. -/
theorem bonusIsTheSmallestLimit : Obligations.BonusIsTheSmallestLimit := by
  intro s p shop b c
  dsimp only
  refine ⟨fun h => by simp [bonusOf, h], fun h => ?_⟩
  have hlim : bonusLimits s p shop c = limitsOf (s.pool p).cap (available (s.pool p)) (Config.cardLimit - cardValue s c)
      (c.buckets.all (fun x => !(x.pool == p && x.expiry == grantExpiry s p)) && decide (4 ≤ c.buckets.length))
      (!maskHas (s.pool p).mask (s.shop shop).category) := by
    have hany : (!hasBucket p (grantExpiry s p) c.buckets) = c.buckets.all (fun x => !(x.pool == p && x.expiry == grantExpiry s p)) :=
      List.not_any_eq_all_not
    unfold bonusLimits limitsOf
    rw [hany]
    cases maskHas (s.pool p).mask (s.shop shop).category <;> rfl
  rw [bonusOf_opened h, hlim]
  generalize hfull : c.buckets.all (fun x => !(x.pool == p && x.expiry == grantExpiry s p)) = all
  have hroom : Config.cardLimit - cardValue s c = 5000000 - cardValue s c := rfl
  have hg0 : computedBonus b (s.pool p) = b * (s.pool p).rate / 10000 := rfl
  rw [hroom, hg0]
  have ha := limitedBonus_amount (b * (s.pool p).rate / 10000) (s.pool p).cap (available (s.pool p)) (5000000 - cardValue s c)
    (all && decide (4 ≤ c.buckets.length)) (!maskHas (s.pool p).mask (s.shop shop).category)
  have hr := limitedBonus_reason (b * (s.pool p).rate / 10000) (s.pool p).cap (available (s.pool p)) (5000000 - cardValue s c)
    (all && decide (4 ≤ c.buckets.length)) (!maskHas (s.pool p).mask (s.shop shop).category)
  simp only [Bool.or_eq_true, Bool.and_eq_true, decide_eq_true_eq, Bool.not_eq_true'] at ha
  rw [hr]
  generalize (limitedBonus _ _).amount = g at ha ⊢
  have hle : g ≤ min (min (min (b * (s.pool p).rate / 10000) (s.pool p).cap) (available (s.pool p))) (5000000 - cardValue s c) := by
    rw [ha]
    split
    · exact Nat.zero_le _
    · exact Nat.le_refl _
  refine ⟨by omega, by omega, by omega, by omega, fun hz => by rw [ha, if_pos hz], fun hp hb => by rw [ha, if_neg (not_or.2 ⟨hp, hb⟩)], rfl⟩

end Sys2Proof.Proofs.Engine
end

section
/-! What the rule of a request does, told apart from the links: the state it leaves, its answer, and its notices before and after the
reply. -/

namespace Sys2Proof.Proofs.Rules

open Sys2Proof Sys2Proof.Machine Sys2Proof.Laws Sys2Proof.Proofs.Links Sys2Proof.Proofs.Bounds Sys2Proof.Proofs.Steps

/-! ## Figures and operations not read from the links -/

theorem linkFree_const {α : Type} (a : α) : LinkFree (fun _ => a) := fun _ _ _ => rfl

/-- A figure of the state that an operation leaves. -/
theorem linkFree_after {α : Type} {f : State → α} {G : State → State} (hf : LinkFree f) (hG : Silent G) : LinkFree (fun s => f (G s)) :=
  fun k k' s => by
    change f (G (withLinks k k' s)) = f (G s)
    rw [hG.carries, hf]

/-- A figure of the state and of another figure. -/
theorem linkFree_bind {α β : Type} {f : α → State → β} {g : State → α} (hg : LinkFree g) (hf : ∀ a, LinkFree (f a)) :
    LinkFree (fun s => f (g s) s) := fun k k' s => by
  change f (g (withLinks k k' s)) (withLinks k k' s) = f (g s) s
  rw [hg, hf]

/-- An answer OK is as free of the links as its payload. -/
theorem linkFree_okay {A : State → List Fld} (h : LinkFree A) : LinkFree (fun s => (⟨.ok, A s⟩ : Answer)) :=
  fun k k' s => congrArg (Answer.mk .ok) (h k k' s)

/-! ## What a rule does -/

/-- A rule leaves the state `G`, having given the notices `N`, answers `A`, and gives the notices `M` after the reply. -/
structure Told (rule : State → Done) (G : State → State) (N : State → List Notice) (A : State → Answer)
    (M : State → List Notice) : Prop where
  eq : ∀ s, rule s = { state := giveNotices (N s) (G s), answer := some (A s), after := M s }
  silent : Silent G
  before : LinkFree N
  answer : LinkFree A
  after : LinkFree M

/-- An effect that gives no notice. -/
theorem told_okay {G : State → State} {A : State → List Fld} (hG : Silent G) (hA : LinkFree A) :
    Told (fun s => okay (G s) (A s)) G (fun _ => []) (fun s => ⟨.ok, A s⟩) (fun _ => []) :=
  ⟨fun _ => rfl, hG, linkFree_const _, (linkFree_okay hA), linkFree_const _⟩

/-- An effect that gives no notice and answers by its own code. -/
theorem told_plain {G : State → State} {A : State → Answer} (hG : Silent G) (hA : LinkFree A) :
    Told (fun s => { state := G s, answer := some (A s) }) G (fun _ => []) A (fun _ => []) :=
  ⟨fun _ => rfl, hG, linkFree_const _, hA, linkFree_const _⟩

/-- An effect that gives notices before its reply. -/
theorem told_notifies {F G : State → State} {N : State → List Notice} {A : State → Answer} (hF : Notifies F G N) (hA : LinkFree A) :
    Told (fun s => { state := F s, answer := some (A s) }) G N A (fun _ => []) :=
  ⟨fun s => by rw [hF.eq], hF.silent, hF.news, hA, linkFree_const _⟩

/-- An effect that writes an entry last. -/
theorem told_entry {P : State → State} {e : State → Entry} {A : State → Answer} (hP : Silent P) (he : LinkFree e) (hA : LinkFree A) :
    Told (fun s => { state := writeEntry (e s) (P s), answer := some (A s) }) (fun s => entered (e s) (P s))
      (fun s => enteredNotices (e s) (P s)) A (fun _ => []) where
  eq _ := rfl
  silent := Silent.of_cases (F := fun x s => entered x (P s)) he (fun x => (silent_entered x).comp hP)
  before := linkFree_bind (f := fun x s => enteredNotices x (P s)) he (fun x => linkFree_after (notifies_writeEntry x).news hP)
  answer := hA
  after := linkFree_const _

/-- A rule whose checks do not read the links. -/
theorem told_ruled {cs : State → List Check} {e : State → Done} {G : State → State} {N : State → List Notice} {A : State → Answer}
    {M : State → List Notice} (hc : LinkFree (fun s => firstFailing (cs s))) (he : Told e G N A M) :
    Told (fun s => ruled (cs s) (e s) s)
      (fun s => match firstFailing (cs s) with | some _ => s | none => G s)
      (fun s => match firstFailing (cs s) with | some _ => [] | none => N s)
      (fun s => match firstFailing (cs s) with | some a => a | none => A s)
      (fun s => match firstFailing (cs s) with | some _ => [] | none => M s) where
  eq s := by
    unfold ruled
    cases firstFailing (cs s) with
    | some a => rfl
    | none => exact he.eq s
  silent := Silent.of_cases (F := fun o s => match o with | some _ => s | none => G s) hc
    (fun o => by cases o with | some a => exact Silent.id | none => exact he.silent)
  before := linkFree_bind (f := fun o s => match o with | some _ => [] | none => N s) hc
    (fun o => by cases o with | some a => exact linkFree_const _ | none => exact he.before)
  answer := linkFree_bind (f := fun o s => match o with | some a => a | none => A s) hc
    (fun o => by cases o with | some a => exact linkFree_const _ | none => exact he.answer)
  after := linkFree_bind (f := fun o s => match o with | some _ => [] | none => M s) hc
    (fun o => by cases o with | some a => exact linkFree_const _ | none => exact he.after)

/-! ## A rule carried out -/

/-- What stands after a request of a link that has been carried out. -/
def carried (l : Link) (kind tag : Nat) (G : State → State) (N : State → List Notice) (A : State → Answer) (M : State → List Notice)
    (s : State) : State :=
  giveNotices (M s) (replied l kind tag (A s) (giveNotices (N s) (begun l kind tag (G s))))

/-- A reply replaces whatever request is in progress. -/
theorem replied_begun (l : Link) (kind tag k m : Nat) (a : Answer) (s : State) :
    replied l kind tag a (begun l k m s) = replied l kind tag a s := by cases l <;> rfl

theorem carried_plain (l : Link) (kind tag : Nat) (G : State → State) (A : State → Answer) (s : State) :
    carried l kind tag G (fun _ => []) A (fun _ => []) s = replied l kind tag (A s) (G s) := replied_begun l kind tag kind tag _ _

@[simp] theorem giveNotices_link_busy (ns : List Notice) (s : State) (l : Link) :
    ((giveNotices ns s).link l).busy = (s.link l).busy := by
  rw [giveNotices_eq]
  have h : ∀ (m : Link) (k : LinkState), (ns.foldl (hear s.ctrl.draining s.routes m) k).busy = k.busy := fun m k =>
    foldl_keeps (fun k => k.busy) _ (fun k n => by
      unfold hear queueNotice
      split
      · split <;> rfl
      · rfl) ns k
  cases l
  · exact h .t s.tLink
  · exact h .a s.aLink

/-- 11 R185 to R187: the reply of the request that is in progress on a link. -/
theorem placeReply_of_busy {l : Link} {kind tag : Nat} {s : State} (a : Answer)
    (h : (s.link l).busy = some { kind := kind, tag := tag, discard := false }) : placeReply l a s = replied l kind tag a s := by
  have hs : s = begun l kind tag s := by
    unfold begun
    rw [← h]
    cases l <;> rfl
  conv_lhs => rw [hs]
  exact placeReply_begun l kind tag a s

/-- What a rule that answers ends in. -/
theorem finish_answered (l : Link) (s : State) (a : Answer) (ms : List Notice) :
    finish l { state := s, answer := some a, after := ms } = giveNotices ms (placeReply l a s) := rfl

/-- A rule, met by a request in progress. -/
structure Answers (l : Link) (rule : State → Done) (G : State → State) (N : State → List Notice) (A : State → Answer)
    (M : State → List Notice) : Prop where
  eq : ∀ kind tag s, rule (begun l kind tag s) =
    { state := giveNotices (N s) (begun l kind tag (G s)), answer := some (A s), after := M s }

theorem Told.answers {rule : State → Done} {G : State → State} {N : State → List Notice} {A : State → Answer}
    {M : State → List Notice} (h : Told rule G N A M) (l : Link) : Answers l rule G N A M :=
  ⟨fun kind tag s => by rw [h.eq, h.before.begun, h.silent.carries.begun, h.answer.begun, h.after.begun]⟩

/-- A request that arrives on a ready link and passes the permission and mode checks is carried out. -/
theorem Answers.exec {c : Instr} {rule : State → Done} {G : State → State} {N : State → List Notice} {A : State → Answer}
    {M : State → List Notice} (h : Answers (requestLink c) rule G N A M) {s : State} (hr : ready (requestLink c) s = true)
    (hm : linkAndModeCheck (requestLink c) (requestFrame c).kind s = none) :
    takeRequest c rule s = .next (carried (requestLink c) (requestFrame c).kind (requestFrame c).tag G N A M s) := by
  rw [takeRequest_ready hr, carryOut_pass (by simpa using hm), h.eq, finish_answered,
    placeReply_of_busy (kind := (requestFrame c).kind) (tag := (requestFrame c).tag), carried]
  rw [giveNotices_link_busy, begun, setLink_link_same]

/-- A rule whose checks pass is carried out. -/
theorem Told.passed {c : Instr} {cs : State → List Check} {e : State → Done} {G : State → State} {N : State → List Notice}
    {A : State → Answer} {M : State → List Notice} (he : Told e G N A M) {s : State} (hr : ready (requestLink c) s = true)
    (hm : linkAndModeCheck (requestLink c) (requestFrame c).kind s = none) (hc : LinkFree (fun s => firstFailing (cs s)))
    (hp : firstFailing (cs s) = none) :
    takeRequest c (fun s => ruled (cs s) (e s) s) s =
      .next (carried (requestLink c) (requestFrame c).kind (requestFrame c).tag G N A M s) := by
  rw [((told_ruled hc he).answers _).exec hr hm]
  simp only [carried, hp]

/-- A rule whose check fails answers, and nothing else changes. -/
theorem refused {c : Instr} {cs : State → List Check} {e : State → Done} {a : Answer} {s : State}
    (hr : ready (requestLink c) s = true) (hm : linkAndModeCheck (requestLink c) (requestFrame c).kind s = none)
    (hc : LinkFree (fun s => firstFailing (cs s))) (hf : firstFailing (cs s) = some a) :
    takeRequest c (fun s => ruled (cs s) (e s) s) s =
      .next (replied (requestLink c) (requestFrame c).kind (requestFrame c).tag a s) := by
  rw [takeRequest_ready hr, carryOut_pass (by simpa using hm), ruled_fail (a := a) (by rw [hc.begun, hf]), answered, finish_plain,
    placeReply_begun]

/-- What a rule does on a state that its checks refuse or that has no check. -/
theorem Told.free {c : Instr} {rule : State → Done} {G : State → State} {N : State → List Notice} {A : State → Answer}
    {M : State → List Notice} (he : Told rule G N A M) {s : State} (hr : ready (requestLink c) s = true)
    (hm : linkAndModeCheck (requestLink c) (requestFrame c).kind s = none) :
    takeRequest c rule s = .next (carried (requestLink c) (requestFrame c).kind (requestFrame c).tag G N A M s) :=
  (he.answers _).exec hr hm

end Sys2Proof.Proofs.Rules
end

section
/-! What the rule of every request does, told apart from the links. -/

namespace Sys2Proof.Proofs.Requests

open Sys2Proof Sys2Proof.Machine Sys2Proof.Laws Sys2Proof.Proofs.Links Sys2Proof.Proofs.Bounds Sys2Proof.Proofs.Steps
  Sys2Proof.Proofs.Rules

/-! ## Figures that are not read from the links -/

theorem walkSplit_withLinks (k k' : LinkState) (s : State) (shop a : Nat) (bs : List Bucket) :
    walkSplit (withLinks k k' s) shop a bs = walkSplit s shop a bs := by
  induction bs generalizing a with
  | nil => rfl
  | cons b bs ih =>
    have he : eligible (withLinks k k' s) shop b = eligible s shop b := rfl
    simp only [walkSplit, he, ih]

theorem splitOf_withLinks (k k' : LinkState) (s : State) (shop a : Nat) (c : Card) :
    splitOf (withLinks k k' s) shop a c = splitOf s shop a c := by simp only [splitOf, walkSplit_withLinks]

theorem afterSplit_withLinks (k k' : LinkState) (s : State) (shop a : Nat) (c : Card) :
    afterSplit (withLinks k k' s) shop a c = afterSplit s shop a c := by simp only [afterSplit, walkSplit_withLinks]

theorem pendingOfReturn_withLinks (k k' : LinkState) (s : State) (x : Split) (c : Card) :
    pendingOfReturn (withLinks k k' s) x c = pendingOfReturn s x c := by simp only [pendingOfReturn, returnPromo_withLinks]

theorem placeShares_withLinks (k k' : LinkState) (s : State) (ps : List (EntryPart × Nat)) (bs : List Bucket) :
    placeShares (withLinks k k' s) ps bs = placeShares s ps bs := by
  induction ps generalizing bs with
  | nil => rfl
  | cons p ps ih =>
    obtain ⟨p, a⟩ := p
    have hp : placeShare (withLinks k k' s) = placeShare s := rfl
    simp only [placeShares, hp, ih]

theorem placement_withLinks (k k' : LinkState) (s : State) (e : Entry) (r : Nat) (c : Card) :
    placement (withLinks k k' s) e r c = placement s e r c := placeShares_withLinks k k' s _ _

/-! ## Sale and reload -/

/-- 01 R13, R14: the card of a purchase, its bonus credited. -/
def boughtCard (s : State) (pool : Option Nat) (shop amount : Nat) (c : Card) : Card :=
  match pool with
  | some p => creditBonus s p (bonusOf s p shop amount c) c
  | none => c

/-- 01 R13, R14: the entry of a purchase. -/
def boughtEntry (s : State) (k : EntryKind) (id shop amount : Nat) (pool : Option Nat) (ref : Nat) (c : Card) : Entry :=
  purchaseEntry s k id shop amount ref (grantedParts s pool (grantedAmount s pool shop amount c))

/-- 01 R13, R14: the reply of a purchase. -/
def boughtFlds (s : State) (pool : Option Nat) (shop amount : Nat) (c : Card) : List Fld :=
  [Fld.u32 s.journal.next, .u32 (boughtCard s pool shop amount c).base, .u32 (cardValue s (boughtCard s pool shop amount c))] ++
    grantedFlds s pool shop amount c

theorem purchase_eq (k : EntryKind) (id shop amount : Nat) (pool : Option Nat) (ref : Nat) (c : Card) (s : State) :
    purchase k id shop amount pool ref c s =
      { state := writeEntry (boughtEntry s k id shop amount pool ref c) (s.setCard id (boughtCard s pool shop amount c))
        answer := some ⟨.ok, boughtFlds s pool shop amount c⟩ } := by cases pool <;> rfl

theorem told_purchase (k : EntryKind) (id shop amount : Nat) (pool : Option Nat) (ref : Nat) {c : State → Card} (hc : LinkFree c) :
    Told (fun s => purchase k id shop amount pool ref (c s) s)
      (fun s => entered (boughtEntry s k id shop amount pool ref (c s)) (s.setCard id (boughtCard s pool shop amount (c s))))
      (fun s => enteredNotices (boughtEntry s k id shop amount pool ref (c s)) (s.setCard id (boughtCard s pool shop amount (c s))))
      (fun s => ⟨.ok, boughtFlds s pool shop amount (c s)⟩) (fun _ => []) := by
  have h := told_entry (P := fun s => s.setCard id (boughtCard s pool shop amount (c s)))
    (e := fun s => boughtEntry s k id shop amount pool ref (c s)) (A := fun s => ⟨.ok, boughtFlds s pool shop amount (c s)⟩)
    (silent_setCard id (linkFree_bind (f := fun c s => boughtCard s pool shop amount c) hc fun a => by
      cases pool <;> exact fun _ _ _ => rfl))
    (linkFree_bind (f := fun c s => boughtEntry s k id shop amount pool ref c) hc fun a => by cases pool <;> exact fun _ _ _ => rfl)
    (linkFree_bind (f := fun c s => (⟨.ok, boughtFlds s pool shop amount c⟩ : Answer)) hc fun a => by
      cases pool <;> exact fun _ _ _ => rfl)
  simpa only [purchase_eq] using h

/-! ## Redemption and holds -/

/-- 02 R24: the split of a redemption or hold. -/
def takenSplit (s : State) (id shop amount : Nat) : Split := splitOf s shop (takenAmount s shop amount (s.card id)) (s.card id)

/-- 01 R10: the card less that split. -/
def takenCard (s : State) (id shop amount : Nat) : Card := afterSplit s shop (takenAmount s shop amount (s.card id)) (s.card id)

theorem takenSplit_withLinks (k k' : LinkState) (s : State) (id shop amount : Nat) :
    takenSplit (withLinks k k' s) id shop amount = takenSplit s id shop amount := splitOf_withLinks k k' s shop _ _

theorem takenCard_withLinks (k k' : LinkState) (s : State) (id shop amount : Nat) :
    takenCard (withLinks k k' s) id shop amount = takenCard s id shop amount := afterSplit_withLinks k k' s shop _ _

theorem linkFree_tidyCard {c : State → Card} (hc : LinkFree c) : LinkFree (fun s => tidyCard s (c s)) :=
  linkFree_bind (f := fun c s => tidyCard s c) hc fun _ _ _ _ => rfl

/-- 02 R24: the reply of a redemption. -/
def redeemAnswer (id shop amount : Nat) (s : State) : Answer :=
  { code := takenCode s shop amount (s.card id)
    payload := [Fld.u32 s.journal.next, .u32 (takenAmount s shop amount (s.card id))] ++ splitFlds (takenSplit s id shop amount) ++
      [Fld.u32 (tidyCard s (takenCard s id shop amount)).base, .u32 (cardValue s (tidyCard s (takenCard s id shop amount)))] }

theorem linkFree_redeemAnswer (id shop amount : Nat) : LinkFree (redeemAnswer id shop amount) := fun k k' s => by
  unfold redeemAnswer
  rw [takenSplit_withLinks, takenCard_withLinks]
  rfl

theorem told_redeem (id shop amount ref : Nat) :
    Told (redeemEffect id shop amount ref)
      (fun s => entered (redemptionEntry s .redeem id shop ref (takenSplit s id shop amount))
        (s.setCard id (tidyCard s (takenCard s id shop amount))))
      (fun s => enteredNotices (redemptionEntry s .redeem id shop ref (takenSplit s id shop amount))
        (s.setCard id (tidyCard s (takenCard s id shop amount))))
      (redeemAnswer id shop amount) (fun _ => []) :=
  told_entry (silent_setCard id (linkFree_tidyCard fun k k' s => takenCard_withLinks k k' s id shop amount))
    (linkFree_bind (f := fun x s => redemptionEntry s .redeem id shop ref x)
      (fun k k' s => takenSplit_withLinks k k' s id shop amount) fun _ _ _ _ => rfl)
    (linkFree_redeemAnswer id shop amount)

/-- 02 R30: the card of a hold placed. -/
def holdingCard (s : State) (id shop amount : Nat) : Card :=
  { takenCard s id shop amount with
    holds := (takenCard s id shop amount).holds ++ [⟨s.lowestFreeHoldSlot, (s.holdSlot s.lowestFreeHoldSlot).gen⟩] }

/-- 02 R30: the state after a hold is placed. -/
def holdPlaced (id shop amount ref : Nat) (s : State) : State :=
  (s.setCard id (holdingCard s id shop amount)).setHoldSlot s.lowestFreeHoldSlot
    { s.holdSlot s.lowestFreeHoldSlot with hold := some (placedHold s id shop ref (takenSplit s id shop amount)) }

/-- 02 R30: the reply of PLACE_HOLD. -/
def placeAnswer (id shop amount ref : Nat) (s : State) : Answer :=
  { code := takenCode s shop amount (s.card id)
    payload := holdRefFlds s.lowestFreeHoldSlot (s.holdSlot s.lowestFreeHoldSlot).gen ++
      [Fld.u32 (placedHold s id shop ref (takenSplit s id shop amount)).total] ++ splitFlds (takenSplit s id shop amount) ++
      [Fld.u16 (placedHold s id shop ref (takenSplit s id shop amount)).remaining,
       .u32 (spendable s shop (holdingCard s id shop amount))] }

theorem holdingCard_withLinks (k k' : LinkState) (s : State) (id shop amount : Nat) :
    holdingCard (withLinks k k' s) id shop amount = holdingCard s id shop amount := by
  simp only [holdingCard, takenCard_withLinks]
  rfl

theorem linkFree_placeAnswer (id shop amount ref : Nat) : LinkFree (placeAnswer id shop amount ref) := fun k k' s => by
  unfold placeAnswer
  rw [takenSplit_withLinks, holdingCard_withLinks]
  rfl

theorem silent_holdPlaced (id shop amount ref : Nat) : Silent (holdPlaced id shop amount ref) :=
  ⟨fun k k' s => by
    unfold holdPlaced
    rw [takenSplit_withLinks, holdingCard_withLinks]
    rfl, fun _ => rfl, fun _ => rfl⟩

theorem told_place (id shop amount ref : Nat) :
    Told (placeEffect id shop amount ref) (holdPlaced id shop amount ref) (fun _ => []) (placeAnswer id shop amount ref)
      (fun _ => []) :=
  told_plain (silent_holdPlaced id shop amount ref) (linkFree_placeAnswer id shop amount ref)

/-- 02 R36: what the release of a hold sends to pending expiry. -/
def releasedParts (s : State) (n : Nat) : List (Nat × Nat) := pendingOfReturn s (s.hold n).parts (s.card (s.hold n).card)

/-- 02 R36: the state after a release. -/
def holdReleased (n : Nat) (s : State) : State := endHold n (s.hold n).parts .released s

/-- 02 R36: the reply of RELEASE_HOLD. -/
def releaseFlds36 (n shop : Nat) (s : State) : List Fld :=
  [Fld.u32 ((s.hold n).total - pendingSum (releasedParts s n))] ++ pendingFlds (releasedParts s n) ++
    [Fld.u32 (spendable (holdReleased n s) shop ((holdReleased n s).card (s.hold n).card))]

theorem silent_holdReleased (n : Nat) : Silent (holdReleased n) := silent_endHold n (fun _ _ _ => rfl) .released

theorem linkFree_releaseFlds36 (n shop : Nat) : LinkFree (releaseFlds36 n shop) := fun k k' s => by
  have hp : releasedParts (withLinks k k' s) n = releasedParts s n := pendingOfReturn_withLinks k k' s _ _
  unfold releaseFlds36
  rw [hp, (silent_holdReleased n).carries]
  rfl

theorem told_release (n shop : Nat) :
    Told (releaseEffect n shop) (holdReleased n) (fun _ => []) (fun s => ⟨.ok, releaseFlds36 n shop s⟩) (fun _ => []) :=
  told_okay (silent_holdReleased n) (linkFree_releaseFlds36 n shop)

/-- 02 R38: what a capture returns. -/
def capturedBack (s : State) (n amount : Nat) : Split := remainder amount (s.hold n).parts

/-- 02 R38: what a capture sends to pending expiry. -/
def capturedGone (s : State) (n amount : Nat) : List (Nat × Nat) :=
  pendingOfReturn s (capturedBack s n amount) (s.card (s.hold n).card)

/-- 02 R38: the state with the hold captured, before the entry. -/
def holdCaptured (n amount : Nat) (s : State) : State := endHold n (capturedBack s n amount) .captured s

/-- 02 R39: the reply of CAPTURE_HOLD. -/
def captureFlds (n amount : Nat) (s : State) : List Fld :=
  [Fld.u32 s.journal.next] ++ splitFlds (consumed amount (s.hold n).parts) ++
    [Fld.u32 (splitTotal (capturedBack s n amount) - pendingSum (capturedGone s n amount))] ++ pendingFlds (capturedGone s n amount) ++
    [Fld.u32 ((holdCaptured n amount s).card (s.hold n).card).base,
     .u32 (cardValue (holdCaptured n amount s) ((holdCaptured n amount s).card (s.hold n).card))]

theorem silent_holdCaptured (n amount : Nat) : Silent (holdCaptured n amount) := silent_endHold n (fun _ _ _ => rfl) .captured

theorem linkFree_captureFlds (n amount : Nat) : LinkFree (captureFlds n amount) := fun k k' s => by
  have hp : capturedGone (withLinks k k' s) n amount = capturedGone s n amount := pendingOfReturn_withLinks k k' s _ _
  unfold captureFlds
  rw [hp, (silent_holdCaptured n amount).carries]
  rfl

theorem told_capture (n shop amount : Nat) (ref : Option Nat) :
    Told (captureEffect n shop amount ref)
      (fun s => entered (redemptionEntry s .capture (s.hold n).card shop (ref.getD (s.hold n).ref) (consumed amount (s.hold n).parts))
        (holdCaptured n amount s))
      (fun s => enteredNotices
        (redemptionEntry s .capture (s.hold n).card shop (ref.getD (s.hold n).ref) (consumed amount (s.hold n).parts))
        (holdCaptured n amount s))
      (fun s => ⟨.ok, captureFlds n amount s⟩) (fun _ => []) :=
  told_entry (A := fun s => ⟨.ok, captureFlds n amount s⟩) (silent_holdCaptured n amount) (fun _ _ _ => rfl)
    (linkFree_okay (linkFree_captureFlds n amount))

theorem told_extend (n shop : Nat) :
    Told (extendEffect n shop)
      (fun s => s.setHoldSlot n { s.holdSlot n with hold := some (extendedHold s shop (s.hold n)) }) (fun _ => [])
      (fun s => ⟨.ok, [Fld.u16 (extendedHold s shop (s.hold n)).remaining, .u8 (extendedHold s shop (s.hold n)).extensions]⟩)
      (fun _ => []) :=
  told_okay (silent_setHoldSlot (n := fun _ => n) (linkFree_const _) fun _ _ _ => rfl) fun _ _ _ => rfl

/-! ## Refunds and voids -/

/-- 03 R50, R51: the destination of a refund. -/
def refundDest (s : State) (original shop : Nat) (target : Option Nat) : Card :=
  destCard s (destination (s.entry original) target) shop

/-- 03 R56, R57: the state with the shares placed and the original grown, before the entry. -/
def refundPlaced (original shop amount : Nat) (target : Option Nat) (s : State) : State :=
  amendEntry original (grownOriginal amount) (s.setCard (destination (s.entry original) target)
    (refundedCard s (s.entry original) amount (refundDest s original shop target)))

/-- 03 R59: the reply of REFUND. -/
def refundFlds (original shop amount : Nat) (target : Option Nat) (s : State) : List Fld :=
  [Fld.u32 s.journal.next, .u64 (destination (s.entry original) target),
    .flag (s.card? (destination (s.entry original) target)).isNone, .i64 (baseShare (s.entry original) amount)] ++
    listFlds ((placement s (s.entry original) amount (refundDest s original shop target)).1.map shareFlds) ++
    [Fld.u32 (refundedCard s (s.entry original) amount (refundDest s original shop target)).base,
     .u32 (cardValue s (refundedCard s (s.entry original) amount (refundDest s original shop target))),
     .u32 (refundRemainder (s.entry original) - amount).toNat]

theorem refundedCard_withLinks (k k' : LinkState) (s : State) (e : Entry) (r : Nat) (c : Card) :
    refundedCard (withLinks k k' s) e r c = refundedCard s e r c := by simp only [refundedCard, placement_withLinks]

theorem refundDest_withLinks (k k' : LinkState) (s : State) (original shop : Nat) (target : Option Nat) :
    refundDest (withLinks k k' s) original shop target = refundDest s original shop target := rfl

theorem silent_refundPlaced (original shop amount : Nat) (target : Option Nat) : Silent (refundPlaced original shop amount target) :=
  ⟨fun k k' s => by
    simp only [refundPlaced, refundDest_withLinks, refundedCard_withLinks]
    rfl, fun _ => rfl, fun _ => rfl⟩

theorem linkFree_refundFlds (original shop amount : Nat) (target : Option Nat) : LinkFree (refundFlds original shop amount target) :=
  fun k k' s => by
    simp only [refundFlds, refundDest_withLinks, placement_withLinks, refundedCard_withLinks]
    rfl

theorem linkFree_refundEntry (original shop amount : Nat) (target : Option Nat) (ref : Nat) :
    LinkFree (fun s => refundEntry s original shop amount target ref (refundDest s original shop target)) := fun k k' s => by
  simp only [refundEntry, placement_withLinks]
  rfl

theorem told_refund (original shop amount : Nat) (target : Option Nat) (ref : Nat) :
    Told (refundEffect original shop amount target ref)
      (fun s => entered (refundEntry s original shop amount target ref (refundDest s original shop target))
        (refundPlaced original shop amount target s))
      (fun s => enteredNotices (refundEntry s original shop amount target ref (refundDest s original shop target))
        (refundPlaced original shop amount target s))
      (fun s => ⟨.ok, refundFlds original shop amount target s⟩) (fun _ => []) :=
  told_entry (silent_refundPlaced original shop amount target) (linkFree_refundEntry original shop amount target ref)
    (linkFree_okay (linkFree_refundFlds original shop amount target))

/-- 03 R64: the card of a void. -/
def voidCard (original : Nat) (s : State) : Card := voidedCard s (s.entry original) (s.card (entryCard (s.entry original)))

/-- 03 R64: the state with the card drained and the original marked, before the entry. -/
def voidMarked (original : Nat) (s : State) : State :=
  amendEntry original (fun x => { x with voided := some true }) (s.setCard (entryCard (s.entry original)) (voidCard original s))

/-- 03 R64: the reply of VOID_SALE. -/
def voidFlds (original : Nat) (s : State) : List Fld :=
  [Fld.u32 s.journal.next, .u32 (basePart (s.entry original)).toNat, .u32 (partsSum (s.entry original)),
   .u8 (cardStateCode (voidCard original s).state), .u32 (cardValue s (voidCard original s))]

theorem told_void (original shop ref : Nat) :
    Told (voidEffect original shop ref)
      (fun s => entered (voidEntry s original shop ref) (voidMarked original s))
      (fun s => enteredNotices (voidEntry s original shop ref) (voidMarked original s))
      (fun s => ⟨.ok, voidFlds original s⟩) (fun _ => []) :=
  told_entry ⟨fun _ _ _ => rfl, fun _ => rfl, fun _ => rfl⟩ (fun _ _ _ => rfl) (fun _ _ _ => rfl)

/-! ## Pools -/

/-- 04 R75: the state with a grant credited, before the entry. -/
def grantCredited (id pool amount : Nat) (s : State) : State := s.setCard id (grantedCard s pool amount (s.card id))

/-- 04 R75: the reply of GRANT_PROMO. -/
def grantFlds (id pool amount : Nat) (s : State) : List Fld :=
  [Fld.u32 s.journal.next, .u16 (grantExpiry s pool), .u32 (cardValue s (grantedCard s pool amount (s.card id))),
   .u64 (available ((entered (grantEntry s id pool amount) (grantCredited id pool amount s)).pool pool))]

theorem silent_grantCredited (id pool amount : Nat) : Silent (grantCredited id pool amount) := silent_setCard id fun _ _ _ => rfl

theorem grantEffect_eq (id pool amount : Nat) (s : State) :
    grantEffect id pool amount s =
      { state := writeEntry (grantEntry s id pool amount) (grantCredited id pool amount s)
        answer := some ⟨.ok, grantFlds id pool amount s⟩ } := by
  have h : (writeEntry (grantEntry s id pool amount) (grantCredited id pool amount s)).pool pool =
      (entered (grantEntry s id pool amount) (grantCredited id pool amount s)).pool pool := by
    rw [(notifies_writeEntry _).eq]
    exact LinkFree.giveNotices (f := fun s => s.pool pool) (fun _ _ _ => rfl) _ _
  unfold grantEffect grantFlds
  rw [← h]
  rfl

theorem linkFree_grantFlds (id pool amount : Nat) : LinkFree (grantFlds id pool amount) := fun k k' s => by
  have he : grantEntry (withLinks k k' s) id pool amount = grantEntry s id pool amount := rfl
  unfold grantFlds
  rw [he, (silent_grantCredited id pool amount).carries, (silent_entered _).carries]
  rfl

theorem told_grant (id pool amount : Nat) :
    Told (grantEffect id pool amount)
      (fun s => entered (grantEntry s id pool amount) (grantCredited id pool amount s))
      (fun s => enteredNotices (grantEntry s id pool amount) (grantCredited id pool amount s))
      (fun s => ⟨.ok, grantFlds id pool amount s⟩) (fun _ => []) := by
  have h := told_entry (P := grantCredited id pool amount) (e := fun s => grantEntry s id pool amount)
    (A := fun s => ⟨.ok, grantFlds id pool amount s⟩) (silent_grantCredited id pool amount) (fun _ _ _ => rfl)
    (linkFree_okay (linkFree_grantFlds id pool amount))
  exact ⟨fun s => (grantEffect_eq id pool amount s).trans (h.eq s), h.silent, h.before, h.answer, h.after⟩

theorem notifies_changePool (p : Nat) {x : State → Pool} (hx : LinkFree x) :
    Notifies (fun s => changePool p (x s) s) (fun s => s.setPool p (x s)) (fun s => poolLowEdges s (s.setPool p (x s))) :=
  ⟨fun _ => rfl, silent_setPool p hx, fun k k' s => by rw [hx]; rfl⟩

theorem told_changePool (p : Nat) {x : State → Pool} {A : State → List Fld} (hx : LinkFree x) (hA : LinkFree A) :
    Told (fun s => okay (changePool p (x s) s) (A s)) (fun s => s.setPool p (x s)) (fun s => poolLowEdges s (s.setPool p (x s)))
      (fun s => ⟨.ok, A s⟩) (fun _ => []) :=
  told_notifies (A := fun s => ⟨.ok, A s⟩) (notifies_changePool p hx) (linkFree_okay hA)

/-! ## The release and its test -/

/-- 07 R138: the RUN_DONE notices of the channels listed, where their runs end. -/
def runsDone (period : Nat) : List Nat → State → List Notice
  | [], _ => []
  | n :: ns, s =>
    (if (s.channel n).state = .running then [runDoneNotice s n (s.channel n) period] else []) ++ runsDone period ns (stopOne s n)

theorem notifies_endRuns (period : Nat) : Notifies (endRuns period) stopRuns (runsDone period (List.range Config.channelCount)) := by
  have h : ∀ ns : List Nat, Notifies
      (fun s => ns.foldl (fun s n => if (s.channel n).state = .running then endRun n period s else s) s)
      (fun s => ns.foldl stopOne s) (runsDone period ns) := by
    intro ns
    induction ns with
    | nil => exact Silent.id.notifies
    | cons n ns ih => exact ih.comp (notifies_stopOne period n)
  exact h _

theorem linkFree_releasePart : LinkFree releasePart := fun _ _ _ => rfl

theorem silent_releasedBlocks : Silent releasedBlocks where
  carries k k' s := by
    unfold releasedBlocks
    rw [silent_releaseShops.carries, linkFree_releasePart]
    rfl
  draining s := by
    have := silent_releaseShops.draining s
    exact this
  routes s := by
    have := silent_releaseShops.routes s
    exact this

/-- 07 R138: the state that the release leaves, apart from the links. -/
def releaseState (s : State) : State := takePending (stopRuns (releasedBlocks s))

/-- 07 R138, 05 R92: the notices of the release. -/
def releaseNews (s : State) : List Notice :=
  reserveEdge s (releasedBlocks s) ++ runsDone s.period.closing (List.range Config.channelCount) (releasedBlocks s)

theorem notifies_release : Notifies release releaseState releaseNews where
  eq s := by
    rw [release_eq, (notifies_endRuns _).eq, (notifies_endRuns _).news.giveNotices, silent_stopRuns.giveNotices,
      ← giveNotices_append, silent_takePending.giveNotices]
    rfl
  silent := (silent_takePending.comp silent_stopRuns).comp silent_releasedBlocks
  news k k' s := by
    unfold releaseNews
    rw [silent_releasedBlocks.carries, (notifies_endRuns _).news]
    rfl

theorem linkFree_releaseHolds : LinkFree releaseHolds := fun _ _ _ => rfl

theorem linkFree_testRelease : LinkFree (fun s => (testRelease s).2) := fun k k' s => by
  change (testRelease (withLinks k k' s)).2 = (testRelease s).2
  rw [testRelease_snd, testRelease_snd]
  rfl

/-- An effect that tests the release condition last. -/
theorem told_tested {P : State → State} {A : State → Answer} (hP : Silent P) (hA : LinkFree A) :
    Told (fun s => { state := (testRelease (P s)).1, answer := some (A s), after := (testRelease (P s)).2 })
      (fun s => if releaseHolds (P s) then releaseState (P s) else P s)
      (fun s => if releaseHolds (P s) then releaseNews (P s) else []) A (fun s => (testRelease (P s)).2) where
  eq s := by
    rw [testRelease_fst]
    split
    · rw [notifies_release.eq]
    · rfl
  silent := Silent.of_cases (f := fun s => releaseHolds (P s)) (F := fun b s => if b then releaseState (P s) else P s)
    (linkFree_after linkFree_releaseHolds hP) (fun b => by
      cases b
      · simpa using hP
      · simpa using notifies_release.silent.comp hP)
  before := linkFree_bind (f := fun b s => if b then releaseNews (P s) else []) (linkFree_after linkFree_releaseHolds hP) (fun b => by
      cases b
      · exact linkFree_const _
      · exact linkFree_after notifies_release.news hP)
  answer := hA
  after := linkFree_after (f := fun s => (testRelease s).2) linkFree_testRelease hP

end Sys2Proof.Proofs.Requests
end

section
/-! Every rule answers, and one that refuses has changed nothing; a request is carried out alike whatever frames wait behind it. -/

namespace Sys2Proof.Proofs.Replies

open Sys2Proof Sys2Proof.Machine Sys2Proof.Laws Sys2Proof.Proofs.Links Sys2Proof.Proofs.Bounds Sys2Proof.Proofs.Steps
  Sys2Proof.Proofs.Rules Sys2Proof.Proofs.Requests

/-! ## Effects that defer or resolve records -/

/-- 08 R144: the records that a SET_CHANNEL defers, deferred, and the channel configured. -/
def channelDeferred (n : Nat) (cfg : ChannelArg) (s : State) : State :=
  setPayoutStates (deferredShops s cfg (s.channel n)) .deferred (s.setChannel n (configured cfg (s.channel n)))

/-- 08 R143: the channel configured. -/
def channelConfigured (n : Nat) (cfg : ChannelArg) (s : State) : State := s.setChannel n (configured cfg (s.channel n))

/-- 08 R143: the reply of SET_CHANNEL. -/
def channelAnswer (n : Nat) (cfg : ChannelArg) (s : State) : Answer :=
  { code := .ok, payload := channelConfigFlds (configured cfg (s.channel n)) }

theorem silent_channelConfigured (n : Nat) (cfg : ChannelArg) : Silent (channelConfigured n cfg) := silent_setChannel n fun _ _ _ => rfl

theorem silent_channelDeferred (n : Nat) (cfg : ChannelArg) : Silent (channelDeferred n cfg) :=
  Silent.of_cases (f := fun s => deferredShops s cfg (s.channel n)) (F := fun is s => setPayoutStates is .deferred (channelConfigured n cfg s))
    (fun _ _ _ => rfl) fun is => (silent_setPayoutStates is .deferred).comp (silent_channelConfigured n cfg)

/-- An effect that is one of two by a figure not read from the links. -/
theorem told_if {f : State → Bool} {e e' : State → Done} {G G' : State → State} {N N' : State → List Notice}
    {A : State → Answer} {M M' : State → List Notice} (hf : LinkFree f) (h : Told e G N A M) (h' : Told e' G' N' A M') :
    Told (fun s => if f s then e s else e' s) (fun s => if f s then G s else G' s) (fun s => if f s then N s else N' s) A
      (fun s => if f s then M s else M' s) where
  eq s := by
    split
    · exact h.eq s
    · exact h'.eq s
  silent := Silent.of_cases (F := fun b s => if b then G s else G' s) hf (fun b => by
    cases b
    · simpa using h'.silent
    · simpa using h.silent)
  before := linkFree_bind (f := fun b s => if b then N s else N' s) hf (fun b => by
    cases b
    · simpa using h'.before
    · simpa using h.before)
  answer := h.answer
  after := linkFree_bind (f := fun b s => if b then M s else M' s) hf (fun b => by
    cases b
    · simpa using h'.after
    · simpa using h.after)

theorem setChannelEffect_eq (n : Nat) (cfg : ChannelArg) (s : State) :
    setChannelEffect n cfg s =
      if defers s cfg (s.channel n) then
        { state := (testRelease (channelDeferred n cfg s)).1, answer := some (channelAnswer n cfg s),
          after := (testRelease (channelDeferred n cfg s)).2 }
      else { state := channelConfigured n cfg s, answer := some (channelAnswer n cfg s) } := by
  unfold setChannelEffect
  dsimp only
  split
  · rfl
  · rfl

theorem told_setChannel (n : Nat) (cfg : ChannelArg) :
    Told (setChannelEffect n cfg)
      (fun s => if defers s cfg (s.channel n) then
          (if releaseHolds (channelDeferred n cfg s) then releaseState (channelDeferred n cfg s) else channelDeferred n cfg s)
        else channelConfigured n cfg s)
      (fun s => if defers s cfg (s.channel n) then
          (if releaseHolds (channelDeferred n cfg s) then releaseNews (channelDeferred n cfg s) else []) else [])
      (channelAnswer n cfg)
      (fun s => if defers s cfg (s.channel n) then (testRelease (channelDeferred n cfg s)).2 else []) := by
  have h := told_if (f := fun s => defers s cfg (s.channel n)) (fun _ _ _ => rfl)
    (told_tested (A := channelAnswer n cfg) (silent_channelDeferred n cfg) fun _ _ _ => rfl)
    (told_plain (A := channelAnswer n cfg) (silent_channelConfigured n cfg) fun _ _ _ => rfl)
  exact ⟨fun s => (setChannelEffect_eq n cfg s).trans (h.eq s), h.silent, h.before, h.answer, h.after⟩

/-- 08 R151, R152: the state after a result, before the release condition is tested. -/
def resultRecorded (n serial outcome : Nat) (s : State) : State :=
  resolved n serial ((resultShop s n serial).getD 0) ((outcomeOf outcome).getD .paid) s

/-- 08 R152: the reply of PAYOUT_RESULT. -/
def resultAnswer (n serial outcome : Nat) (s : State) : Answer :=
  { code := .ok
    payload := [Fld.u16 ((resultShop s n serial).getD 0), .u64 (s.shop ((resultShop s n serial).getD 0)).payout.amount,
      .u8 (payoutStateCode ((outcomeOf outcome).getD .paid)), .flag (releaseHolds (resultRecorded n serial outcome s))] }

theorem silent_resolved (n serial i : Nat) (x : PayoutState) : Silent (resolved n serial i x) where
  carries k k' s := by
    unfold resolved
    have ho : offerNamed ((withLinks k k' s).channel n) serial = offerNamed (s.channel n) serial := rfl
    rw [ho]
    cases (offerNamed (s.channel n) serial).isSome <;> rfl
  draining s := by
    unfold resolved
    split <;> rfl
  routes s := by
    unfold resolved
    split <;> rfl

theorem silent_resultRecorded (n serial outcome : Nat) : Silent (resultRecorded n serial outcome) :=
  Silent.of_cases (f := fun s => (resultShop s n serial).getD 0)
    (F := fun i s => resolved n serial i ((outcomeOf outcome).getD .paid) s) (fun _ _ _ => rfl) fun _ => silent_resolved _ _ _ _

theorem linkFree_resultAnswer (n serial outcome : Nat) : LinkFree (resultAnswer n serial outcome) := fun k k' s => by
  unfold resultAnswer
  rw [(silent_resultRecorded n serial outcome).carries]
  rfl

theorem told_result (n serial outcome : Nat) :
    Told (resultEffect n serial outcome)
      (fun s => if releaseHolds (resultRecorded n serial outcome s) then releaseState (resultRecorded n serial outcome s)
        else resultRecorded n serial outcome s)
      (fun s => if releaseHolds (resultRecorded n serial outcome s) then releaseNews (resultRecorded n serial outcome s) else [])
      (resultAnswer n serial outcome) (fun s => (testRelease (resultRecorded n serial outcome s)).2) :=
  told_tested (silent_resultRecorded n serial outcome) (linkFree_resultAnswer n serial outcome)

/-- 08 R156: the state after a channel's reset, before the release condition is tested. -/
def channelReset (n : Nat) (s : State) : State :=
  (setPayoutStates (resetShops s (s.channel n)) .deferred s).setChannel n
    (resetChannel (resetShops s (s.channel n)).length (payoutSum s (resetShops s (s.channel n))) (s.channel n))

/-- 08 R156: the reply of RESET_CHANNEL. -/
def resetAnswer (n : Nat) (s : State) : Answer :=
  { code := .ok
    payload := [Fld.u32 (resetShops s (s.channel n)).length, .u64 (payoutSum s (resetShops s (s.channel n)))] ++
      optFld .u32 ((s.channel n).offer.map (fun o => o.serial)) }

theorem silent_channelReset (n : Nat) : Silent (channelReset n) where
  carries k k' s := by
    have h := (silent_setPayoutStates (resetShops s (s.channel n)) .deferred).carries k k' s
    change (setPayoutStates (resetShops s (s.channel n)) .deferred (withLinks k k' s)).setChannel n _ = _
    rw [h]
    rfl
  draining s := (silent_setPayoutStates (resetShops s (s.channel n)) .deferred).draining s
  routes s := (silent_setPayoutStates (resetShops s (s.channel n)) .deferred).routes s

theorem told_reset (n : Nat) :
    Told (resetEffect n)
      (fun s => if releaseHolds (channelReset n s) then releaseState (channelReset n s) else channelReset n s)
      (fun s => if releaseHolds (channelReset n s) then releaseNews (channelReset n s) else [])
      (resetAnswer n) (fun s => (testRelease (channelReset n s)).2) :=
  told_tested (silent_channelReset n) fun _ _ _ => rfl

theorem silent_removedShop (shop : Nat) : Silent (removedShop shop) := ⟨fun _ _ _ => rfl, fun _ => rfl, fun _ => rfl⟩

theorem told_remove (shop : Nat) :
    Told (removeEffect shop)
      (fun s => if releaseHolds (removedShop shop s) then releaseState (removedShop shop s) else removedShop shop s)
      (fun s => if releaseHolds (removedShop shop s) then releaseNews (removedShop shop s) else [])
      (fun _ => ⟨.ok, []⟩) (fun s => (testRelease (removedShop shop s)).2) :=
  told_tested (silent_removedShop shop) fun _ _ _ => rfl

/-! ## ADVANCE_DAY -/

/-- 09 R164: the day moved on and the rollover handed to the blocks, before DAY_ROLLED. -/
def dayMoved (s : State) : State :=
  { s with
    time := { s.time with
      day := if s.time.day = 65535 then 0 else s.time.day + 1
      handed := s.time.handed ++ reactors } }

theorem notifies_rollDay (cause : Nat) : Notifies (rollDay cause) dayMoved (fun s => [dayRolledNotice s (dayMoved s) cause]) :=
  ⟨fun _ => rfl, ⟨fun _ _ _ => rfl, fun _ => rfl, fun _ => rfl⟩, fun _ _ _ => rfl⟩

theorem advanceDayRule_eq (s : State) :
    advanceDayRule s = { state := rollDay 1 s, answer := some ⟨.ok, [Fld.u16 (dayMoved s).time.day]⟩ } := by
  have h : (rollDay 1 s).time = (dayMoved s).time := by
    rw [(notifies_rollDay 1).eq]
    simp
  change okay (rollDay 1 s) [Fld.u16 (rollDay 1 s).time.day] = _
  rw [h]
  rfl

theorem told_advanceDay :
    Told advanceDayRule dayMoved (fun s => [dayRolledNotice s (dayMoved s) 1]) (fun s => ⟨.ok, [Fld.u16 (dayMoved s).time.day]⟩)
      (fun _ => []) := by
  have h := told_notifies (A := fun s => ⟨.ok, [Fld.u16 (dayMoved s).time.day]⟩) (notifies_rollDay 1) fun _ _ _ => rfl
  exact ⟨fun s => (advanceDayRule_eq s).trans (h.eq s), h.silent, h.before, h.answer, h.after⟩

/-! ## Every rule -/

/-- An answer that refuses comes with nothing changed. -/
def Meek (G : State → State) (N : State → List Notice) (A : State → Answer) (M : State → List Notice) : Prop :=
  ∀ s, isRefusal (A s).code = true → G s = s ∧ N s = [] ∧ M s = []

/-- A rule that is told apart from the links, and whose refusals change nothing. -/
def Orderly (rule : State → Done) : Prop := ∃ G N A M, Told rule G N A M ∧ Meek G N A M

theorem meek_of_taken {G : State → State} {N : State → List Notice} {A : State → Answer} {M : State → List Notice}
    (h : ∀ s, isRefusal (A s).code = false) : Meek G N A M := fun s hr => absurd hr (by simp [h s])

theorem isRefusal_takenCode (s : State) (shop amount : Nat) (c : Card) : isRefusal (takenCode s shop amount c) = false := by
  unfold takenCode
  split <;> rfl

/-- A rule without checks. -/
theorem orderly_of_taken {rule : State → Done} {G : State → State} {N : State → List Notice} {A : State → Answer}
    {M : State → List Notice} (h : Told rule G N A M) (ha : ∀ s, isRefusal (A s).code = false) : Orderly rule :=
  ⟨G, N, A, M, h, meek_of_taken ha⟩

/-- A rule with checks. -/
theorem orderly_ruled {cs : State → List Check} {e : State → Done} {G : State → State} {N : State → List Notice}
    {A : State → Answer} {M : State → List Notice} (hc : LinkFree (fun s => firstFailing (cs s))) (he : Told e G N A M)
    (hm : Meek G N A M) : Orderly (fun s => ruled (cs s) (e s) s) := by
  refine ⟨_, _, _, _, told_ruled hc he, fun s h => ?_⟩
  cases hf : firstFailing (cs s) with
  | some a => exact ⟨rfl, rfl, rfl⟩
  | none =>
    simp only [hf] at h
    exact hm s h

/-- A rule with checks whose effect is never a refusal. -/
theorem orderly_checked {cs : State → List Check} {e : State → Done} {G : State → State} {N : State → List Notice}
    {A : State → Answer} {M : State → List Notice} (hc : LinkFree (fun s => firstFailing (cs s))) (he : Told e G N A M)
    (ha : ∀ s, isRefusal (A s).code = false) : Orderly (fun s => ruled (cs s) (e s) s) := orderly_ruled hc he (meek_of_taken ha)

/-- An effect that reads the state. -/
theorem told_reading {A : State → List Fld} (hA : LinkFree A) :
    Told (fun s => okay s (A s)) (fun s => s) (fun _ => []) (fun s => ⟨.ok, A s⟩) (fun _ => []) := told_okay Silent.id hA

theorem refundChecks_withLinks (k k' : LinkState) (s : State) (original shop amount : Nat) (target : Option Nat) :
    refundChecks original shop amount target (withLinks k k' s) = refundChecks original shop amount target s := by
  simp only [refundChecks, returnedValue, placement_withLinks]
  rfl

/-- The commands whose rule reads or writes a link, or the routes. -/
def touchesLink : Instr → Bool
  | .journalSeek .. => true
  | .journalRead .. => true
  | .restart .. => true
  | .storeInitialise .. => true
  | .setRoute .. => true
  | _ => false

/-- Every rule but five is told apart from the links, and one that refuses has changed nothing. -/
theorem orderly_ruleOf {i : Instr} (h : isRequest i = true) (hl : touchesLink i = false) : Orderly (ruleOf i) := by
  cases i with
  | sellCard => exact orderly_checked (fun _ _ _ => rfl) (told_purchase _ _ _ _ _ _ fun _ _ _ => rfl) fun _ => rfl
  | reloadCard => exact orderly_checked (fun _ _ _ => rfl) (told_purchase _ _ _ _ _ _ fun _ _ _ => rfl) fun _ => rfl
  | balance | cardDetail | holdDetail | poolStatus | shopPosition | periodSummary | channelStatus =>
    exact orderly_checked (fun _ _ _ => rfl) (told_reading fun _ _ _ => rfl) fun _ => rfl
  | redeem => exact orderly_checked (fun _ _ _ => rfl) (told_redeem _ _ _ _) fun _ => isRefusal_takenCode _ _ _ _
  | placeHold => exact orderly_checked (fun _ _ _ => rfl) (told_place _ _ _ _) fun _ => isRefusal_takenCode _ _ _ _
  | captureHold => exact orderly_checked (fun _ _ _ => rfl) (told_capture _ _ _ _) fun _ => rfl
  | releaseHold => exact orderly_checked (fun _ _ _ => rfl) (told_release _ _) fun _ => rfl
  | extendHold => exact orderly_checked (fun _ _ _ => rfl) (told_extend _ _) fun _ => rfl
  | refund =>
    exact orderly_checked (fun _ _ _ => congrArg firstFailing (refundChecks_withLinks _ _ _ _ _ _ _)) (told_refund _ _ _ _ _) fun _ => rfl
  | voidSale => exact orderly_checked (fun _ _ _ => rfl) (told_void _ _ _) fun _ => rfl
  | lookupReference =>
    exact orderly_ruled (fun _ _ _ => rfl) (told_plain Silent.id fun _ _ _ => rfl) fun _ _ => ⟨rfl, rfl, rfl⟩
  | freezeCard | unfreezeCard | closeCard =>
    exact orderly_checked (fun _ _ _ => rfl) (told_okay (silent_setCard _ fun _ _ _ => rfl) fun _ _ _ => rfl) fun _ => rfl
  | grantPromo => exact orderly_checked (fun _ _ _ => rfl) (told_grant _ _ _) fun _ => rfl
  | definePool | addBudget | setPoolState =>
    exact orderly_checked (fun _ _ _ => rfl) (told_changePool _ (fun _ _ _ => rfl) fun _ _ _ => rfl) fun _ => rfl
  | defineShop | stageSchedule | setShopState | clearAttention | setPayoutAccount =>
    exact orderly_checked (fun _ _ _ => rfl) (told_okay (silent_setShop _ fun _ _ _ => rfl) fun _ _ _ => rfl) fun _ => rfl
  | removeShop => exact orderly_checked (fun _ _ _ => rfl) (told_remove _) fun _ => rfl
  | adjustCarry =>
    exact orderly_checked (fun _ _ _ => rfl)
      (told_entry (silent_setShop _ fun _ _ _ => rfl) (fun _ _ _ => rfl) fun _ _ _ => rfl) fun _ => rfl
  | closePeriod => exact orderly_checked (fun _ _ _ => rfl) (told_okay (silent_takeClose _) fun _ _ _ => rfl) fun _ => rfl
  | setScheduler | setRollover | enterConfig | openPart =>
    exact orderly_checked (fun _ _ _ => rfl)
      (told_okay ⟨fun _ _ _ => rfl, fun _ => rfl, fun _ => rfl⟩ fun _ _ _ => rfl) fun _ => rfl
  | setChannel => exact orderly_checked (fun _ _ _ => rfl) (told_setChannel _ _) fun _ => rfl
  | startRun | suspendChannel | resumeChannel =>
    exact orderly_checked (fun _ _ _ => rfl) (told_okay (silent_setChannel _ fun _ _ _ => rfl) fun _ _ _ => rfl) fun _ => rfl
  | payoutResult => exact orderly_checked (fun _ _ _ => rfl) (told_result _ _ _) fun _ => rfl
  | resetChannel => exact orderly_checked (fun _ _ _ => rfl) (told_reset _) fun _ => rfl
  | setTime | setDay | setTrading =>
    exact orderly_of_taken (told_okay ⟨fun _ _ _ => rfl, fun _ => rfl, fun _ => rfl⟩ fun _ _ _ => rfl) fun _ => rfl
  | advanceDay => exact orderly_of_taken told_advanceDay fun _ => rfl
  | valueSummary | periodStatus | timeStatus | identify | partStatus =>
    exact orderly_of_taken (told_reading fun _ _ _ => rfl) fun _ => rfl
  | journalSeek | journalRead | restart | storeInitialise | setRoute => exact absurd hl (by simp [touchesLink])
  | _ => exact absurd h (by simp [isRequest])

/-! ## A request answered -/

/-- A rule answers a request in progress on a link, leaves that link's transmit queue and marks alone, and has changed nothing where it
refuses. -/
def AnswersOn (l : Link) (rule : State → Done) : Prop :=
  ∃ G N A M, Answers l rule G N A M ∧ (∀ s, ((G s).link l).tx = (s.link l).tx ∧ ((G s).link l).marks = (s.link l).marks) ∧ Meek G N A M

theorem replies_of_orderly {rule : State → Done} (h : Orderly rule) (l : Link) : AnswersOn l rule := by
  obtain ⟨G, N, A, M, ht, hm⟩ := h
  exact ⟨G, N, A, M, ht.answers l, fun s => by rw [ht.silent.carries.link]; exact ⟨rfl, rfl⟩, hm⟩

/-- A rule with checks that do not read the request in progress, whose effect gives no notice. -/
theorem replies_ruled {l : Link} {cs : State → List Check} {e : State → Done} {G : State → State} {A : State → Answer}
    (hc : ∀ kind tag s, cs (begun l kind tag s) = cs s)
    (he : ∀ kind tag s, e (begun l kind tag s) = { state := begun l kind tag (G s), answer := some (A s) })
    (hl : ∀ s, ((G s).link l).tx = (s.link l).tx ∧ ((G s).link l).marks = (s.link l).marks)
    (ha : ∀ s, isRefusal (A s).code = false) : AnswersOn l (fun s => ruled (cs s) (e s) s) := by
  refine ⟨fun s => match firstFailing (cs s) with | some _ => s | none => G s, fun _ => [],
    fun s => match firstFailing (cs s) with | some a => a | none => A s, fun _ => [], ⟨fun kind tag s => ?_⟩, fun s => ?_, fun s h => ?_⟩
  · unfold ruled
    rw [hc, he]
    cases firstFailing (cs s) <;> rfl
  · cases hf : firstFailing (cs s) with
    | some a => simp only [hf, and_self]
    | none => simpa only [hf] using hl s
  · cases hf : firstFailing (cs s) with
    | some a => simp only [hf, and_self]
    | none =>
      simp only [hf] at h
      exact absurd h (by simp [ha s])

theorem setCursor_begun (l : Link) (x : Cursor) (kind tag : Nat) (s : State) :
    setCursor l x (begun l kind tag s) = begun l kind tag (setCursor l x s) := by cases l <;> rfl

theorem setCursor_link (l : Link) (x : Cursor) (s : State) :
    ((setCursor l x s).link l).tx = (s.link l).tx ∧ ((setCursor l x s).link l).marks = (s.link l).marks := by
  simp [setCursor]

/-- 05 R97, R98: the cursor that a read leaves, and its answer. -/
def readOutcome (count : Nat) (s : State) (x : Cursor) : Cursor × Answer :=
  match entriesFrom s x with
  | some es =>
    (cursorAfter x (readEntries count es),
      ⟨.ok, listFlds ((readEntries count es).map entryFlds) ++ cursorFlds (cursorAfter x (readEntries count es)) ++
        [Fld.u32 s.journal.next]⟩)
  | none => (foundCursor s.journal, ⟨.cursorLost, lostFlds s.journal x⟩)

theorem readEffect_eq (l : Link) (count : Nat) (s : State) :
    readEffect l count s =
      { state := setCursor l (readOutcome count s (s.link l).cursor).1 s
        answer := some (readOutcome count s (s.link l).cursor).2 } := by
  unfold readEffect readOutcome
  dsimp only
  cases entriesFrom s (s.link l).cursor <;> rfl

theorem isRefusal_readOutcome (count : Nat) (s : State) (x : Cursor) : isRefusal (readOutcome count s x).2.code = false := by
  unfold readOutcome
  cases entriesFrom s x <;> rfl

theorem readOutcome_begun (count : Nat) (l : Link) (kind tag : Nat) (s : State) :
    readOutcome count (begun l kind tag s) = readOutcome count s := by cases l <;> rfl

/-- Every request but STORE_INITIALISE is answered by its rule. -/
theorem replies_ruleOf {i : Instr} (h : isRequest i = true) (hi : i ≠ .storeInitialise (requestLink i) (requestFrame i).tag) :
    AnswersOn (requestLink i) (ruleOf i) := by
  cases hl : touchesLink i with
  | false => exact replies_of_orderly (orderly_ruleOf h hl) _
  | true =>
    cases i with
    | journalSeek l tag pos =>
      refine replies_ruled (G := fun s => setCursor l (seekCursor pos s) s) (A := fun s => ⟨.ok, seekFlds s.journal⟩)
        (fun kind tag s => ?_) (fun kind tag s => ?_) (fun s => setCursor_link l _ s) fun _ => rfl
      · cases pos <;> cases l <;> rfl
      · cases pos <;> cases l <;> rfl
    | journalRead l tag count =>
      refine replies_ruled (G := fun s => setCursor l (readOutcome count s (s.link l).cursor).1 s)
        (A := fun s => (readOutcome count s (s.link l).cursor).2) (fun kind tag s => rfl) (fun kind tag s => ?_)
        (fun s => setCursor_link l _ s) fun s => isRefusal_readOutcome count s _
      have hc : ((begun l kind tag s).link l).cursor = (s.link l).cursor := by cases l <;> rfl
      change readEffect l count (begun l kind tag s) = _
      rw [readEffect_eq, setCursor_begun, readOutcome_begun, hc]
      rfl
    | restart l tag =>
      exact ⟨restartTaken, fun _ => [], fun _ => ⟨.ok, []⟩, fun _ => [], ⟨fun kind tag s => by cases l <;> rfl⟩,
        fun s => by cases l <;> exact ⟨rfl, rfl⟩, meek_of_taken fun _ => rfl⟩
    | setRoute l tag sel =>
      refine replies_ruled (G := fun s => { s with routes := routed sel s.routes })
        (A := fun s => ⟨.ok, routesFlds (routed sel s.routes)⟩) (fun kind tag s => ?_) (fun kind tag s => ?_)
        (fun s => by cases l <;> exact ⟨rfl, rfl⟩) fun _ => rfl
      · cases sel <;> cases l <;> rfl
      · cases l <;> rfl
    | storeInitialise l tag => exact absurd rfl hi
    | _ => exact absurd hl (by simp [touchesLink])

/-- 11 R188: what notices leave on a link: more notices, and perhaps the notice-lost mark. -/
theorem giveNotices_link (ns : List Notice) (s : State) (l : Link) :
    ∃ fs : List TxFrame, fs.all isNotice = true ∧ ((giveNotices ns s).link l).tx = (s.link l).tx ++ fs ∧
      ((giveNotices ns s).link l).marks.overrun = (s.link l).marks.overrun ∧
      ((giveNotices ns s).link l).marks.frameError = (s.link l).marks.frameError := by
  induction ns generalizing s with
  | nil => exact ⟨[], rfl, (List.append_nil _).symm, rfl, rfl⟩
  | cons n ns ih =>
    have h1 : ∀ (d : Bool) (r : Routes) (m : Link) (k : LinkState), ∃ fs : List TxFrame, fs.all isNotice = true ∧
        (hear d r m k n).tx = k.tx ++ fs ∧ (hear d r m k n).marks.overrun = k.marks.overrun ∧
        (hear d r m k n).marks.frameError = k.marks.frameError := fun d r m k => by
      unfold hear queueNotice
      split
      · split
        · exact ⟨[_], rfl, rfl, rfl, rfl⟩
        · exact ⟨[], rfl, (List.append_nil _).symm, rfl, rfl⟩
      · exact ⟨[], rfl, (List.append_nil _).symm, rfl, rfl⟩
    have hg : (giveNotice n s).link l = hear s.ctrl.draining s.routes l (s.link l) n := by
      rw [giveNotice_eq]
      cases l <;> rfl
    obtain ⟨fs, hf, ht, ho, he⟩ := h1 s.ctrl.draining s.routes l (s.link l)
    obtain ⟨gs, hf', ht', ho', he'⟩ := ih (giveNotice n s)
    rw [giveNotices_cons]
    exact ⟨fs ++ gs, by simp [hf, hf'], by rw [ht', hg, ht, List.append_assoc], by rw [ho', hg, ho], by rw [he', hg, he]⟩

theorem begun_tx (l : Link) (kind tag : Nat) (s : State) : ((begun l kind tag s).link l).tx = (s.link l).tx := by cases l <;> rfl

theorem begun_marks (l : Link) (kind tag : Nat) (s : State) : ((begun l kind tag s).link l).marks = (s.link l).marks := by
  cases l <;> rfl

/-- Settles O10. -/
theorem requestIsAnsweredOrRefused : Obligations.RequestIsAnsweredOrRefused := by
  unfold Obligations.RequestIsAnsweredOrRefused
  intro i s hi hn hr l
  rw [exec_request hi]
  cases hm : linkAndModeCheck l (requestFrame i).kind s with
  | some a =>
    exact ⟨_, a, [], [], (s.link l).marks, request_refused hr hm, rfl, rfl, by simp [replied, l], by simp [replied, l], rfl, rfl,
      fun _ => rfl⟩
  | none =>
    obtain ⟨G, N, A, M, ha, hl, hmeek⟩ := replies_ruleOf hi hn
    obtain ⟨htx, hmarks⟩ := hl s
    obtain ⟨ns, hns, hntx, hno, hne⟩ := giveNotices_link (N s) (begun l (requestFrame i).kind (requestFrame i).tag (G s)) l
    obtain ⟨ms, hms, hmtx, -, -⟩ := giveNotices_link (M s) (replied l (requestFrame i).kind (requestFrame i).tag (A s)
      (giveNotices (N s) (begun l (requestFrame i).kind (requestFrame i).tag (G s)))) l
    refine ⟨_, A s, ns, ms, ((giveNotices (N s) (begun l (requestFrame i).kind (requestFrame i).tag (G s))).link l).marks,
      ha.exec hr hm, hns, hms, ?_, ?_, ?_, ?_, fun href => ?_⟩
    · simp [carried, replied, l]
    · rw [carried, hmtx, replied, setLink_link_same]
      dsimp only
      rw [hntx, begun_tx, htx]
    · rw [hno, begun_marks, hmarks]
    · rw [hne, begun_marks, hmarks]
    · obtain ⟨hG, hN, hM⟩ := hmeek s href
      rw [carried, hG, hN, hM]
      exact replied_begun _ _ _ _ _ _ _

/-! ## Frames that wait behind a request -/

/-- A link's receive queue and break flag replaced. -/
def requeue (l : Link) (fs : List RxFrame) (b : Bool) (s : State) : State := s.setLink l { s.link l with rx := fs, inBreak := b }

theorem requeue_ctrl (l : Link) (fs : List RxFrame) (b : Bool) (s : State) : (requeue l fs b s).ctrl = s.ctrl := by cases l <;> rfl

/-- An operation that leaves the links alone acts alike whatever waits. -/
theorem requeue_of_carries {F : State → State} (h : Carries F) (l : Link) (fs : List RxFrame) (b : Bool) (s : State) :
    F (requeue l fs b s) = requeue l fs b (F s) := by rw [requeue, h.setLink, requeue, h.link]

theorem requeue_of_linkFree {α : Type} {f : State → α} (h : LinkFree f) (l : Link) (fs : List RxFrame) (b : Bool) (s : State) :
    f (requeue l fs b s) = f s := h.setLink l _ s

theorem hear_requeued (d : Bool) (r : Routes) (l : Link) (k : LinkState) (n : Notice) (fs : List RxFrame) (b : Bool) :
    hear d r l { k with rx := fs, inBreak := b } n = { hear d r l k n with rx := fs, inBreak := b } := by
  unfold hear queueNotice
  by_cases hd : (!d && reaches l (routeFor r n.cls)) = true
  · by_cases hf : 2 ≤ freePlaces k
    · have hf' : 2 ≤ freePlaces { k with rx := fs, inBreak := b } := hf
      rw [if_pos hd, if_pos hd, if_pos hf, if_pos hf']
    · have hf' : ¬2 ≤ freePlaces { k with rx := fs, inBreak := b } := hf
      rw [if_pos hd, if_pos hd, if_neg hf, if_neg hf']
  · rw [if_neg hd, if_neg hd]

theorem giveNotices_requeue (ns : List Notice) (l : Link) (fs : List RxFrame) (b : Bool) (s : State) :
    giveNotices ns (requeue l fs b s) = requeue l fs b (giveNotices ns s) := by
  induction ns generalizing s with
  | nil => rfl
  | cons n ns ih =>
    have h : giveNotice n (requeue l fs b s) = requeue l fs b (giveNotice n s) := by
      rw [giveNotice_eq, giveNotice_eq]
      cases l
      · exact congrArg (fun k => withLinks k (hear s.ctrl.draining s.routes .a s.aLink n) s) (hear_requeued _ _ _ _ _ _ _)
      · exact congrArg (fun k => withLinks (hear s.ctrl.draining s.routes .t s.tLink n) k s) (hear_requeued _ _ _ _ _ _ _)
    rw [giveNotices_cons, h, ih, giveNotices_cons]

theorem linkReply_requeued (k : LinkState) (a : Answer) (fs : List RxFrame) (b : Bool) :
    linkReply { k with rx := fs, inBreak := b } a = { linkReply k a with rx := fs, inBreak := b } := by
  obtain ⟨rx, partialRx, tx, busy, marks, cursor, inBreak⟩ := k
  cases busy with
  | none => rfl
  | some p =>
    unfold linkReply
    dsimp only
    split <;> rfl

theorem placeReply_requeue (l : Link) (a : Answer) (fs : List RxFrame) (b : Bool) (s : State) :
    placeReply l a (requeue l fs b s) = requeue l fs b (placeReply l a s) := by
  cases l
  · exact congrArg (fun k => { s with tLink := k }) (linkReply_requeued s.tLink a fs b)
  · exact congrArg (fun k => { s with aLink := k }) (linkReply_requeued s.aLink a fs b)

theorem finish_requeue (l : Link) (d : Done) (fs : List RxFrame) (b : Bool) :
    finish l { d with state := requeue l fs b d.state } = requeue l fs b (finish l d) := by
  unfold finish
  dsimp only
  cases d.answer with
  | none => exact giveNotices_requeue _ _ _ _ _
  | some a =>
    dsimp only
    rw [placeReply_requeue, giveNotices_requeue]

/-- A rule does alike whatever waits on its link, and starts no draining. -/
def Passive (l : Link) (rule : State → Done) : Prop :=
  ∀ fs b s, rule (requeue l fs b s) = { rule s with state := requeue l fs b (rule s).state } ∧
    (rule s).state.ctrl.draining = s.ctrl.draining

theorem passive_of_orderly {rule : State → Done} (h : Orderly rule) (l : Link) : Passive l rule := by
  obtain ⟨G, N, A, M, ht, -⟩ := h
  intro fs b s
  constructor
  · rw [ht.eq, ht.eq, requeue_of_linkFree ht.before, requeue_of_linkFree ht.answer, requeue_of_linkFree ht.after,
      requeue_of_carries ht.silent.carries, giveNotices_requeue]
  · rw [ht.eq]
    exact (LinkFree.giveNotices (f := fun s => s.ctrl.draining) (fun _ _ _ => rfl) _ _).trans (ht.silent.draining s)

/-- A rule with checks whose effect does alike whatever waits. -/
theorem passive_ruled {l : Link} {cs : State → List Check} {e : State → Done} (hc : ∀ fs b s, cs (requeue l fs b s) = cs s)
    (he : Passive l e) : Passive l (fun s => ruled (cs s) (e s) s) := by
  intro fs b s
  dsimp only
  unfold ruled
  rw [hc]
  cases firstFailing (cs s) with
  | none => exact he fs b s
  | some a => exact ⟨rfl, rfl⟩

/-- Every rule but that of RESTART does alike whatever waits on its link. -/
theorem passive_ruleOf {i : Instr} (h : isRequest i = true) (hi : ∀ l tag, i ≠ .restart l tag) :
    Passive (requestLink i) (ruleOf i) := by
  cases hl : touchesLink i with
  | false => exact passive_of_orderly (orderly_ruleOf h hl) _
  | true =>
    cases i with
    | journalSeek l tag pos =>
      refine passive_ruled (fun fs b s => ?_) fun fs b s => ⟨?_, ?_⟩
      · cases pos <;> cases l <;> rfl
      · cases pos <;> cases l <;> rfl
      · cases l <;> rfl
    | journalRead l tag count =>
      refine passive_ruled (fun fs b s => rfl) fun fs b s => ?_
      have ho : readOutcome count (requeue l fs b s) = readOutcome count s := by cases l <;> rfl
      have hc : ((requeue l fs b s).link l).cursor = (s.link l).cursor := by cases l <;> rfl
      change readEffect l count (requeue l fs b s) = _ ∧ _
      rw [readEffect_eq, readEffect_eq, ho, hc]
      cases l <;> exact ⟨rfl, rfl⟩
    | restart l tag => exact absurd rfl (hi l tag)
    | setRoute l tag sel =>
      refine passive_ruled (fun fs b s => ?_) fun fs b s => ⟨?_, rfl⟩
      · cases sel <;> cases l <;> rfl
      · cases l <;> rfl
    | storeInitialise l tag =>
      intro fs b s
      have hs : Silent initialiseTaken := silent_clearRuns.comp
        (G := fun s => { s with
          ctrl := { s.ctrl with formatMark := false, store := .blank, initInFlight := true }
          time := { s.time with timeSet := false, rolloverDue := false, handed := [] }
          sweep := idleSweep }) ⟨fun _ _ _ => rfl, fun _ => rfl, fun _ => rfl⟩
      exact ⟨congrArg (fun t => ({ state := t, answer := none } : Done)) (requeue_of_carries hs.carries l fs b s), hs.draining s⟩
    | _ => exact absurd hl (by simp [touchesLink])

/-! ## What the end of a request leaves of the draining -/

theorem finish_draining (l : Link) (d : Done) : (finish l d).ctrl.draining = d.state.ctrl.draining := by
  unfold finish
  rw [LinkFree.giveNotices (f := fun s => s.ctrl.draining) fun _ _ _ => rfl]
  cases d.answer with
  | none => rfl
  | some a => cases l <;> rfl

theorem carryOut_requeue {i : Instr} (h : isRequest i = true) (hi : ∀ l tag, i ≠ .restart l tag) (fs : List RxFrame) (b : Bool)
    (t : State) :
    carryOut i (ruleOf i) (requeue (requestLink i) fs b t) = requeue (requestLink i) fs b (carryOut i (ruleOf i) t) ∧
      (carryOut i (ruleOf i) t).ctrl.draining = t.ctrl.draining := by
  have hm : linkAndModeCheck (requestLink i) (requestFrame i).kind (requeue (requestLink i) fs b t) =
      linkAndModeCheck (requestLink i) (requestFrame i).kind t := by
    unfold linkAndModeCheck
    rw [requeue_ctrl]
  unfold carryOut
  rw [hm]
  cases linkAndModeCheck (requestLink i) (requestFrame i).kind t with
  | some a => exact ⟨finish_requeue _ (answered t a) fs b, finish_draining _ _⟩
  | none =>
    obtain ⟨hq, hd⟩ := passive_ruleOf h hi fs b t
    dsimp only
    rw [hq, finish_requeue, finish_draining]
    exact ⟨rfl, hd⟩

/-! ## Taking and waiting -/

theorem quiet_requeue (l : Link) (fs : List RxFrame) (b : Bool) (s : State) : quiet (requeue l fs b s) = quiet s := by
  cases l <;> rfl

theorem mayTake_requeue (l : Link) (fs : List RxFrame) (b : Bool) (s : State) : mayTake l (requeue l fs b s) = mayTake l s := by
  cases l <;> rfl

/-- 11 R184: a request that is not taken waits. -/
theorem exec_untaken {i : Instr} (h : isRequest i = true) {s : State} (hp : s.power = true) (hq : quiet s = true)
    (ht : takeFrame i s = none) : exec i s = .next (arrive (requestLink i) (requestFrame i) s) := by
  rw [exec_request h, takeRequest_next, taken, if_pos hp, settle_quiet hq, ht]
  simp only [untaken, hp, if_true, settle_quiet hq]

/-- 11 R185: a request at the head of its queue is taken; the frames behind it stay. -/
theorem exec_head {i : Instr} (h : isRequest i = true) {s : State} (hp : s.power = true) (hq : quiet s = true)
    (hm : mayTake (requestLink i) s = true) {f : RxFrame} {fs : List RxFrame} (hr : (s.link (requestLink i)).rx = f :: fs)
    (hf : decodeRequest (requestLink i) f = i) :
    exec i s = .next (carryOut i (ruleOf i) (requeue (requestLink i) fs (s.link (requestLink i)).inBreak
      (begun (requestLink i) (requestFrame i).kind (requestFrame i).tag (requeue (requestLink i) [] false s)))) := by
  have hn : isNext i s = true := by simp [isNext, hr, hf]
  have ht : takeFrame i s = some (requeue (requestLink i) fs (s.link (requestLink i)).inBreak
      (begun (requestLink i) (requestFrame i).kind (requestFrame i).tag (requeue (requestLink i) [] false s))) := by
    simp only [takeFrame, hm, hn, Bool.and_self, if_true, withoutHead, hr, List.tail_cons]
    simp [requeue, begun, inProgress]
  rw [exec_request h, takeRequest_next, taken, if_pos hp, settle_quiet hq, ht]

/-- What a request at the head of its queue leaves of the frames behind it: all of them, or none where it is a RESTART that is taken. -/
theorem carryOut_head {i : Instr} (h : isRequest i = true) (fs : List RxFrame) (b : Bool) (t : State)
    (hd : t.ctrl.draining = false) :
    carryOut i (ruleOf i) (requeue (requestLink i) fs b t) =
      requeue (requestLink i) (if (carryOut i (ruleOf i) t).ctrl.draining then [] else fs) b (carryOut i (ruleOf i) t) := by
  by_cases hi : ∀ l tag, i ≠ .restart l tag
  · obtain ⟨hq, hk⟩ := carryOut_requeue h hi fs b t
    rw [hq, hk, hd]
    rfl
  · push Not at hi
    obtain ⟨l, tag, rfl⟩ := hi
    change carryOut (.restart l tag) (ruleOf (.restart l tag)) (requeue l fs b t) = requeue l _ b _
    cases hm : linkAndModeCheck l 0x74 t with
    | some a =>
      have hm' : linkAndModeCheck l 0x74 (requeue l fs b t) = some a := by
        unfold linkAndModeCheck at hm ⊢
        rw [requeue_ctrl, hm]
      rw [carryOut_fail (c := .restart l tag) hm, carryOut_fail (c := .restart l tag) hm', show (placeReply (requestLink (.restart l tag)) a t).ctrl = t.ctrl by
        cases l <;> rfl, hd]
      exact placeReply_requeue l a fs b t
    | none =>
      have hm' : linkAndModeCheck l 0x74 (requeue l fs b t) = none := by
        unfold linkAndModeCheck at hm ⊢
        rw [requeue_ctrl, hm]
      rw [carryOut_pass (c := .restart l tag) hm, carryOut_pass (c := .restart l tag) hm', finish_draining, if_pos (show (ruleOf (.restart l tag) t).state.ctrl.draining = true
        from rfl)]
      have hr : ruleOf (.restart l tag) (requeue l fs b t) =
          { ruleOf (.restart l tag) t with state := requeue l [] b (ruleOf (.restart l tag) t).state } := by cases l <;> rfl
      rw [hr]
      exact finish_requeue _ _ _ _

/-- Settles O11. -/
theorem requestsWaitAndAreTakenInOrder : Obligations.RequestsWaitAndAreTakenInOrder := by
  unfold Obligations.RequestsWaitAndAreTakenInOrder
  refine ⟨fun i s hi hp hq hm hb => ?_, fun i s f fs hi hp hq hm hr => ⟨fun hf hb hlen => ?_, fun hf => ?_⟩⟩
  · rw [exec_untaken hi hp hq (by simp [takeFrame, hm])]
    simp only [arrive, arriveAt, hb, Bool.false_eq_true, if_false]
  · have hn : isNext i s = false := by simp [isNext, hr, hf]
    rw [exec_untaken hi hp hq (by simp [takeFrame, hn])]
    have hlen' : (f :: fs).length < Config.rxPlaces := hlen
    simp only [arrive, arriveAt, hb, hr, if_pos hlen', Bool.false_eq_true, if_false]
  · have hd : s.ctrl.draining = false := by
      simp only [mayTake, Bool.and_eq_true, Bool.not_eq_true'] at hm
      exact hm.1.1
    have hready : ready (requestLink i) (requeue (requestLink i) [] false s) = true := by
      have hpow : (requeue (requestLink i) [] false s).power = s.power := by cases requestLink i <;> rfl
      simp [ready, hpow, hp, quiet_requeue, hq, mayTake_requeue, hm]
      simp [requeue]
    refine ⟨_, (exec_request hi _).trans (takeRequest_ready hready), ?_⟩
    rw [exec_head hi hp hq hm hr hf, carryOut_head hi]
    · rfl
    · rw [← hd]
      cases requestLink i <;> rfl

/-! ## Refusals before the rule -/

/-- A request that fails a permission or mode check is answered, and nothing else changes. -/
theorem exec_refused {i : Instr} (h : isRequest i = true) {s : State} {a : Answer} (hr : ready (requestLink i) s = true)
    (hm : linkAndModeCheck (requestLink i) (requestFrame i).kind s = some a) :
    exec i s = .next (replied (requestLink i) (requestFrame i).kind (requestFrame i).tag a s) :=
  (exec_request h s).trans (request_refused hr hm)

theorem require_false {b : Bool} (h : b = false) (c : Result) (p : List Fld) : require b c p = some ⟨c, p⟩ := by simp [require, h]

theorem require_true {b : Bool} (h : b = true) (c : Result) (p : List Fld) : require b c p = none := by simp [require, h]

/-- Settles O57. -/
theorem checksBeforeTheRuleRefuse : Obligations.ChecksBeforeTheRuleRefuse := by
  unfold Obligations.ChecksBeforeTheRuleRefuse
  refine ⟨?_, fun l tag kind payload s hr hd => ?_⟩
  · intro i s hi l k tag terminal moving blank hr
    have hterm : terminalKind k = true ↔ terminal := by simp [terminalKind, terminal]
    have hmov : movingKind k = true ↔ moving := by
      simp only [movingKind, moving, Bool.or_eq_true, Bool.and_eq_true, decide_eq_true_eq, or_assoc]
    have hblank : blankKind k = true ↔ blank := by
      simp only [blankKind, blank, Bool.or_eq_true, decide_eq_true_eq, or_assoc]
    refine ⟨fun hl ht => exec_refused hi hr ?_, fun hlt => ?_⟩
    · rw [linkAndModeCheck, require_false (by simp [show requestLink i = .t from hl, mt hterm.1 ht, k])]
      rfl
    · have hperm : (decide (requestLink i = Link.a) || terminalKind k) = true := by simpa [hterm] using hlt
      refine ⟨fun hf => exec_refused hi hr ?_, fun hf hs hb => exec_refused hi hr ?_, fun hf hs hmode hv => exec_refused hi hr ?_,
        fun hf hmode hk => exec_refused hi hr ?_⟩
      · rw [linkAndModeCheck, require_true hperm, require_false (by simp [hf])]
        rfl
      · rw [linkAndModeCheck, require_true hperm, require_true (by simp [hf]),
          require_false (by simp [hs, mt hblank.1 hb, k])]
        rfl
      · rw [linkAndModeCheck, require_true hperm, require_true (by simp [hf]), require_true (by simp [hs]),
          require_false (by simp [hmode, hmov.2 hv, k])]
        rfl
      · have hk' : (requestFrame i).kind = 0x75 := hk
        rw [linkAndModeCheck, require_true hperm, require_true (by simp [hf]), require_true (by simp [hk', blankKind]),
          require_true (by simp [hmode]), require_false (by simp [hmode, hk'])]
        rfl
  · have hdec : decodeRequest l (requestFrame (.unknownRequest l tag kind payload)) = .unknownRequest l tag kind payload := by
      simp [decodeRequest, requestFrame, hd]
    have ht := taken_ready (c := .unknownRequest l tag kind payload) hr
    rw [exec_unknownRequest, if_pos hdec, ht]
    have ha : strangerAnswer l kind = ⟨if listedKind kind = false then .unknownRequest
        else if l = .t ∧ ¬(0x10 ≤ kind ∧ kind ≤ 0x1A) then .notPermitted else .badField, []⟩ := by
      unfold strangerAnswer terminalKind
      cases listedKind kind
      · rfl
      · cases l <;> by_cases hk : 16 ≤ kind ∧ kind ≤ 26 <;> simp [hk]
    rw [ha]
    exact congrArg Host.Outcome.next (placeReply_begun l kind tag _ s)

end Sys2Proof.Proofs.Replies
end

section
/-! The writing of an entry: what it posts to shops and pools, the notices it gives, and what a request that ends in one leaves. -/

namespace Sys2Proof.Proofs.Entries

open Sys2Proof Sys2Proof.Machine Sys2Proof.Laws Sys2Proof.Proofs.Links Sys2Proof.Proofs.Basics Sys2Proof.Proofs.Bounds
  Sys2Proof.Proofs.Steps Sys2Proof.Proofs.Rules Sys2Proof.Proofs.Requests

/-! ## Postings to shops -/

/-- 06 R105: a live position of shop `i` after what an entry posts to the shop it names. -/
def posted (e : Entry) (i : Nat) (q : Position) : Position :=
  match e.shop, shopPosting e with
  | some j, some d => if i = j then post d q else q
  | _, _ => q

/-- 06 R106: a live position of shop `i` after the sponsor charges of parts by an entry of a kind. -/
def charged (k : EntryKind) (s : State) (i : Nat) (ps : List EntryPart) (q : Position) : Position :=
  if sponsorSign k = 0 then q else sponsored (sponsorSign k) s i ps q

theorem posted_eq {e : Entry} {j : Nat} {d : Posting} (hs : e.shop = some j) (hd : shopPosting e = some d) (i : Nat) (q : Position) :
    posted e i q = if i = j then post d q else q := by
  unfold posted
  rw [hs, hd]

theorem charged_of_unsponsored {k : EntryKind} (hk : sponsorSign k = 0) (s : State) (i : Nat) (ps : List EntryPart) (q : Position) :
    charged k s i ps q = q := if_pos hk

theorem charged_of_sponsored {k : EntryKind} (hk : sponsorSign k ≠ 0) (s : State) (i : Nat) (ps : List EntryPart) (q : Position) :
    charged k s i ps q = sponsored (sponsorSign k) s i ps q := if_neg hk

theorem sponsored_cons (sign : Int) (s : State) (i : Nat) (p : EntryPart) (ps : List EntryPart) (q : Position) :
    sponsored sign s i (p :: ps) q =
      sponsored sign s i ps (if (s.pool p.pool).funder = some i then post { sponsor := sign * p.amount } q else q) := by
  unfold sponsored
  by_cases h : (s.pool p.pool).funder = some i <;> simp [h]

theorem postShop_shop (i j : Nat) (d : Posting) (s : State) :
    (postShop i d s).shop j = if j = i then { s.shop i with live := post d (s.shop i).live } else s.shop j := shop_setShop s i j _

theorem postSponsor_pool (k : EntryKind) (s : State) (q : EntryPart) (p : Nat) : (postSponsor k s q).pool p = s.pool p := by
  unfold postSponsor
  split
  · split <;> rfl
  · rfl

theorem postSponsor_shop (k : EntryKind) (s : State) (p : EntryPart) (i : Nat) :
    (postSponsor k s p).shop i =
      { s.shop i with
        live := if sponsorSign k = 0 then (s.shop i).live
          else if (s.pool p.pool).funder = some i then post { sponsor := sponsorSign k * p.amount } (s.shop i).live
          else (s.shop i).live } := by
  unfold postSponsor
  by_cases hk : sponsorSign k = 0
  · cases (s.pool p.pool).funder <;> simp [hk]
  · cases hf : (s.pool p.pool).funder with
    | none => simp
    | some j =>
      simp only [hk, if_false, postShop_shop, Option.some.injEq]
      by_cases hij : i = j
      · simp [hij]
      · simp [hij, Ne.symm hij]

theorem foldl_postSponsor_shop (k : EntryKind) (ps : List EntryPart) (s : State) (i : Nat) :
    (ps.foldl (postSponsor k) s).shop i = { s.shop i with live := charged k s i ps (s.shop i).live } := by
  induction ps generalizing s with
  | nil =>
    unfold charged
    split <;> rfl
  | cons p ps ih =>
    have hs : ∀ sign j qs q, sponsored sign (postSponsor k s p) j qs q = sponsored sign s j qs q := fun sign j qs q => by
      unfold sponsored
      simp only [postSponsor_pool]
    rw [List.foldl_cons, ih, postSponsor_shop]
    unfold charged
    split
    · rfl
    · rw [hs, sponsored_cons]

/-- 06 R105, R106: a shop after the writing of an entry. -/
theorem postPositions_shop (e : Entry) (s : State) (i : Nat) :
    (postPositions e s).shop i = { s.shop i with live := charged e.kind s i e.parts (posted e i (s.shop i).live) } := by
  unfold postPositions posted
  cases hs : e.shop with
  | none => exact foldl_postSponsor_shop _ _ _ _
  | some j =>
    cases hd : shopPosting e with
    | none => exact foldl_postSponsor_shop _ _ _ _
    | some d =>
      dsimp only
      rw [foldl_postSponsor_shop, postShop_shop]
      by_cases hij : i = j
      · subst hij
        simp only [if_true]
        rfl
      · simp only [hij, if_false]
        rfl

/-- The postings touch no shop where the entry posts to none. -/
theorem postPositions_eq_self {e : Entry} (s : State) (hd : shopPosting e = none) (hk : sponsorSign e.kind = 0) :
    postPositions e s = s := by
  have hp : ∀ (ps : List EntryPart) (t : State), ps.foldl (postSponsor e.kind) t = t := fun ps t =>
    foldl_id _ _ _ fun p _ => by
      unfold postSponsor
      split
      · rw [if_pos hk]
      · rfl
  unfold postPositions
  rw [hp, hd]
  cases e.shop <;> rfl

/-! ## Postings to pools -/

/-- 04 R70: a pool after the parts of an entry that are of it. -/
def movedPool (k : EntryKind) (p : Nat) (ps : List EntryPart) (x : Pool) : Pool :=
  (ps.filter (fun q => q.pool = p)).foldl (fun x q => movePool k q.amount x) x

theorem movedPool_cons (k : EntryKind) (p : Nat) (q : EntryPart) (ps : List EntryPart) (x : Pool) :
    movedPool k p (q :: ps) x = movedPool k p ps (if q.pool = p then movePool k q.amount x else x) := by
  unfold movedPool
  by_cases h : q.pool = p <;> simp [h]

theorem foldl_movePool_pool (k : EntryKind) (ps : List EntryPart) (s : State) (p : Nat) :
    (ps.foldl (fun s q => s.setPool q.pool (movePool k q.amount (s.pool q.pool))) s).pool p = movedPool k p ps (s.pool p) := by
  induction ps generalizing s with
  | nil => rfl
  | cons q ps ih =>
    rw [List.foldl_cons, ih, movedPool_cons, pool_setPool]
    by_cases h : p = q.pool
    · simp [h]
    · simp [h, Ne.symm h]

theorem addPendings_pool (ps : List (Nat × Nat)) (s : State) (p : Nat) :
    (addPendings ps s).pool p =
      { s.pool p with pending := (s.pool p).pending + ((ps.filter (fun x => x.1 = p)).map (fun x => x.2)).sum } := by
  induction ps generalizing s with
  | nil => rfl
  | cons q ps ih =>
    have hs : addPendings (q :: ps) s = addPendings ps (addPending q.1 q.2 s) := rfl
    rw [hs, ih, addPending, pool_setPool]
    by_cases h : p = q.1
    · simp [h, Nat.add_assoc]
    · simp [h, Ne.symm h]

/-- 04 R70: a pool after the postings of an entry. -/
theorem postPools_pool (e : Entry) (s : State) (p : Nat) :
    (postPools e s).pool p =
      { movedPool e.kind p e.parts (s.pool p) with
        pending := (movedPool e.kind p e.parts (s.pool p)).pending + poolSum p e.forfeited } := by
  unfold postPools
  rw [addPendings_pool, foldl_movePool_pool]
  have h : ((e.forfeited.map (fun p => (p.pool, p.amount))).filter (fun x => x.1 = p)).map (fun x => x.2) =
      (e.forfeited.filter (fun x => x.pool = p)).map (fun x => x.amount) := by
    rw [List.filter_map, List.map_map]
    rfl
  rw [h]
  rfl

theorem poolSum_cons (p : Nat) (q : EntryPart) (ps : List EntryPart) :
    poolSum p (q :: ps) = (if q.pool = p then q.amount else 0) + poolSum p ps := by
  unfold poolSum
  by_cases h : q.pool = p <;> simp [h]

/-- 04 R70: how the parts of an entry of a kind move one total of their pool. -/
theorem movedPool_eq {k : EntryKind} {f : Nat → Pool → Pool} (h0 : ∀ x, f 0 x = x) (hadd : ∀ a b x, f b (f a x) = f (a + b) x)
    (hk : ∀ a x, movePool k a x = f a x) (p : Nat) (ps : List EntryPart) (x : Pool) :
    movedPool k p ps x = f (poolSum p ps) x := by
  induction ps generalizing x with
  | nil => exact (h0 x).symm
  | cons q ps ih =>
    rw [movedPool_cons, ih, poolSum_cons]
    by_cases h : q.pool = p
    · simp only [h, if_true, hk, hadd]
    · simp only [h, if_false, Nat.zero_add]

theorem movedPool_granted {k : EntryKind} (hk : k = .sale ∨ k = .reload ∨ k = .grant) (p : Nat) (ps : List EntryPart) (x : Pool) :
    movedPool k p ps x = { x with granted := x.granted + poolSum p ps } :=
  movedPool_eq (f := fun a x => { x with granted := x.granted + a }) (fun _ => rfl) (fun a b x => by simp [Nat.add_assoc])
    (fun a x => by obtain rfl | rfl | rfl := hk <;> rfl) p ps x

theorem movedPool_redeemed {k : EntryKind} (hk : k = .redeem ∨ k = .capture) (p : Nat) (ps : List EntryPart) (x : Pool) :
    movedPool k p ps x = { x with redeemed := x.redeemed + poolSum p ps } :=
  movedPool_eq (f := fun a x => { x with redeemed := x.redeemed + a }) (fun _ => rfl) (fun a b x => by simp [Nat.add_assoc])
    (fun a x => by obtain rfl | rfl := hk <;> rfl) p ps x

theorem movedPool_returned (p : Nat) (ps : List EntryPart) (x : Pool) :
    movedPool .refund p ps x = { x with returned := x.returned + poolSum p ps } :=
  movedPool_eq (f := fun a x => { x with returned := x.returned + a }) (fun _ => rfl) (fun a b x => by simp [Nat.add_assoc])
    (fun _ _ => rfl) p ps x

theorem movedPool_ungranted (p : Nat) (ps : List EntryPart) (x : Pool) :
    movedPool .void p ps x = { x with ungranted := x.ungranted + poolSum p ps } :=
  movedPool_eq (f := fun a x => { x with ungranted := x.ungranted + a }) (fun _ => rfl) (fun a b x => by simp [Nat.add_assoc])
    (fun _ _ => rfl) p ps x

/-! ## What the writing of an entry leaves -/

@[simp] theorem entered_cards (e : Entry) (s : State) : (entered e s).cards = s.cards := by simp [entered]

@[simp] theorem entered_holds (e : Entry) (s : State) : (entered e s).holds = s.holds := by simp [entered]

@[simp] theorem entered_journal (e : Entry) (s : State) : (entered e s).journal = pushEntry e s.journal := by simp [entered]

theorem entered_shop (e : Entry) (s : State) (i : Nat) :
    (entered e s).shop i = { s.shop i with live := charged e.kind s i e.parts (posted e i (s.shop i).live) } := by
  unfold entered
  have h : ∀ t : State, (postPools e t).shop i = t.shop i := fun t => by simp [State.shop]
  rw [h, postPositions_shop]
  rfl

theorem entered_pool (e : Entry) (s : State) (p : Nat) :
    (entered e s).pool p =
      { movedPool e.kind p e.parts (s.pool p) with
        pending := (movedPool e.kind p e.parts (s.pool p)).pending + poolSum p e.forfeited } := by
  unfold entered
  have h : ∀ t : State, (postPositions e t).pool p = t.pool p := fun t => by simp [State.pool]
  rw [postPools_pool, h]
  rfl

theorem sameElsewhere_entered (e : Entry) (s : State) : sameElsewhere s (entered e s) := by simp [sameElsewhere, entered]

theorem entered_shops {e : Entry} (s : State) (hd : shopPosting e = none) (hk : sponsorSign e.kind = 0) :
    (entered e s).shops = s.shops := by
  unfold entered
  rw [postPositions_eq_self _ hd hk]
  simp

/-! ## Its notices -/

theorem poolLowEdges_eq (s t : State) : poolLowEdges s t = lowNotices s t := rfl

theorem reserveNotice_eq (s : State) : reserveNotice s = journalReserveNotice s := by
  have h : (fun e => !releasable s.journal e) = (fun e : Entry => decide (s.journal.released < e.period)) := by
    funext e
    rw [Bool.eq_iff_iff]
    simp [releasable]
  unfold reserveNotice journalReserveNotice
  rw [h]

theorem reserveEdge_eq (s t : State) : reserveEdge s t = reserveNotices s t := by
  unfold reserveEdge reserveNotices reserveHolds
  rw [reserveNotice_eq]
  simp [Config.journalReserve]

theorem lowNotices_congr {s s' t t' : State} (hs : ∀ p, isLow (s.pool p) = isLow (s'.pool p)) (ht : ∀ p, t.pool p = t'.pool p) :
    lowNotices s t = lowNotices s' t' := by
  unfold lowNotices lowNotice
  simp only [hs, ht]

theorem reserveNotices_congr {s s' t t' : State} (hs : writable s.journal = writable s'.journal) (ht : t.journal = t'.journal)
    (hp : t.period.live = t'.period.live) : reserveNotices s t = reserveNotices s' t' := by
  unfold reserveNotices journalReserveNotice
  rw [hs, ht, hp]

/-! ## A request that ends in an entry -/

/-- What a request of link `l` leaves that has written the entry `e` on the state `u`, its action having begun in `s`. -/
structure Recorded (l : Link) (kind tag : Nat) (a : Answer) (e : Entry) (s u t : State) : Prop where
  cards : t.cards = u.cards
  holds : t.holds = u.holds
  journal : t.journal = pushEntry e u.journal
  shop : ∀ i, t.shop i = { u.shop i with live := charged e.kind u i e.parts (posted e i (u.shop i).live) }
  shops : shopPosting e = none → sponsorSign e.kind = 0 → t.shops = u.shops
  pool : ∀ p, t.pool p =
    { movedPool e.kind p e.parts (u.pool p) with
      pending := (movedPool e.kind p e.parts (u.pool p)).pending + poolSum p e.forfeited }
  elsewhere : sameElsewhere u t
  links : repliedWith l kind tag a (entryNotices s t) s t

/-- A figure that is not read from the links, after a request has been carried out. -/
theorem LinkFree.carried {α : Type} {f : State → α} (h : LinkFree f) (l : Link) (kind tag : Nat) (G : State → State)
    (N : State → List Notice) (A : State → Answer) (M : State → List Notice) (s : State) :
    f (carried l kind tag G N A M s) = f (G s) := by
  unfold Rules.carried
  rw [h.giveNotices, replied, h.setLink, h.giveNotices, h.begun]

/-- 11 R185 to R188: what stands on the links after a request that gives no notice after its reply. -/
theorem repliedWith_carried {G : State → State} (hG : Silent G) (l : Link) (kind tag : Nat) (N : State → List Notice)
    (A : State → Answer) (s : State) :
    repliedWith l kind tag (A s) (N s) s (carried l kind tag G N A (fun _ => []) s) := by
  have h : carried l kind tag G N A (fun _ => []) s = G (replied l kind tag (A s) (giveNotices (N s) (begun l kind tag s))) := by
    unfold carried
    rw [← hG.carries.begun, ← hG.giveNotices, giveNotices_nil]
    unfold replied
    rw [hG.carries.setLink, hG.carries.link]
  rw [h]
  exact ⟨hG.carries.tLink _, hG.carries.aLink _⟩

/-- A request whose effect writes an entry last, carried out. -/
theorem Told.recorded {c : Instr} {cs : State → List Check} {eff : State → Done} {P : State → State} {e : State → Entry}
    {A : State → Answer}
    (he : Told eff (fun s => entered (e s) (P s)) (fun s => enteredNotices (e s) (P s)) A (fun _ => [])) {s : State}
    (hr : ready (requestLink c) s = true) (hm : linkAndModeCheck (requestLink c) (requestFrame c).kind s = none)
    (hc : LinkFree (fun s => firstFailing (cs s))) (hp : firstFailing (cs s) = none)
    (hlow : ∀ p, isLow ((P s).pool p) = isLow (s.pool p)) (hw : writable (P s).journal = writable s.journal) :
    ∃ t, takeRequest c (fun s => ruled (cs s) (eff s) s) s = .next t ∧
      Recorded (requestLink c) (requestFrame c).kind (requestFrame c).tag (A s) (e s) s (P s) t := by
  have hf : ∀ {α : Type} {f : State → α}, LinkFree f → f (carried (requestLink c) (requestFrame c).kind (requestFrame c).tag
      (fun s => entered (e s) (P s)) (fun s => enteredNotices (e s) (P s)) A (fun _ => []) s) = f (entered (e s) (P s)) :=
    fun h => LinkFree.carried h _ _ _ _ _ _ _ s
  refine ⟨_, Told.passed he hr hm hc hp, ?_⟩
  refine
    { cards := (hf (f := fun t => t.cards) fun _ _ _ => rfl).trans (entered_cards _ _)
      holds := (hf (f := fun t => t.holds) fun _ _ _ => rfl).trans (entered_holds _ _)
      journal := (hf (f := fun t => t.journal) fun _ _ _ => rfl).trans (entered_journal _ _)
      shop := fun i => (hf (f := fun t => t.shop i) fun _ _ _ => rfl).trans (entered_shop _ _ i)
      shops := fun hd hk => (hf (f := fun t => t.shops) fun _ _ _ => rfl).trans (entered_shops _ hd hk)
      pool := fun p => (hf (f := fun t => t.pool p) fun _ _ _ => rfl).trans (entered_pool _ _ p)
      elsewhere := (hf (f := fun t => sameElsewhere (P s) t) fun _ _ _ => rfl).mpr (sameElsewhere_entered _ _)
      links := ?_ }
  have h := repliedWith_carried he.silent (requestLink c) (requestFrame c).kind (requestFrame c).tag
    (fun s => enteredNotices (e s) (P s)) A s
  have hn : enteredNotices (e s) (P s) = entryNotices s (carried (requestLink c) (requestFrame c).kind (requestFrame c).tag
      (fun s => entered (e s) (P s)) (fun s => enteredNotices (e s) (P s)) A (fun _ => []) s) := by
    unfold enteredNotices entryNotices
    rw [poolLowEdges_eq, reserveEdge_eq,
      lowNotices_congr hlow fun p => (hf (f := fun t => t.pool p) fun _ _ _ => rfl).symm,
      reserveNotices_congr hw (hf (f := fun t => t.journal) fun _ _ _ => rfl).symm
        (hf (f := fun t => t.period.live) fun _ _ _ => rfl).symm]
    rfl
  rw [← hn]
  exact h

end Sys2Proof.Proofs.Entries
end

section
/-! Sale, reload, redemption, holds placed, refunds, voids and grants: what each leaves. -/

namespace Sys2Proof.Proofs.Trade

open Sys2Proof Sys2Proof.Machine Sys2Proof.Laws Sys2Proof.Proofs.Links Sys2Proof.Proofs.Basics Sys2Proof.Proofs.Bounds
  Sys2Proof.Proofs.Steps Sys2Proof.Proofs.Rules Sys2Proof.Proofs.Requests Sys2Proof.Proofs.Entries

/-! ## Checks that pass -/

theorem modeCheck_of_valid {kind : Nat} {s : State} (hs : storeValid s = true) (hk : (kind == 0x75) = false)
    (hm : movingKind kind = false) (l : Link) (hl : l = .a ∨ terminalKind kind = true) : linkAndModeCheck l kind s = none := by
  simp only [storeValid, Bool.and_eq_true, decide_eq_true_eq, Bool.not_eq_true'] at hs
  exact (modeCheck_none l kind s).2 ⟨hl, hs.2, .inl hs.1, .inr hm, .inr (by simpa using hk)⟩

/-- 10 R172: what the back office's link may carry while the store is VALID. -/
theorem modeCheck_office {kind : Nat} {s : State} (hs : storeValid s = true) (hk : (kind == 0x75) = false)
    (hm : movingKind kind = false) : linkAndModeCheck .a kind s = none := modeCheck_of_valid hs hk hm .a (.inl rfl)

theorem journalRoom_none {s : State} (h : 64 < writable s.journal) : journalRoom s = none := by
  simpa [journalRoom, Config.journalReserve] using h

/-! ## Sale and reload -/

theorem boughtCard_eq (s : State) (pool : Option Nat) (shop amount : Nat) (c : Card) :
    boughtCard s pool shop amount c =
      { c with
        buckets := if grantedAmount s pool shop amount c = 0 then c.buckets
          else (credit (pool.getD 0) (grantExpiry s (pool.getD 0)) (grantedAmount s pool shop amount c) c.buckets).getD c.buckets } := by
  cases pool with
  | none => rfl
  | some p =>
    unfold boughtCard creditBonus grantedAmount
    dsimp only [Option.getD_some]
    split
    · rfl
    · rfl

/-- 04 R70: the pool of a bonus. -/
theorem poolSum_grantedParts (s : State) (pool : Option Nat) (g p : Nat) (hg : pool = none → g = 0) :
    poolSum p (grantedParts s pool g) = if some p = pool then g else 0 := by
  cases pool with
  | none => rfl
  | some q =>
    unfold grantedParts
    by_cases h0 : g = 0
    · simp [h0, poolSum]
    · by_cases hp : p = q
      · simp [h0, hp, poolSum]
      · simp [h0, hp, poolSum, Ne.symm hp]

/-- What a sale or reload leaves, but for its card. -/
theorem purchase_recorded {k : EntryKind} (hk : k = .sale ∨ k = .reload) {l : Link} {kind tag id shop amount : Nat}
    {pool : Option Nat} {ref : Nat} {c : Card} {s t : State} {a : Answer}
    (h : Recorded l kind tag a (boughtEntry s k id shop amount pool ref c) s (s.setCard id (boughtCard s pool shop amount c)) t) :
    (∀ i, t.shop i = if i = shop then { s.shop i with live := post { sold := amount } (s.shop i).live } else s.shop i) ∧
      (∀ p, t.pool p = if some p = pool then
        { s.pool p with granted := (s.pool p).granted + grantedAmount s pool shop amount c } else s.pool p) ∧
      sameElsewhere s t := by
  refine ⟨fun i => ?_, fun p => ?_, h.elsewhere⟩
  · have hd : shopPosting (boughtEntry s k id shop amount pool ref c) = some { sold := amount } := by obtain rfl | rfl := hk <;> rfl
    have hk0 : sponsorSign (boughtEntry s k id shop amount pool ref c).kind = 0 := by obtain rfl | rfl := hk <;> rfl
    rw [h.shop i, charged_of_unsponsored hk0, posted_eq (j := shop) rfl hd]
    by_cases hi : i = shop
    · rw [if_pos hi, if_pos hi]
      rfl
    · rw [if_neg hi, if_neg hi]
      rfl
  · have hp := h.pool p
    have hm : ∀ x, movedPool k p (boughtEntry s k id shop amount pool ref c).parts x =
        { x with granted := x.granted + if some p = pool then grantedAmount s pool shop amount c else 0 } := fun x => by
      rw [movedPool_granted (by obtain rfl | rfl := hk <;> simp)]
      rw [← poolSum_grantedParts s pool _ p (fun hn => by rw [hn]; rfl)]
      rfl
    rw [show (boughtEntry s k id shop amount pool ref c).kind = k from rfl, hm] at hp
    rw [hp]
    split <;> rfl

theorem sellChecks_pass {id shop amount : Nat} {pool : Option Nat} {s : State} (hid : cardIdOk id = true)
    (hshop : shopOk shop = true) (ham : amountOk amount = true) (hpool : pool.all poolOk = true)
    (ht : (s.shop shop).state = .trading) (hn : s.card? id = none) (hc : s.cards.length < 262144) (hj : 64 < writable s.journal) :
    firstFailing (sellChecks id shop amount pool s) = none := by
  have hc' : s.cards.length < Config.cardSlots := hc
  simp [sellChecks, purchaseFields, hid, hshop, ham, hpool, HoldSlots.mustTrade_of_trading ht, hn, hc', journalRoom_none hj,
    firstFailing_none]

theorem boughtCard_fresh (s : State) (pool : Option Nat) (shop amount : Nat) {c : Card} (hc : c.buckets = []) :
    boughtCard s pool shop amount c =
      { c with
        buckets := if grantedAmount s pool shop amount c = 0 then []
          else [⟨pool.getD 0, grantExpiry s (pool.getD 0), grantedAmount s pool shop amount c⟩] } := by
  rw [boughtCard_eq, hc]
  split <;> rfl

/-- Settles O16. -/
theorem saleCreatesTheCard : Obligations.SaleCreatesTheCard := by
  unfold Obligations.SaleCreatesTheCard
  intro l tag id shop amount reload pool ref s hr ht hid hshop ham hpool hst hn hlen hj plain g
  obtain ⟨t, hx, h⟩ := Told.recorded (c := .sellCard l tag id shop amount reload pool ref) (cs := sellChecks id shop amount pool)
    (told_purchase .sale id shop amount pool ref (c := fun s => soldCard s shop amount reload) fun _ _ _ => rfl) hr
    (HoldSlots.modeCheck_of_trades ht rfl) (fun _ _ _ => rfl) (sellChecks_pass hid hshop ham hpool hst hn hlen hj) (fun _ => rfl) rfl
  obtain ⟨hs, hp, he⟩ := purchase_recorded (.inl rfl) h
  have hc : boughtCard s pool shop amount (soldCard s shop amount reload) =
      { plain with buckets := if g = 0 then [] else [⟨pool.getD 0, grantExpiry s (pool.getD 0), g⟩] } :=
    boughtCard_fresh s pool shop amount rfl
  have hv : cardValue s (boughtCard s pool shop amount (soldCard s shop amount reload)) = amount + g := by
    rw [hc]
    by_cases h0 : g = 0
    · simp [cardValue, heldTotal, bucketSum, plain, h0]
    · simp [cardValue, heldTotal, bucketSum, plain, h0]
  refine ⟨t, hx, ?_, h.holds, h.journal, hs, hp, he, ?_⟩
  · rw [← hc]
    exact h.cards
  · have ha : boughtFlds s pool shop amount (soldCard s shop amount reload) =
        [Fld.u32 s.journal.next, .u32 amount, .u32 (amount + g)] ++ grantedFlds s pool shop amount plain := by
      unfold boughtFlds
      rw [hv, hc]
      rfl
    rw [← ha]
    exact h.links

theorem reloadChecks_pass {id shop amount : Nat} {pool : Option Nat} {c : Card} {s : State} (hid : cardIdOk id = true)
    (hshop : shopOk shop = true) (ham : amountOk amount = true) (hpool : pool.all poolOk = true)
    (ht : (s.shop shop).state = .trading) (hc : s.card? id = some c) (ha : c.state = .active) (hre : c.reloadable = true)
    (hl : cardValue s c + amount ≤ 5000000) (hj : 64 < writable s.journal) :
    firstFailing (reloadChecks id shop amount pool s) = none := by
  have hl' : cardValue s c + amount ≤ Config.cardLimit := hl
  simp [reloadChecks, purchaseFields, hid, hshop, ham, hpool, HoldSlots.mustTrade_of_trading ht, hc, card_of_card? hc,
    HoldSlots.mustBeActive_of_active ha, hre, hl', journalRoom_none hj, firstFailing_none]

/-- Settles O17. -/
theorem reloadAddsToTheBase : Obligations.ReloadAddsToTheBase := by
  unfold Obligations.ReloadAddsToTheBase
  intro l tag id shop amount pool ref c s hr ht hid hshop ham hpool hst hc ha hre hl hj more g c1
  obtain ⟨t, hx, h⟩ := Told.recorded (c := .reloadCard l tag id shop amount pool ref) (cs := reloadChecks id shop amount pool)
    (told_purchase .reload id shop amount pool ref
      (c := fun s => { s.card id with base := (s.card id).base + amount }) fun _ _ _ => rfl) hr
    (HoldSlots.modeCheck_of_trades ht rfl) (fun _ _ _ => rfl) (reloadChecks_pass hid hshop ham hpool hst hc ha hre hl hj)
    (fun _ => rfl) rfl
  rw [card_of_card? hc] at h
  obtain ⟨hs, hp, he⟩ := purchase_recorded (.inr rfl) h
  have hc1 : boughtCard s pool shop amount more = c1 := boughtCard_eq s pool shop amount more
  refine ⟨t, hx, ?_, h.holds, h.journal, hs, hp, he, ?_⟩
  · rw [← hc1]
    exact h.cards
  · have hf : boughtFlds s pool shop amount more =
        [Fld.u32 s.journal.next, .u32 (c.base + amount), .u32 (cardValue s c1)] ++ grantedFlds s pool shop amount more := by
      unfold boughtFlds
      rw [hc1]
    rw [← hf]
    exact h.links

/-! ## Redemption -/

theorem partsSum_entryParts (ps : List PromoPart) : ((entryParts ps).map (fun p => p.amount)).sum = (ps.map (fun p => p.amount)).sum := by
  rw [entryParts, List.map_map]
  rfl

/-- 06 R105, R106: what a REDEEM or CAPTURE entry posts. -/
theorem redemption_shop {k : EntryKind} (hk : k = .redeem ∨ k = .capture) (s u : State) (id shop ref : Nat) (x : Split) (i : Nat)
    (hs : u.shop i = s.shop i) (hf : ∀ p, (u.pool p).funder = (s.pool p).funder) :
    { u.shop i with
      live := charged k u i (entryParts x.promo) (posted (redemptionEntry s k id shop ref x) i (u.shop i).live) } =
      { s.shop i with
        live := sponsored 1 s i (entryParts x.promo)
          (if i = shop then
            post { redeemedBase := x.base, redeemedPromo := ((x.promo.map (fun p => p.amount)).sum : Nat), count := 1 }
              (s.shop i).live
          else (s.shop i).live) } := by
  have hd : shopPosting (redemptionEntry s k id shop ref x) =
      some { redeemedBase := x.base, redeemedPromo := ((x.promo.map (fun p => p.amount)).sum : Nat), count := 1 } := by
    rw [← partsSum_entryParts]
    obtain rfl | rfl := hk <;> rfl
  have hk1 : sponsorSign k = 1 := by obtain rfl | rfl := hk <;> rfl
  have hp : ∀ q, sponsored 1 u i (entryParts x.promo) q = sponsored 1 s i (entryParts x.promo) q := fun q => by
    unfold sponsored
    simp only [hf]
  rw [charged_of_sponsored (by rw [hk1]; decide), hk1, posted_eq (j := shop) rfl hd, hs, hp]

theorem takingChecks_of {id shop amount : Nat} {c : Card} {s : State} (hid : cardIdOk id = true) (hshop : shopOk shop = true)
    (ham : amountOk amount = true) (ht : (s.shop shop).state = .trading) (hc : s.card? id = some c) (ha : c.state = .active) :
    ∀ x ∈ takingChecks id shop amount s, x = none := by
  simp [takingChecks, hid, hshop, ham, HoldSlots.mustTrade_of_trading ht, hc, card_of_card? hc, HoldSlots.mustBeActive_of_active ha]

theorem splitCheck_none {s : State} {shop amount : Nat} {part : Bool} {c : Card}
    (h : amount ≤ spendable s shop c ∨ (part = true ∧ spendable s shop c ≠ 0)) : splitCheck s shop amount part c = none := by
  simp only [splitCheck, require_none, splitAmount]
  obtain h | ⟨hp, h0⟩ := h
  · simp [h]
  · split
    · rfl
    · simp [hp, h0]

theorem redeemChecks_pass {id shop amount : Nat} {part : Bool} {c : Card} {s : State} (hid : cardIdOk id = true)
    (hshop : shopOk shop = true) (ham : amountOk amount = true) (ht : (s.shop shop).state = .trading) (hc : s.card? id = some c)
    (ha : c.state = .active) (hj : 64 < writable s.journal)
    (hv : amount ≤ spendable s shop c ∨ (part = true ∧ spendable s shop c ≠ 0)) :
    firstFailing (redeemChecks id shop amount part s) = none := by
  rw [firstFailing_none, redeemChecks]
  intro x hx
  rcases List.mem_append.1 hx with hx | hx
  · exact takingChecks_of hid hshop ham ht hc ha x hx
  · rw [card_of_card? hc] at hx
    simp only [List.mem_cons, List.not_mem_nil, or_false] at hx
    obtain rfl | rfl := hx
    · exact journalRoom_none hj
    · exact splitCheck_none hv

/-- Settles O22. -/
theorem redeemTakesTheSplit : Obligations.RedeemTakesTheSplit := by
  unfold Obligations.RedeemTakesTheSplit
  intro l tag id shop amount part ref c s hr ht hid hshop ham hst hc hact hj hv a x c1
  obtain ⟨t, hx, h⟩ := Told.recorded (c := .redeem l tag id shop amount part ref) (cs := redeemChecks id shop amount part)
    (told_redeem id shop amount ref) hr (HoldSlots.modeCheck_of_trades ht rfl) (fun _ _ _ => rfl)
    (redeemChecks_pass hid hshop ham hst hc hact hj hv) (fun _ => rfl) rfl
  have hcard : s.card id = c := card_of_card? hc
  have hsplit : takenSplit s id shop amount = x := by simp only [takenSplit, hcard, takenAmount, x, a]
  have htaken : takenCard s id shop amount = afterSplit s shop a c := by simp only [takenCard, hcard, takenAmount, a]
  have hans : redeemAnswer id shop amount s =
      ⟨if amount ≤ spendable s shop c then .ok else .partialTaken,
         [Fld.u32 s.journal.next, .u32 a] ++ listFlds (x.promo.map (fun p => [Fld.u8 p.pool, .u16 p.expiry, .u32 p.amount])) ++
           [Fld.u32 x.base] ++ [Fld.u32 c1.base, .u32 (cardValue s c1)]⟩ := by
    unfold redeemAnswer
    rw [hsplit, htaken, hcard]
    simp only [splitFlds, List.append_assoc]
    rfl
  rw [hsplit, htaken, hans] at h
  refine ⟨t, hx, h.cards, h.holds, h.journal, fun i => ?_, fun p => ?_, h.elsewhere, h.links⟩
  · exact (h.shop i).trans (redemption_shop (.inl rfl) s _ id shop ref x i rfl fun _ => rfl)
  · refine (h.pool p).trans ?_
    rw [show (redemptionEntry s .redeem id shop ref x).kind = .redeem from rfl, movedPool_redeemed (.inl rfl)]
    rfl

end Sys2Proof.Proofs.Trade
end

section
/-! Holds placed, released and captured: references, returned parts, emptied buckets. -/

namespace Sys2Proof.Proofs.Holding

open Sys2Proof Sys2Proof.Machine Sys2Proof.Laws Sys2Proof.Proofs.Links Sys2Proof.Proofs.Basics Sys2Proof.Proofs.Buckets
  Sys2Proof.Proofs.Bounds Sys2Proof.Proofs.Steps Sys2Proof.Proofs.Amounts Sys2Proof.Proofs.Ends Sys2Proof.Proofs.Rules
  Sys2Proof.Proofs.Requests Sys2Proof.Proofs.Entries Sys2Proof.Proofs.Trade

/-! ## PLACE_HOLD -/

theorem placeChecks_pass {id shop amount : Nat} {part : Bool} {c : Card} {s : State} (hid : cardIdOk id = true)
    (hshop : shopOk shop = true) (ham : amountOk amount = true) (ht : (s.shop shop).state = .trading) (hc : s.card? id = some c)
    (ha : c.state = .active) (hh : c.holds.length < 4) (hn : s.lowestFreeHoldSlot < 1024)
    (hv : amount ≤ spendable s shop c ∨ (part = true ∧ spendable s shop c ≠ 0)) :
    firstFailing (placeChecks id shop amount part s) = none := by
  rw [firstFailing_none, placeChecks]
  intro x hx
  rcases List.mem_append.1 hx with hx | hx
  · exact takingChecks_of hid hshop ham ht hc ha x hx
  · rw [card_of_card? hc] at hx
    simp only [List.mem_cons, List.not_mem_nil, or_false] at hx
    obtain rfl | rfl | rfl := hx
    · simpa [Config.cardHoldLimit] using hh
    · simpa [Config.holdSlots] using hn
    · exact splitCheck_none hv

/-- Settles O26. -/
theorem placeHoldSetsValueAside : Obligations.PlaceHoldSetsValueAside := by
  unfold Obligations.PlaceHoldSetsValueAside
  intro l tag id shop amount part ref c s hr ht hid hshop ham hst hc hact hlen hn hv a x n g c1 h
  have hp := Told.passed (c := .placeHold l tag id shop amount part ref) (cs := placeChecks id shop amount part)
    (told_place id shop amount ref) hr (HoldSlots.modeCheck_of_trades ht rfl) (fun _ _ _ => rfl)
    (placeChecks_pass hid hshop ham hst hc hact hlen hn hv)
  rw [carried_plain] at hp
  refine Eq.trans hp ?_
  have hcard : s.card id = c := card_of_card? hc
  have hsplit : takenSplit s id shop amount = x := by simp only [takenSplit, hcard, takenAmount, x, a]
  have hcard1 : holdingCard s id shop amount = c1 := by
    unfold holdingCard takenCard takenAmount
    rw [hcard]
    rfl
  have hans : placeAnswer id shop amount ref s =
      ⟨if amount ≤ spendable s shop c then .ok else .partialTaken,
       [Fld.u16 n, .u16 g, .u32 (splitTotal x)] ++ listFlds (x.promo.map (fun p => [Fld.u8 p.pool, .u16 p.expiry, .u32 p.amount])) ++
         [Fld.u32 x.base] ++ [Fld.u16 h.remaining, .u32 (spendable s shop c1)]⟩ := by
    unfold placeAnswer
    rw [hsplit, hcard1, hcard]
    simp only [splitFlds, List.append_assoc]
    rfl
  have hstate : holdPlaced id shop amount ref s =
      { s with
        cards := tablePut id c1 s.cards
        holds := tableWrite freeHoldSlot n { s.holdSlot n with hold := some h } s.holds } := by
    unfold holdPlaced
    rw [hsplit, hcard1]
    rfl
  rw [hans, hstate]
  rfl

/-! ## References -/

/-- 02 R27: what a reference is answered, where it does not name the current hold. -/
def staleCode (s : State) (n gen : Nat) : Option Result :=
  if 1024 ≤ n then some .badField
  else if (s.holdSlot n).hold.isSome = true ∧ gen = (s.holdSlot n).gen then none
  else if gen ≠ (s.holdSlot n).gen ∧ (s.holdSlot n).gen = (if gen = 65535 then 0 else gen + 1) ∧ (s.holdSlot n).lastEnd = .expired then
    some .holdExpired
  else if gen ≠ (s.holdSlot n).gen ∧ (s.holdSlot n).gen = (if gen = 65535 then 0 else gen + 1) ∧ (s.holdSlot n).lastEnd = .restart then
    some .holdDropped
  else some .unknownHold

theorem resolveHold_eq (s : State) (n gen : Nat) : resolveHold s n gen = (staleCode s n gen).map (fun r => ⟨r, []⟩) := by
  unfold resolveHold staleCode
  by_cases hn : n < Config.holdSlots
  · have hn' : ¬1024 ≤ n := Nat.not_le.2 hn
    rw [if_pos hn, if_neg hn']
    by_cases hg : gen = (s.holdSlot n).gen
    · rw [if_pos hg]
      cases hh : (s.holdSlot n).hold.isSome <;> simp [hg, require]
    · rw [if_neg hg, if_neg (show ¬((s.holdSlot n).hold.isSome = true ∧ gen = (s.holdSlot n).gen) from fun h => hg h.2)]
      by_cases hb : (s.holdSlot n).gen = (if gen = 65535 then 0 else gen + 1)
      · rw [if_pos hb]
        have hg' : ¬gen = (if gen = 65535 then 0 else gen + 1) := hb ▸ hg
        cases hl : (s.holdSlot n).lastEnd <;> simp [hg', hb, behindAnswer]
      · rw [if_neg hb, if_neg (fun h => hb h.2.1), if_neg (fun h => hb h.2.1)]
        rfl
  · have hn' : 1024 ≤ n := Nat.not_lt.1 hn
    rw [if_neg hn, if_pos hn']
    rfl

/-- Settles O27. -/
theorem staleReferencesAreAnswered : Obligations.StaleReferencesAreAnswered := by
  unfold Obligations.StaleReferencesAreAnswered
  intro l tag n gen shop amount ref s hr ht hshop ham x code answered
  have hcode : code = staleCode s n gen := rfl
  have hanswered : ∀ r, firstFailing [resolveHold s n gen, sameShop s n shop] = some ⟨r, []⟩ → answered r := fun r hf => by
    have hcap : firstFailing (captureChecks n gen shop amount s) = some ⟨r, []⟩ := by
      rw [captureChecks, Replies.require_true (by simp [hshop, ham])]
      cases hr : resolveHold s n gen with
      | some a => simpa [hr] using hf
      | none => cases hs : sameShop s n shop <;> simp [hr, hs] at hf ⊢; exact hf
    have hrel : firstFailing (releaseChecks n gen shop s) = some ⟨r, []⟩ := by
      rw [releaseChecks, Replies.require_true hshop]
      exact hf
    have hext : firstFailing (extendChecks n gen shop s) = some ⟨r, []⟩ := by
      rw [extendChecks, Replies.require_true hshop]
      cases hr : resolveHold s n gen with
      | some a => simpa [hr] using hf
      | none => cases hs : sameShop s n shop <;> simp [hr, hs] at hf ⊢; exact hf
    exact ⟨refused (c := .captureHold l tag n gen shop amount ref) (cs := captureChecks n gen shop amount)
        (e := captureEffect n shop amount ref) hr (HoldSlots.modeCheck_of_trades ht rfl) (fun _ _ _ => rfl) hcap,
      refused (c := .releaseHold l tag n gen shop) (cs := releaseChecks n gen shop) (e := releaseEffect n shop) hr
        (HoldSlots.modeCheck_of_trades ht rfl) (fun _ _ _ => rfl) hrel,
      refused (c := .extendHold l tag n gen shop) (cs := extendChecks n gen shop) (e := extendEffect n shop) hr
        (HoldSlots.modeCheck_of_trades ht rfl) (fun _ _ _ => rfl) hext⟩
  rw [hcode]
  refine ⟨fun r hc => hanswered r ?_, fun hc hh => hanswered _ ?_⟩
  · rw [resolveHold_eq, hc]
    rfl
  · have hs : sameShop s n shop = some ⟨.wrongShop, []⟩ := by
      have hcur : ∃ h, (s.holdSlot n).hold = some h := by
        unfold staleCode at hc
        split_ifs at hc with h1 h2
        exact Option.isSome_iff_exists.1 h2.1
      obtain ⟨h, hh'⟩ := hcur
      have hne : shop ≠ (s.hold n).shop := by
        rw [HoldSlots.hold_of_placed hh']
        exact fun he => hh h hh' he.symm
      exact Replies.require_false (by simp [hne]) _ _
    rw [resolveHold_eq, hc, hs]
    rfl

/-! ## Emptied buckets -/

/-- 01 R7: the held parts of a card that refer to a bucket. -/
theorem refersTo_heldParts (s : State) (c : Card) (b : Bucket) : refersTo (heldParts s c) b = true ↔ referred s c.holds b := by
  unfold refersTo heldParts referred
  simp only [List.any_eq_true, List.mem_flatMap, Bool.and_eq_true, beq_iff_eq]
  constructor
  · rintro ⟨p, ⟨r, hr, hp⟩, hpool, hexp⟩
    cases hh : (s.holdSlot r.slot).hold with
    | none => simp [hh] at hp
    | some h => exact ⟨r, hr, h, hh, p, by simpa [hh] using hp, hpool, hexp⟩
  · rintro ⟨r, hr, h, hh, p, hp, hpool, hexp⟩
    exact ⟨p, ⟨r, hr, by simpa [hh] using hp⟩, hpool, hexp⟩

theorem tidyCard_spec (s : State) (c : Card) :
    (tidyCard s c).buckets.Sublist c.buckets ∧
      ∀ b ∈ c.buckets, b ∈ (tidyCard s c).buckets ↔ (b.amount ≠ 0 ∨ referred s c.holds b) := by
  refine ⟨List.filter_sublist, fun b hb => ?_⟩
  simp only [tidyCard, tidy, List.mem_filter, hb, true_and, Bool.or_eq_true, decide_eq_true_eq, refersTo_heldParts]

theorem referred_congr {s t : State} {rs : List HoldRef} {b : Bucket} (h : ∀ n, t.holdSlot n = s.holdSlot n) :
    referred t rs b ↔ referred s rs b := by
  unfold referred
  simp only [h]

/-! ## Parts returned -/

theorem usable_eq_not_unusable (s : State) (p : PromoPart) : usable s p.pool p.expiry = !unusable s p := by
  rw [Bool.eq_iff_iff]
  simp [usable, unusable]

/-- 02 R34: the return of a part whose bucket the list has. -/
theorem returnPromo_cons_of_bucket {s : State} {p : PromoPart} {ps : List PromoPart} {bs : List Bucket}
    (h : hasBucket p.pool p.expiry bs = true) :
    returnPromo s (p :: ps) bs =
      if unusable s p then ((returnPromo s ps bs).1, (p.pool, p.amount) :: (returnPromo s ps bs).2)
      else returnPromo s ps (mergeBucket p.pool p.expiry p.amount bs) := by
  rw [returnPromo_cons, usable_eq_not_unusable, credit, if_pos h]
  cases unusable s p <;> rfl

theorem mergeBucket_keys (p d a : Nat) (bs : List Bucket) :
    (mergeBucket p d a bs).map (fun b => (b.pool, b.expiry)) = bs.map (fun b => (b.pool, b.expiry)) := by
  rw [mergeBucket_eq, List.map_map]
  refine List.map_congr_left fun b _ => ?_
  simp only [Function.comp_apply, atBucket_pool, atBucket_expiry]

theorem hasBucket_of_keys {bs cs : List Bucket} (h : cs.map (fun b => (b.pool, b.expiry)) = bs.map (fun b => (b.pool, b.expiry)))
    (p d : Nat) : hasBucket p d cs = hasBucket p d bs := by
  have hk : ∀ xs : List Bucket, hasBucket p d xs = (xs.map (fun b => (b.pool, b.expiry))).any (fun k => k.1 == p && k.2 == d) :=
    fun xs => by rw [List.any_map]; rfl
  rw [hk, hk, h]

theorem amountAt_eq (p d : Nat) (bs : List Bucket) : amountAt p d bs = bucketSum (bs.filter (fun b => b.pool = p ∧ b.expiry = d)) := rfl

/-- 01 R6: what a merge adds to one bucket. -/
theorem amountAt_merge {q e a : Nat} {bs : List Bucket} (ho : bucketsOrdered bs) (h : hasBucket q e bs = true) (p d : Nat) :
    amountAt p d (mergeBucket q e a bs) = amountAt p d bs + if q = p ∧ e = d then a else 0 := by
  have hf : (mergeBucket q e a bs).filter (fun b => b.pool = p ∧ b.expiry = d) =
      (bs.filter (fun b => b.pool = p ∧ b.expiry = d)).map (atBucket q e (fun x => x + a)) := by
    rw [mergeBucket_eq, List.filter_map]
    congr 1
    refine List.filter_congr fun b _ => ?_
    simp only [Function.comp_apply, atBucket_pool, atBucket_expiry]
  rw [amountAt_eq, amountAt_eq, hf]
  by_cases hk : q = p ∧ e = d
  · obtain ⟨rfl, rfl⟩ := hk
    obtain ⟨b, hb, hp, hd⟩ := (hasBucket_true_iff _ _ _).1 h
    have hm : b ∈ bs.filter (fun b => b.pool = q ∧ b.expiry = e) := List.mem_filter.2 ⟨hb, by simp [hp, hd]⟩
    have := bucketSum_atBucket (g := fun x => x + a) (ho.1.filter _) hm hp hd
    simp only [and_self, if_true]
    omega
  · rw [if_neg hk, map_atBucket_absent]
    · rfl
    · rw [hasBucket_false_iff]
      intro b hb hx
      have hb' := (List.mem_filter.1 hb).2
      simp only [decide_eq_true_eq] at hb'
      exact hk ⟨hx.1.symm.trans hb'.1, hx.2.symm.trans hb'.2⟩

theorem partsAt_cons (p d : Nat) (x : PromoPart) (ps : List PromoPart) :
    partsAt p d (x :: ps) = (if x.pool = p ∧ x.expiry = d then x.amount else 0) + partsAt p d ps := by
  unfold partsAt
  by_cases h : x.pool = p ∧ x.expiry = d <;> simp [h]

/-- 02 R34: of parts whose buckets the list has, the usable ones are added to them, the others go to pending expiry, in part order. -/
theorem returnPromo_places (s : State) (ps : List PromoPart) {bs : List Bucket} (ho : bucketsOrdered bs)
    (h : ps.all (fun p => hasBucket p.pool p.expiry bs) = true) :
    (returnPromo s ps bs).2 = (ps.filter (unusable s)).map (fun p => (p.pool, p.amount)) ∧
      (returnPromo s ps bs).1.map (fun b => (b.pool, b.expiry)) = bs.map (fun b => (b.pool, b.expiry)) ∧
      ∀ p d, amountAt p d (returnPromo s ps bs).1 = amountAt p d bs +
        (if s.time.day ≤ d ∧ (s.pool p).state ≠ .closed then partsAt p d ps else 0) := by
  induction ps generalizing bs with
  | nil => exact ⟨rfl, rfl, fun p d => by simp [returnPromo, partsAt]⟩
  | cons x ps ih =>
    rw [List.all_cons, Bool.and_eq_true] at h
    obtain ⟨hx, hps⟩ := h
    rw [returnPromo_cons_of_bucket hx]
    cases hu : unusable s x with
    | true =>
      obtain ⟨h2, h1, ha⟩ := ih ho hps
      refine ⟨by simp [hu, h2], h1, fun p d => ?_⟩
      have hne : s.time.day ≤ d ∧ (s.pool p).state ≠ .closed → ¬(x.pool = p ∧ x.expiry = d) := by
        rintro ⟨hd, hc⟩ ⟨rfl, rfl⟩
        simp only [unusable, Bool.or_eq_true, decide_eq_true_eq] at hu
        exact hu.elim (Nat.not_lt.2 hd) hc
      have := ha p d
      simp only [if_true]
      rw [this, partsAt_cons]
      split
      · rename_i hp
        rw [if_neg (hne hp), Nat.zero_add]
      · rfl
    | false =>
      have hk := mergeBucket_keys x.pool x.expiry x.amount bs
      obtain ⟨h2, h1, ha⟩ := ih (bs := mergeBucket x.pool x.expiry x.amount bs) (bucketsOrdered_merge _ _ _ ho) (by
        rw [List.all_eq_true] at hps ⊢
        intro p hp
        rw [hasBucket_of_keys hk]
        exact hps p hp)
      simp only [Bool.false_eq_true, if_false]
      refine ⟨by simp [hu, h2], h1.trans hk, fun p d => ?_⟩
      rw [ha p d, amountAt_merge ho hx, partsAt_cons]
      have hus : x.pool = p ∧ x.expiry = d → s.time.day ≤ d ∧ (s.pool p).state ≠ .closed := by
        rintro ⟨rfl, rfl⟩
        simp only [unusable, Bool.or_eq_false_iff, decide_eq_false_iff_not, Nat.not_lt] at hu
        exact hu
      by_cases hxp : x.pool = p ∧ x.expiry = d
      · rw [if_pos hxp, if_pos (hus hxp), if_pos (hus hxp), Nat.add_assoc]
      · rw [if_neg hxp, Nat.add_zero, Nat.zero_add]

/-! ## The end of a hold -/

theorem addPendings_frame (ps : List (Nat × Nat)) (s : State) : addPendings ps s = { s with pools := (addPendings ps s).pools } := by
  induction ps generalizing s with
  | nil => rfl
  | cons p ps ih =>
    have h : addPendings (p :: ps) s = addPendings ps (addPending p.1 p.2 s) := rfl
    rw [h, ih]
    rfl

/-- What the end of a hold leaves: its card, its slot, the pending expiry, and nothing else. -/
structure HoldEnded (n : Nat) (h : Hold) (c : Card) (back : Split) (e : LastEnd) (s t : State) : Prop where
  card : t.card h.card = returnedCard n back e s c
  cards : t.cards = tablePut h.card (returnedCard n back e s c) s.cards
  holds : t.holds = tableWrite freeHoldSlot n (endedSlot (s.holdSlot n) e) s.holds
  pool : ∀ p, t.pool p = { s.pool p with
    pending := (s.pool p).pending + (((returnPromo s back.promo c.buckets).2.filter (fun x => x.1 = p)).map (fun x => x.2)).sum }
  frame : t = { s with holds := t.holds, cards := t.cards, pools := t.pools }

theorem endHold_ended {n : Nat} {h : Hold} {c : Card} {s : State} (hh : (s.holdSlot n).hold = some h) (hc : s.card? h.card = some c)
    (back : Split) (e : LastEnd) : HoldEnded n h c back e s (endHold n back e s) := by
  rw [endHold_placed hh hc]
  refine ⟨?_, ?_, ?_, fun p => addPendings_pool _ _ p, ?_⟩
  · apply card_of_card?
    simp [State.card?, tableGet_put_same, State.setCard]
  · simp [State.setCard, freed, State.setHoldSlot]
  · simp [State.setCard, freed, State.setHoldSlot]
  · rw [addPendings_frame]
    rfl

/-- 02 R34, 01 R7: the card of an ended hold. -/
theorem returnedCard_spec {n : Nat} {h : Hold} {c : Card} {back : Split} {e : LastEnd} {s t : State}
    (ht : HoldEnded n h c back e s t) :
    returnedCard n back e s c =
        { c with
          base := c.base + back.base
          buckets := (returnedCard n back e s c).buckets
          holds := c.holds.filter (fun r => r ≠ ⟨n, (s.holdSlot n).gen⟩) } ∧
      (returnedCard n back e s c).buckets.Sublist (returnPromo s back.promo c.buckets).1 ∧
      ∀ b ∈ (returnPromo s back.promo c.buckets).1, b ∈ (returnedCard n back e s c).buckets ↔
        (b.amount ≠ 0 ∨ referred t (c.holds.filter (fun r => r ≠ ⟨n, (s.holdSlot n).gen⟩)) b) := by
  have hslot : ∀ m, t.holdSlot m = (freed n e s).holdSlot m := fun m => by
    unfold State.holdSlot
    rw [ht.holds]
    rfl
  obtain ⟨hsub, hmem⟩ := tidyCard_spec (freed n e s) (cardAfterReturn s ⟨n, (s.holdSlot n).gen⟩ back c)
  refine ⟨rfl, hsub, fun b hb => (hmem b hb).trans ?_⟩
  rw [referred_congr hslot]
  rfl

theorem sameShop_none {s : State} {n shop : Nat} {h : Hold} (hh : (s.holdSlot n).hold = some h) (hs : h.shop = shop)
    (hd : (s.shop shop).state ≠ .unused) : sameShop s n shop = none :=
  HoldSlots.sameShop_of_defined (by rw [HoldSlots.hold_of_placed hh, hs]) hd

theorem releaseChecks_pass {n shop : Nat} {h : Hold} {s : State} (hshop : shopOk shop = true) (hn : n < 1024)
    (hh : (s.holdSlot n).hold = some h) (hs : h.shop = shop) (hd : (s.shop shop).state ≠ .unused) :
    firstFailing (releaseChecks n (s.holdSlot n).gen shop s) = none := by
  rw [releaseChecks, Replies.require_true hshop, HoldSlots.resolveHold_current hn hh, sameShop_none hh hs hd]
  rfl

/-- Settles O28. -/
theorem releaseReturnsTheParts : Obligations.ReleaseReturnsTheParts := by
  unfold Obligations.ReleaseReturnsTheParts
  refine ⟨?_, fun s ps bs ho h => returnPromo_places s ps ho h, fun s c => ⟨_, rfl, tidyCard_spec s c⟩⟩
  intro l tag n shop h c s hr ht hshop hn hh hs hd hc g back gone rs
  have he := endHold_ended hh hc h.parts .released
  have hhold : s.hold n = h := HoldSlots.hold_of_placed hh
  have hst : holdReleased n s = endHold n h.parts .released s := by rw [holdReleased, hhold]
  obtain ⟨hcard, hsub, hmem⟩ := returnedCard_spec he
  have hp := Told.passed (c := .releaseHold l tag n g shop) (cs := releaseChecks n g shop) (told_release n shop) hr
    (HoldSlots.modeCheck_of_trades ht rfl) (fun _ _ _ => rfl) (releaseChecks_pass hshop hn hh hs hd)
  rw [carried_plain, hst] at hp
  have hans : releaseFlds36 n shop s =
      [Fld.u32 (h.total - gone), .u32 gone] ++ listFlds (back.2.map (fun p => [Fld.u8 p.1])) ++
        [Fld.u32 (spendable (endHold n h.parts .released s) shop ((endHold n h.parts .released s).card h.card))] := by
    unfold releaseFlds36 releasedParts pendingOfReturn
    rw [hst, hhold, card_of_card? hc]
    rfl
  rw [hans] at hp
  refine ⟨endHold n h.parts .released s, hp, he.holds, ⟨_, ?_, hsub, hmem⟩, he.pool, he.frame⟩
  rw [he.cards]
  exact congrArg (fun x => tablePut h.card x s.cards) hcard

/-! ## CAPTURE_HOLD -/

theorem mustCapture_none {s : State} {shop : Nat} (h : (s.shop shop).state = .trading ∨ (s.shop shop).state = .barred) :
    mustCapture s shop = none := by
  unfold mustCapture
  obtain h | h := h <;> rw [h]

theorem captureChecks_pass {n shop amount : Nat} {h : Hold} {s : State} (hshop : shopOk shop = true) (ham : amountOk amount = true)
    (hn : n < 1024) (hh : (s.holdSlot n).hold = some h) (hs : h.shop = shop)
    (hd : (s.shop shop).state = .trading ∨ (s.shop shop).state = .barred) (hle : amount ≤ h.total) (hj : 64 < writable s.journal) :
    firstFailing (captureChecks n (s.holdSlot n).gen shop amount s) = none := by
  have hu : (s.shop shop).state ≠ .unused := by obtain hd | hd := hd <;> rw [hd] <;> decide
  rw [captureChecks, Replies.require_true (by simp [hshop, ham]), HoldSlots.resolveHold_current hn hh, sameShop_none hh hs hu,
    mustCapture_none hd, Replies.require_true (by simp [HoldSlots.hold_of_placed hh, hle]), journalRoom_none hj]
  rfl

/-- Settles O29. -/
theorem captureConsumesTheHold : Obligations.CaptureConsumesTheHold := by
  unfold Obligations.CaptureConsumesTheHold
  intro l tag n shop amount ref h c s hr ht hshop ham hn hh hs hd hle hj hc g used left back gone rs
  have he := endHold_ended hh hc left .captured
  have hhold : s.hold n = h := HoldSlots.hold_of_placed hh
  have hst : holdCaptured n amount s = endHold n left .captured s := by rw [holdCaptured, capturedBack, hhold]
  obtain ⟨t, hx, hrec⟩ := Told.recorded (c := .captureHold l tag n g shop amount ref) (cs := captureChecks n g shop amount)
    (told_capture n shop amount ref) hr (HoldSlots.modeCheck_of_trades ht rfl) (fun _ _ _ => rfl)
    (captureChecks_pass hshop ham hn hh hs hd hle hj) (fun p => by rw [hst, he.pool p]; rfl) (by rw [hst, he.frame])
  rw [hst, hhold] at hrec
  obtain ⟨hcard, hsub, hmem⟩ := returnedCard_spec he
  have hslot : ∀ m, t.holdSlot m = (endHold n left .captured s).holdSlot m := fun m => by
    unfold State.holdSlot
    rw [hrec.holds]
  have hv : ∀ x : Card, cardValue t x = cardValue (endHold n left .captured s) x := fun x => by
    unfold cardValue heldTotal slotTotal
    simp only [hslot]
  refine ⟨t, returnedCard n left .captured s c, hx, hrec.cards.trans he.cards, congrArg Card.base hcard, hsub, fun b hb => ?_,
    congrArg Card.holds hcard, ?_, hrec.holds.trans he.holds, ?_, fun i => ?_, fun p => ?_, ?_, ?_⟩
  · rw [hmem b hb, referred_congr hslot]
  · exact hcard
  · rw [hrec.journal, he.frame]
    rfl
  · refine (hrec.shop i).trans (redemption_shop (.inr rfl) s _ h.card shop (ref.getD h.ref) used i ?_ fun p => ?_)
    · rw [he.frame]
      rfl
    · rw [he.pool p]
  · refine (hrec.pool p).trans ?_
    rw [show (redemptionEntry s .capture h.card shop (ref.getD h.ref) used).kind = .capture from rfl, movedPool_redeemed (.inr rfl),
      he.pool p]
    rfl
  · have := hrec.elsewhere
    rw [he.frame] at this
    exact this
  · have hans : captureFlds n amount s =
        [Fld.u32 s.journal.next] ++ listFlds (used.promo.map (fun p => [Fld.u8 p.pool, .u16 p.expiry, .u32 p.amount])) ++
          [Fld.u32 used.base] ++ [Fld.u32 (splitTotal left - gone), .u32 gone] ++ listFlds (back.2.map (fun p => [Fld.u8 p.1])) ++
          [Fld.u32 (returnedCard n left .captured s c).base, .u32 (cardValue t (returnedCard n left .captured s c))] := by
      unfold captureFlds capturedGone capturedBack pendingOfReturn
      rw [hst, hhold, card_of_card? hc, he.card, hv]
      simp only [splitFlds, pendingFlds, List.append_assoc]
      rfl
    rw [← hans]
    exact hrec.links

end Sys2Proof.Proofs.Holding
end

section
/-! Refunds, voids and grants, and the requests that change one pool. -/

namespace Sys2Proof.Proofs.Refunding

open Sys2Proof Sys2Proof.Machine Sys2Proof.Laws Sys2Proof.Proofs.Links Sys2Proof.Proofs.Basics Sys2Proof.Proofs.Bounds
  Sys2Proof.Proofs.Steps Sys2Proof.Proofs.Ends Sys2Proof.Proofs.Rules Sys2Proof.Proofs.Requests Sys2Proof.Proofs.Replies
  Sys2Proof.Proofs.Entries Sys2Proof.Proofs.Trade

/-! ## REFUND -/

theorem entry_of_entry? {s : State} {q : Nat} {e : Entry} (h : s.entry? q = some e) : s.entry q = e := by
  rw [State.entry, h]
  rfl

theorem mustTakeBack_none {s : State} {shop : Nat} (h : (s.shop shop).state = .trading ∨ (s.shop shop).state = .barred) :
    mustTakeBack s shop = none := by
  unfold mustTakeBack
  obtain h | h := h <;> rw [h]

theorem refundChecks_pass {original shop amount : Nat} {target : Option Nat} {e : Entry} {s : State} (hq : seqOk original = true)
    (hshop : shopOk shop = true) (ham : amountOk amount = true) (htgt : target.all cardIdOk = true) (he : s.entry? original = some e)
    (hk : e.kind = .redeem ∨ e.kind = .capture) (hes : e.shop = some shop) (hrem : (amount : Int) ≤ refundRemainder e)
    (hst : (s.shop shop).state = .trading ∨ (s.shop shop).state = .barred) (hj : 64 < writable s.journal)
    (hact : (destCard s (destination e target) shop).state = .active)
    (hnew : s.card? (destination e target) = none → (realTarget e target).isSome = true ∧ s.cards.length < 262144)
    (hbase : 0 ≤ ((destCard s (destination e target) shop).base : Int) + baseShare e amount)
    (hlim : (cardValue s (destCard s (destination e target) shop) : Int) +
      returnedValue s e amount (destCard s (destination e target) shop) ≤ 5000000) :
    firstFailing (refundChecks original shop amount target s) = none := by
  have h1 : ((realTarget e target).isSome || (s.card? (destination e target)).isSome) = true := by
    cases hc : s.card? (destination e target) with
    | none => simp [(hnew hc).1]
    | some c => simp
  have h2 : ((s.card? (destination e target)).isSome || decide (s.cards.length < Config.cardSlots)) = true := by
    cases hc : s.card? (destination e target) with
    | none => simpa using (hnew hc).2
    | some c => simp
  have hk' : (decide (e.kind = .redeem) || decide (e.kind = .capture)) = true := by simpa using hk
  unfold refundChecks
  rw [entry_of_entry? he]
  simp only [firstFailing_none, List.mem_cons, List.not_mem_nil, or_false]
  rintro c (rfl | rfl | rfl | rfl | rfl | rfl | rfl | rfl | rfl | rfl | rfl | rfl)
  · exact require_true (by simp [hq, hshop, ham, htgt]) _ _
  · exact require_true (by simp [he]) _ _
  · exact require_true hk' _ _
  · exact require_true (by simp [hes]) _ _
  · exact require_true (by simp [hrem]) _ _
  · exact mustTakeBack_none hst
  · exact require_true h1 _ _
  · exact HoldSlots.mustBeActive_of_active hact
  · exact require_true h2 _ _
  · exact journalRoom_none hj
  · exact require_true (by simp [hbase]) _ _
  · exact require_true (by simpa using hlim) _ _

/-- 05 R90: a change of one entry that keeps its period leaves the writable count. -/
theorem writable_amendEntry (q : Nat) {f : Entry → Entry} (hf : ∀ e, (f e).period = e.period) (s : State) :
    writable (amendEntry q f s).journal = writable s.journal :=
  Ring.writable_map (g := fun e => if e.seq = q then f e else e) (fun e => by
    split
    · exact hf e
    · rfl) rfl rfl

/-- 06 R105, R106: what a REFUND entry posts. -/
theorem refund_shop {e : Entry} {shop : Nat} {share : Int} {ps : List EntryPart} (hk : e.kind = .refund) (hs : e.shop = some shop)
    (hb : e.base = some share) (hp : e.parts = ps) (s u : State) (i : Nat) (hu : u.shop i = s.shop i)
    (hf : ∀ p, (u.pool p).funder = (s.pool p).funder) :
    { u.shop i with live := charged e.kind u i e.parts (posted e i (u.shop i).live) } =
      { s.shop i with
        live := sponsored (-1) s i ps
          (if i = shop then post { refundedBase := share, refundedPromo := ((ps.map (fun p => p.amount)).sum : Nat) } (s.shop i).live
          else (s.shop i).live) } := by
  have hd : shopPosting e = some { refundedBase := share, refundedPromo := ((ps.map (fun p => p.amount)).sum : Nat) } := by
    rw [shopPosting, hk, basePart, hb, partsSum, hp]
    rfl
  have hq : ∀ q, sponsored (-1) u i ps q = sponsored (-1) s i ps q := fun q => by
    unfold sponsored
    simp only [hf]
  rw [hk, charged_of_sponsored (by decide), posted_eq hs hd, hu, hp]
  rw [← hq]
  rfl

/-- Settles O32. -/
theorem refundPlacesTheShares : Obligations.RefundPlacesTheShares := by
  unfold Obligations.RefundPlacesTheShares
  intro l tag original shop amount target ref e s hr ht hq hshop ham htgt he hk hes hrem hst hj real id fresh dest share placed
    hact hnew hbase hlim c1 parts lost
  have hent : s.entry original = e := entry_of_entry? he
  have hdest : refundDest s original shop target = dest := by
    rw [refundDest, hent]
    rfl
  obtain ⟨t, hx, h⟩ := Told.recorded (c := .refund l tag original shop amount target ref)
    (cs := refundChecks original shop amount target) (told_refund original shop amount target ref) hr
    (HoldSlots.modeCheck_of_trades ht rfl) (fun _ _ _ => congrArg firstFailing (refundChecks_withLinks _ _ _ _ _ _ _))
    (refundChecks_pass hq hshop ham htgt he hk hes hrem hst hj hact hnew hbase hlim) (fun _ => rfl)
    (writable_amendEntry original (f := grownOriginal amount) (fun _ => rfl) _)
  rw [hdest] at h
  have hcard : refundedCard s (s.entry original) amount dest = c1 := by
    rw [hent]
    rfl
  refine ⟨t, hx, ?_, h.holds, ?_, fun i => ?_, fun p => ?_, h.elsewhere, ?_⟩
  · rw [h.cards, refundPlaced, hdest, hcard, hent]
    rfl
  · rw [h.journal, refundEntry, hent]
    rfl
  · refine (h.shop i).trans (refund_shop rfl rfl ?_ ?_ s _ i rfl fun _ => rfl)
    · rw [refundEntry, hent]
    · rw [refundEntry, hent]
  · refine (h.pool p).trans ?_
    rw [show (refundEntry s original shop amount target ref dest).kind = .refund from rfl, movedPool_returned, refundEntry, hent]
    rfl
  · have hans : refundFlds original shop amount target s =
        [Fld.u32 s.journal.next, .u64 id, .flag (s.card? id).isNone, .i64 share] ++
          listFlds (placed.1.map (fun x => [Fld.u8 x.pool, .u32 x.amount] ++ optFld .u16 x.placedAt)) ++
          [Fld.u32 c1.base, .u32 (cardValue s c1), .u32 (refundRemainder e - amount).toNat] := by
      unfold refundFlds
      rw [hdest, hcard, hent]
      rfl
    rw [← hans]
    exact h.links

/-! ## VOID_SALE -/

theorem voidChecks_pass {original shop : Nat} {e : Entry} {c : Card} {s : State} (hq : seqOk original = true)
    (hshop : shopOk shop = true) (he : s.entry? original = some e) (hk : e.kind = .sale ∨ e.kind = .reload) (hv : e.voided ≠ some true)
    (hday : e.day = s.time.day) (hes : e.shop = some shop) (hst : (s.shop shop).state = .trading) (hc : s.card? (entryCard e) = some c)
    (hcl : c.state ≠ .closed) (hh : c.holds = []) (hval : valueLeft e c = true) (hj : 64 < writable s.journal) :
    firstFailing (voidChecks original shop s) = none := by
  have hk' : (decide (e.kind = .sale) || decide (e.kind = .reload)) = true := by simpa using hk
  unfold voidChecks
  rw [entry_of_entry? he]
  simp only [firstFailing_none, List.mem_cons, List.not_mem_nil, or_false]
  rintro x (rfl | rfl | rfl | rfl | rfl | rfl | rfl | rfl | rfl | rfl | rfl | rfl)
  · exact require_true (by simp [hq, hshop]) _ _
  · exact require_true (by simp [he]) _ _
  · exact require_true hk' _ _
  · exact require_true (by simp [hv]) _ _
  · exact require_true (by simp [hday]) _ _
  · exact require_true (by simp [hes]) _ _
  · exact HoldSlots.mustTrade_of_trading hst
  · exact require_true (by simp [hc]) _ _
  · exact require_true (by simp [card_of_card? hc, hcl]) _ _
  · exact require_true (by simp [card_of_card? hc, hh]) _ _
  · exact require_true (by simp [card_of_card? hc, hval]) _ _
  · exact journalRoom_none hj

theorem cardValue_closedCard (s : State) (c : Card) : cardValue s (closedCard s c) = cardValue s c := rfl

theorem tidy_nil (bs : List Bucket) : tidy [] bs = bs.filter (fun b => b.amount ≠ 0) :=
  List.filter_congr fun b _ => by simp [refersTo]

/-- 03 R64: the card of a void, where no hold is on it. -/
theorem voidedCard_spec (s : State) (e : Entry) {c : Card} (hh : c.holds = []) :
    (voidedCard s e c).base = c.base - (basePart e).toNat ∧
      (voidedCard s e c).buckets = (withoutBonus e c.buckets).filter (fun b => b.amount ≠ 0) ∧ (voidedCard s e c).holds = [] ∧
      ((voidedCard s e c).state, (voidedCard s e c).closedPeriod) =
        (if e.kind = .sale ∧ cardValue s (voidedCard s e c) = 0 then (CardState.closed, some s.period.live)
          else (c.state, c.closedPeriod)) ∧
      ((voidedCard s e c).slot, (voidedCard s e c).reloadable, (voidedCard s e c).issuer, (voidedCard s e c).saleDay) =
        (c.slot, c.reloadable, c.issuer, c.saleDay) := by
  have hb : (drainedCard s e c).buckets = (withoutBonus e c.buckets).filter (fun b => b.amount ≠ 0) := by
    rw [← tidy_nil]
    have : heldParts s { c with base := c.base - (basePart e).toNat, buckets := withoutBonus e c.buckets } = [] := by
      simp [heldParts, hh]
    unfold drainedCard tidyCard
    rw [this]
  rw [voidedCard_eq]
  by_cases h : e.kind = .sale ∧ cardValue s (drainedCard s e c) = 0
  · rw [if_pos (by simpa using h)]
    rw [if_pos (by simpa [cardValue_closedCard] using h)]
    exact ⟨rfl, hb, hh, rfl, rfl⟩
  · rw [if_neg (by simpa using h)]
    rw [if_neg (by simpa using h)]
    exact ⟨rfl, hb, hh, rfl, rfl⟩

theorem poolSum_withoutDays (p : Nat) (ps : List EntryPart) : poolSum p (ps.map (fun p => { p with expiry := none })) = poolSum p ps := by
  induction ps with
  | nil => rfl
  | cons q ps ih => rw [List.map_cons, poolSum_cons, poolSum_cons, ih]

/-- Settles O34. -/
theorem voidTakesTheSaleBack : Obligations.VoidTakesTheSaleBack := by
  unfold Obligations.VoidTakesTheSaleBack
  intro l tag original shop ref e c s hr ht hq hshop he hk hv hday hes hst hc hcl hh hval hj
  have hent : s.entry original = e := entry_of_entry? he
  obtain ⟨t, hx, h⟩ := Told.recorded (c := .voidSale l tag original shop ref) (cs := voidChecks original shop)
    (told_void original shop ref) hr (HoldSlots.modeCheck_of_trades ht rfl) (fun _ _ _ => rfl)
    (voidChecks_pass hq hshop he hk hv hday hes hst hc hcl hh hval hj) (fun _ => rfl)
    (writable_amendEntry original (f := fun x => { x with voided := some true }) (fun _ => rfl) _)
  have hcard : voidCard original s = voidedCard s e c := by
    rw [voidCard, hent, show s.card (entryCard e) = c from card_of_card? hc]
  obtain ⟨hbase, hbuckets, hholds, hstate, hrest⟩ := voidedCard_spec s e hh
  have hd : shopPosting (voidEntry s original shop ref) = some { voided := basePart e } := by
    rw [voidEntry, hent]
    rfl
  refine ⟨t, voidedCard s e c, hx, ?_, hbase, hbuckets, hholds, hstate, hrest, h.holds, ?_, fun i => ?_, fun p => ?_, h.elsewhere, ?_⟩
  · rw [h.cards, voidMarked, hcard, hent]
    rfl
  · rw [h.journal, voidEntry, hent]
    rfl
  · rw [h.shop i, charged_of_unsponsored (show sponsorSign (voidEntry s original shop ref).kind = 0 from rfl), posted_eq (j := shop) rfl hd]
    by_cases hi : i = shop
    · rw [if_pos hi, if_pos hi]
      rfl
    · rw [if_neg hi, if_neg hi]
      rfl
  · refine (h.pool p).trans ?_
    rw [show (voidEntry s original shop ref).kind = .void from rfl, movedPool_ungranted, voidEntry, hent]
    dsimp only
    rw [poolSum_withoutDays]
    rfl
  · have hans : voidFlds original s = [Fld.u32 s.journal.next, .u32 (basePart e).toNat, .u32 (partsSum e),
        .u8 (cardStateCode (voidedCard s e c).state), .u32 (cardValue s (voidedCard s e c))] := by
      unfold voidFlds
      rw [hcard, hent]
    rw [← hans]
    exact h.links

end Sys2Proof.Proofs.Refunding
end

section
/-! Grants, the requests that change or read one pool, and what the entries post where no limit is passed. -/

namespace Sys2Proof.Proofs.PoolWork

open Sys2Proof Sys2Proof.Machine Sys2Proof.Laws Sys2Proof.Proofs.Links Sys2Proof.Proofs.Basics Sys2Proof.Proofs.Bounds
  Sys2Proof.Proofs.Steps Sys2Proof.Proofs.Rules Sys2Proof.Proofs.Requests Sys2Proof.Proofs.Replies Sys2Proof.Proofs.Entries
  Sys2Proof.Proofs.Trade

/-! ## GRANT_PROMO -/

theorem grantChecks_pass {id pool amount : Nat} {c : Card} {bs : List Bucket} {s : State} (hid : cardIdOk id = true)
    (hp : poolOk pool = true) (ham : amountOk amount = true) (hc : s.card? id = some c) (hact : c.state = .active)
    (hst : (s.pool pool).state = .opened) (hav : amount ≤ available (s.pool pool)) (hlim : cardValue s c + amount ≤ 5000000)
    (hcr : credit pool (grantExpiry s pool) amount c.buckets = some bs) (hj : 64 < writable s.journal) :
    firstFailing (grantChecks id pool amount s) = none := by
  unfold grantChecks
  rw [card_of_card? hc]
  simp only [firstFailing_none, List.mem_cons, List.not_mem_nil, or_false]
  rintro x (rfl | rfl | rfl | rfl | rfl | rfl | rfl | rfl)
  · exact require_true (by simp [hid, hp, ham]) _ _
  · exact require_true (by simp [hc]) _ _
  · exact HoldSlots.mustBeActive_of_active hact
  · exact require_true (by simp [hst]) _ _
  · exact require_true (by simp [hav]) _ _
  · exact require_true (by simpa [Config.cardLimit] using hlim) _ _
  · exact require_true (by simp [hcr]) _ _
  · exact journalRoom_none hj

/-- Settles O35. -/
theorem grantCreditsTheAmount : Obligations.GrantCreditsTheAmount := by
  unfold Obligations.GrantCreditsTheAmount
  intro tag id pool amount c bs s hr hs hid hp ham hc hact hst hav hlim day hcr hj x
  obtain ⟨t, hx, h⟩ := Told.recorded (c := .grantPromo .a tag id pool amount) (cs := grantChecks id pool amount)
    (told_grant id pool amount) hr (modeCheck_office hs rfl rfl) (fun _ _ _ => rfl)
    (grantChecks_pass hid hp ham hc hact hst hav hlim hcr hj) (fun _ => rfl) rfl
  have hcard : grantedCard s pool amount (s.card id) = { c with buckets := bs } := by
    rw [card_of_card? hc, grantedCard, show grantExpiry s pool = day from rfl, hcr]
    rfl
  have hpool : ∀ p, t.pool p = if p = pool then x else s.pool p := fun p => by
    rw [h.pool p, show (grantEntry s id pool amount).kind = .grant from rfl, movedPool_granted (.inr (.inr rfl))]
    have hs : poolSum p (grantEntry s id pool amount).parts = if p = pool then amount else 0 := by
      by_cases hp : p = pool
      · simp [grantEntry, poolSum, hp]
      · simp [grantEntry, poolSum, hp, Ne.symm hp]
    rw [hs]
    by_cases hp : p = pool
    · subst hp
      simp only [if_true]
      rfl
    · simp only [hp, if_false]
      rfl
  refine ⟨t, hx, ?_, h.holds, h.journal, h.shops rfl rfl, hpool, h.elsewhere, ?_⟩
  · rw [h.cards, grantCredited, hcard]
    rfl
  · have hav : (entered (grantEntry s id pool amount) (grantCredited id pool amount s)).pool pool = x := by
      have hpp := hpool pool
      rw [if_pos rfl] at hpp
      rw [entered_pool, ← hpp, h.pool pool]
    have hans : grantFlds id pool amount s =
        [Fld.u32 s.journal.next, .u16 day, .u32 (cardValue s { c with buckets := bs }), .u64 (available x)] := by
      unfold grantFlds
      rw [hcard, hav]
      rfl
    rw [← hans]
    exact h.links

/-! ## Requests that change one pool -/

/-- What a request has carried out, apart from the links. -/
theorem carried_frame (l : Link) (kind tag : Nat) (G : State → State) (N : State → List Notice) (A : State → Answer)
    (M : State → List Notice) (s : State) :
    carried l kind tag G N A M s =
      withLinks (carried l kind tag G N A M s).tLink (carried l kind tag G N A M s).aLink (G s) := by
  unfold carried replied begun
  rw [giveNotices_eq, setLink_eq_withLinks, giveNotices_eq, setLink_eq_withLinks]
  rfl

/-- A request whose effect changes one pool, carried out. -/
theorem pool_changed {c : Instr} {cs : State → List Check} {pool : Nat} {x : State → Pool} {A : State → List Fld} {s : State}
    (hr : ready (requestLink c) s = true) (hm : linkAndModeCheck (requestLink c) (requestFrame c).kind s = none)
    (hc : LinkFree (fun s => firstFailing (cs s))) (hp : firstFailing (cs s) = none) (hx : LinkFree x) (hA : LinkFree A) :
    ∃ t, takeRequest c (fun s => ruled (cs s) (okay (changePool pool (x s) s) (A s)) s) s = .next t ∧
      (∀ p, t.pool p = if p = pool then x s else s.pool p) ∧
      t = { s with pools := t.pools, tLink := t.tLink, aLink := t.aLink } ∧
      repliedWith (requestLink c) (requestFrame c).kind (requestFrame c).tag ⟨.ok, A s⟩ (lowNotices s t) s t := by
  have ht := told_changePool pool hx hA
  refine ⟨_, Told.passed ht hr hm hc hp, ?_⟩
  have hpool : ∀ p, (carried (requestLink c) (requestFrame c).kind (requestFrame c).tag (fun s => s.setPool pool (x s))
      (fun s => poolLowEdges s (s.setPool pool (x s))) (fun s => ⟨.ok, A s⟩) (fun _ => []) s).pool p =
      (s.setPool pool (x s)).pool p := fun p => Entries.LinkFree.carried (f := fun t => t.pool p) (fun _ _ _ => rfl) _ _ _ _ _ _ _ s
  refine ⟨fun p => (hpool p).trans (pool_setPool s pool p (x s)), ?_, ?_⟩
  · rw [carried_frame]
    rfl
  · have h := repliedWith_carried ht.silent (requestLink c) (requestFrame c).kind (requestFrame c).tag
      (fun s => poolLowEdges s (s.setPool pool (x s))) (fun s => ⟨.ok, A s⟩) s
    have hn : poolLowEdges s (s.setPool pool (x s)) = lowNotices s
        (carried (requestLink c) (requestFrame c).kind (requestFrame c).tag (fun s => s.setPool pool (x s))
          (fun s => poolLowEdges s (s.setPool pool (x s))) (fun s => ⟨.ok, A s⟩) (fun _ => []) s) := by
      rw [poolLowEdges_eq]
      exact lowNotices_congr (fun _ => rfl) fun p => (hpool p).symm
    rw [← hn]
    exact h

theorem funderCheck_none {s : State} {f : Option Nat}
    (h : ∀ i, f = some i → shopOk i = true ∧ ((s.shop i).state = .trading ∨ (s.shop i).state = .barred)) : funderCheck s f = none := by
  unfold funderCheck
  cases f with
  | none => rfl
  | some i => obtain ⟨-, h | h⟩ := h i rfl <;> simp [h]

theorem funder_all {s : State} {f : Option Nat}
    (h : ∀ i, f = some i → shopOk i = true ∧ ((s.shop i).state = .trading ∨ (s.shop i).state = .barred)) : f.all shopOk = true := by
  cases f with
  | none => rfl
  | some i => exact (h i rfl).1

theorem poolMoves_opened_or_suspended {x y : PoolState} (hx : x = .opened ∨ x = .suspended) (hy : y ≠ .empty) (hne : x ≠ y) :
    poolMoves x y = true := by
  obtain rfl | rfl := hx <;> cases y <;> first | rfl | exact absurd rfl hne | exact absurd rfl hy

/-- Settles O36. -/
theorem poolRequestsChangeThePool : Obligations.PoolRequestsChangeThePool := by
  unfold Obligations.PoolRequestsChangeThePool
  intro config tag pool s hr hs hp
  have hconfig : ∀ x : Pool, config x = poolConfigFlds x := fun x => by
    unfold poolConfigFlds
    cases hf : x.funder <;> simp only [config, hf] <;> rfl
  refine ⟨?_, ?_, fun code y hcode hne hst => ?_, ?_⟩
  · intro cfg hrate hcap hval hfun hmay x
    have hchk : firstFailing (definePoolChecks pool cfg s) = none := by
      unfold definePoolChecks
      simp only [firstFailing_none, List.mem_cons, List.not_mem_nil, or_false]
      rintro c (rfl | rfl | rfl)
      · exact require_true (by simp [hp, funder_all hfun, hrate, hval]; exact hcap) _ _
      · exact funderCheck_none hfun
      · exact require_true (by simpa [mayDefine, and_assoc] using hmay) _ _
    obtain ⟨t, hx, hpool, hfr, hl⟩ := pool_changed (c := .definePool .a tag pool cfg) (cs := definePoolChecks pool cfg) (pool := pool)
      (x := fun _ => definedPool cfg) (A := fun _ => poolConfigFlds (definedPool cfg)) hr
      (modeCheck_office hs rfl rfl) (fun _ _ _ => rfl) hchk (fun _ _ _ => rfl) fun _ _ _ => rfl
    refine ⟨t, hx, hpool, hfr, ?_⟩
    rw [hconfig]
    exact hl
  · intro amount h1 h2 hst x
    have hchk : firstFailing (addBudgetChecks pool amount s) = none := by
      unfold addBudgetChecks
      simp only [firstFailing_none, List.mem_cons, List.not_mem_nil, or_false]
      rintro c (rfl | rfl)
      · exact require_true (by simp [hp, h1]; exact h2) _ _
      · exact require_true (by simpa using hst) _ _
    exact pool_changed (c := .addBudget .a tag pool amount) (cs := addBudgetChecks pool amount) (pool := pool)
      (x := fun s => raisedPool amount (s.pool pool))
      (A := fun s => [Fld.u64 (raisedPool amount (s.pool pool)).budget, .u64 (available (raisedPool amount (s.pool pool)))]) hr
      (modeCheck_office hs rfl rfl) (fun _ _ _ => rfl) hchk (fun _ _ _ => rfl) fun _ _ _ => rfl
  · have hy : poolStateOf code = some y ∧ poolStateCode y = code ∧ y ≠ .empty := by
      obtain h | h | h := hcode <;> obtain ⟨rfl, rfl⟩ := Prod.mk.injEq .. ▸ h <;> exact ⟨rfl, rfl, by decide⟩
    obtain ⟨hof, hco, hye⟩ := hy
    have hchk : firstFailing (setPoolStateChecks pool code s) = none := by
      unfold setPoolStateChecks
      simp only [firstFailing_none, List.mem_cons, List.not_mem_nil, or_false]
      rintro c (rfl | rfl)
      · exact require_true (by simp [hp, hof]) _ _
      · exact require_true (by simp [hof, poolMoves_opened_or_suspended hst hye hne]) _ _
    have h := pool_changed (c := .setPoolState .a tag pool code) (cs := setPoolStateChecks pool code) (pool := pool)
      (x := fun s => { s.pool pool with state := (poolStateOf code).getD .empty })
      (A := fun _ => [Fld.u8 (poolStateCode ((poolStateOf code).getD .empty))]) hr
      (modeCheck_office hs rfl rfl) (fun _ _ _ => rfl) hchk (fun _ _ _ => rfl) fun _ _ _ => rfl
    simp only [hof, Option.getD_some, hco] at h
    obtain ⟨t, hx, hrest⟩ := h
    refine ⟨t, ?_, hrest⟩
    rw [← hx]
    change takeRequest _ (setPoolStateRule pool code) s = _
    unfold setPoolStateRule
    simp only [hof, Option.getD_some, hco]
  · intro x
    have h := Told.passed (c := .poolStatus .a tag pool) (cs := fun _ => [require (poolOk pool) .badField])
      (told_reading (A := fun s => poolStatusFlds s pool) fun _ _ _ => rfl) hr (modeCheck_office hs rfl rfl)
      (fun _ _ _ => rfl) (by rw [require_true hp]; rfl)
    rw [carried_plain] at h
    refine Eq.trans h ?_
    rw [hconfig]
    have hst : poolStateCode x.state = [PoolState.empty, .opened, .suspended, .closed].idxOf x.state := by cases x.state <;> rfl
    rw [← hst]
    rfl

end Sys2Proof.Proofs.PoolWork
end

section
/-! What entries post where no limit is passed, and how a refund is shared out and placed. -/

namespace Sys2Proof.Proofs.Sharing

open Sys2Proof Sys2Proof.Machine Sys2Proof.Laws Sys2Proof.Proofs.Links Sys2Proof.Proofs.Basics Sys2Proof.Proofs.Bounds
  Sys2Proof.Proofs.Rules Sys2Proof.Proofs.Requests Sys2Proof.Proofs.Entries Sys2Proof.Proofs.Trade

/-! ## Postings within the limits -/

/-- 06 R107: a posting that passes no limit is exact. -/
theorem post_exact {d : Posting} {p : Position} (h1 : withinLimit (p.sold + d.sold) = true)
    (h2 : withinLimit (p.voided + d.voided) = true) (h3 : withinLimit (p.redeemedBase + d.redeemedBase) = true)
    (h4 : withinLimit (p.redeemedPromo + d.redeemedPromo) = true) (h5 : withinLimit (p.refundedBase + d.refundedBase) = true)
    (h6 : withinLimit (p.refundedPromo + d.refundedPromo) = true) (h7 : withinLimit (p.sponsor + d.sponsor) = true)
    (h8 : p.count + d.count ≤ Config.countLimit) :
    post d p =
      { sold := p.sold + d.sold, voided := p.voided + d.voided, redeemedBase := p.redeemedBase + d.redeemedBase,
        redeemedPromo := p.redeemedPromo + d.redeemedPromo, refundedBase := p.refundedBase + d.refundedBase,
        refundedPromo := p.refundedPromo + d.refundedPromo, count := p.count + d.count, sponsor := p.sponsor + d.sponsor,
        saturated := p.saturated } := by
  unfold post
  rw [(withinLimit_iff _).1 h1, (withinLimit_iff _).1 h2, (withinLimit_iff _).1 h3, (withinLimit_iff _).1 h4,
    (withinLimit_iff _).1 h5, (withinLimit_iff _).1 h6, (withinLimit_iff _).1 h7, Nat.min_eq_left h8, h1, h2, h3, h4, h5, h6, h7]
  simp [h8]

theorem withinLimit_bounds (z : Int) : withinLimit z = true ↔ -100000000000 ≤ z ∧ z ≤ 100000000000 := by
  simp [withinLimit, Config.positionLimit]

/-- 06 R106: a sponsor charge that passes no limit is exact. -/
theorem post_sponsor {q : Position} {z : Int} (hb : positionBounded q = true) (hz : withinLimit (q.sponsor + z) = true) :
    post { sponsor := z } q = { q with sponsor := q.sponsor + z } := by
  obtain ⟨h1, h2, h3, h4, h5, h6, -, h8⟩ := (positionBounded_iff q).1 hb
  rw [post_exact (by simpa using h1) (by simpa using h2) (by simpa using h3) (by simpa using h4) (by simpa using h5)
    (by simpa using h6) hz (by simpa using h8)]
  simp

/-- 06 R106: the charges of parts that in sum pass no limit. -/
theorem foldl_post_sponsor {sign : Int} (hs : sign = 1 ∨ sign = -1) (ps : List EntryPart) {q : Position}
    (hb : positionBounded q = true) (hz : withinLimit (q.sponsor + sign * ((ps.map (fun p => p.amount)).sum : Nat)) = true) :
    ps.foldl (fun q p => post { sponsor := sign * p.amount } q) q =
      { q with sponsor := q.sponsor + sign * ((ps.map (fun p => p.amount)).sum : Nat) } := by
  induction ps generalizing q with
  | nil => simp
  | cons p ps ih =>
    have hq := (withinLimit_bounds _).1 ((positionBounded_iff q).1 hb).2.2.2.2.2.2.1
    rw [withinLimit_bounds] at hz
    rw [List.map_cons, List.sum_cons, Nat.cast_add] at hz ⊢
    have h1 : withinLimit (q.sponsor + sign * p.amount) = true := by
      rw [withinLimit_bounds]
      obtain rfl | rfl := hs <;> constructor <;> omega
    have hb' : positionBounded { q with sponsor := q.sponsor + sign * p.amount } = true := by
      rw [positionBounded_iff] at hb ⊢
      obtain ⟨h2, h3, h4, h5, h6, h7, -, h8⟩ := hb
      exact ⟨h2, h3, h4, h5, h6, h7, h1, h8⟩
    rw [List.foldl_cons, post_sponsor hb h1, ih hb']
    · simp only [Int.mul_add, Int.add_assoc]
    · rw [withinLimit_bounds]
      obtain rfl | rfl := hs <;> constructor <;> dsimp only <;> omega

theorem sponsored_exact {sign : Int} (hs : sign = 1 ∨ sign = -1) (s : State) (i : Nat) (ps : List EntryPart) {q : Position}
    (hb : positionBounded q = true) (hz : withinLimit (q.sponsor + sign * fundedSum s i ps) = true) :
    sponsored sign s i ps q = { q with sponsor := q.sponsor + sign * fundedSum s i ps } :=
  foldl_post_sponsor hs _ hb hz

theorem writeEntry_shop (e : Entry) (s : State) (i : Nat) :
    (writeEntry e s).shop i = { s.shop i with live := charged e.kind s i e.parts (posted e i (s.shop i).live) } := by
  rw [(notifies_writeEntry e).eq, ← entered_shop]
  exact LinkFree.giveNotices (f := fun s => s.shop i) (fun _ _ _ => rfl) _ _

/-- 06 R105: what a redemption posts, where it passes no limit. -/
theorem post_redeemed {q : Position} {b : Int} {n : Nat} (hb : positionBounded q = true) (h0 : 0 ≤ b)
    (hbase : q.redeemedBase + b ≤ Config.positionLimit) (hpromo : q.redeemedPromo + n ≤ Config.positionLimit)
    (hc : q.count + 1 ≤ Config.countLimit) :
    post { redeemedBase := b, redeemedPromo := n, count := 1 } q =
      { q with redeemedBase := q.redeemedBase + b, redeemedPromo := q.redeemedPromo + n, count := q.count + 1 } := by
  obtain ⟨h1, h2, h3, h4, h5, h6, h7, -⟩ := (positionBounded_iff q).1 hb
  simp only [Config.positionLimit] at hbase hpromo
  have h3' : withinLimit (q.redeemedBase + b) = true := by
    rw [withinLimit_bounds] at h3 ⊢
    omega
  have h4' : withinLimit (q.redeemedPromo + n) = true := by
    rw [withinLimit_bounds] at h4 ⊢
    omega
  rw [post_exact (by simpa using h1) (by simpa using h2) h3' h4' (by simpa using h5) (by simpa using h6) (by simpa using h7) hc]
  simp

/-- 06 R105: what a refund posts, where it passes no limit. -/
theorem post_refunded {q : Position} {b : Int} {n : Nat} (hb : positionBounded q = true) (hbase : withinLimit (q.refundedBase + b) = true)
    (hpromo : q.refundedPromo + n ≤ Config.positionLimit) :
    post { refundedBase := b, refundedPromo := n } q =
      { q with refundedBase := q.refundedBase + b, refundedPromo := q.refundedPromo + n } := by
  obtain ⟨h1, h2, h3, h4, h5, h6, h7, h8⟩ := (positionBounded_iff q).1 hb
  simp only [Config.positionLimit] at hpromo
  have h6' : withinLimit (q.refundedPromo + n) = true := by
    rw [withinLimit_bounds] at h6 ⊢
    omega
  rw [post_exact (by simpa using h1) (by simpa using h2) (by simpa using h3) (by simpa using h4) hbase h6' (by simpa using h7)
    (by simpa using h8)]
  simp

/-- 06 R105: what a void posts, where it passes no limit. -/
theorem post_voided {q : Position} {b : Int} (hb : positionBounded q = true) (hv : withinLimit (q.voided + b) = true) :
    post { voided := b } q = { q with voided := q.voided + b } := by
  obtain ⟨h1, h2, h3, h4, h5, h6, h7, h8⟩ := (positionBounded_iff q).1 hb
  rw [post_exact (by simpa using h1) hv (by simpa using h3) (by simpa using h4) (by simpa using h5) (by simpa using h6)
    (by simpa using h7) (by simpa using h8)]
  simp

/-- 06 R105: what a sale or reload posts, where it passes no limit. -/
theorem post_sold {q : Position} {b : Int} (hb : positionBounded q = true) (hv : withinLimit (q.sold + b) = true) :
    post { sold := b } q = { q with sold := q.sold + b } := by
  obtain ⟨h1, h2, h3, h4, h5, h6, h7, h8⟩ := (positionBounded_iff q).1 hb
  rw [post_exact hv (by simpa using h2) (by simpa using h3) (by simpa using h4) (by simpa using h5) (by simpa using h6)
    (by simpa using h7) (by simpa using h8)]
  simp

/-- 06 R106: the sponsor charge of a shop stays within the limits where its sum does. -/
theorem sponsor_raised {q : Position} {n : Nat} (hb : positionBounded q = true) (h : q.sponsor + n ≤ Config.positionLimit) :
    withinLimit (q.sponsor + 1 * (n : Int)) = true := by
  have h7 := ((positionBounded_iff q).1 hb).2.2.2.2.2.2.1
  simp only [Config.positionLimit] at h
  rw [withinLimit_bounds] at h7 ⊢
  omega

theorem sponsor_lowered {q : Position} {n : Nat} (hb : positionBounded q = true) (h : -Config.positionLimit ≤ q.sponsor - n) :
    withinLimit (q.sponsor + -1 * (n : Int)) = true := by
  have h7 := ((positionBounded_iff q).1 hb).2.2.2.2.2.2.1
  simp only [Config.positionLimit] at h
  rw [withinLimit_bounds] at h7 ⊢
  omega

/-- Settles O23. -/
theorem entriesPostPositions : Obligations.EntriesPostPositions := by
  unfold Obligations.EntriesPostPositions
  dsimp only
  refine ⟨fun e s shop i hk hs h0 hb hrb hrp hcnt hsp => ?_, fun e s shop i hs hb =>
    ⟨fun hk hrb hrp hsp => ?_, fun hk hv => ?_, fun hk hv => ?_⟩⟩
  · have hd : shopPosting e = some { redeemedBase := basePart e, redeemedPromo := partsSum e, count := 1 } := by
      unfold shopPosting
      obtain hk | hk := hk <;> rw [hk]
    have hsign : sponsorSign e.kind = 1 := by obtain hk | hk := hk <;> rw [hk] <;> rfl
    have hz := sponsor_raised (hb i).1 hsp
    rw [writeEntry_shop, charged_of_sponsored (by rw [hsign]; decide), hsign, posted_eq hs hd]
    by_cases hi : i = shop
    · rw [if_pos hi, sponsored_exact (.inl rfl) s i e.parts (positionBounded_post _ _) (by
        rw [post_redeemed (hb i).1 h0 hrb hrp hcnt]
        exact hz), post_redeemed (hb i).1 h0 hrb hrp hcnt]
      simp only [hi, if_true, Int.one_mul]
    · rw [if_neg hi, sponsored_exact (.inl rfl) s i e.parts (hb i).1 hz]
      simp only [hi, if_false, Int.one_mul]
  · have hd : shopPosting e = some { refundedBase := basePart e, refundedPromo := partsSum e } := by
      unfold shopPosting
      rw [hk]
    have hsign : sponsorSign e.kind = -1 := by rw [hk]; rfl
    have hz := sponsor_lowered (hb i).1 hsp
    rw [writeEntry_shop, charged_of_sponsored (by rw [hsign]; decide), hsign, posted_eq hs hd]
    by_cases hi : i = shop
    · rw [if_pos hi, sponsored_exact (.inr rfl) s i e.parts (positionBounded_post _ _) (by
        rw [post_refunded (hb i).1 hrb hrp]
        exact hz), post_refunded (hb i).1 hrb hrp]
      simp only [hi, if_true, Int.neg_mul, Int.one_mul, Int.sub_eq_add_neg]
    · rw [if_neg hi, sponsored_exact (.inr rfl) s i e.parts (hb i).1 hz]
      simp only [hi, if_false, Int.neg_mul, Int.one_mul, Int.sub_eq_add_neg]
  · have hd : shopPosting e = some { voided := basePart e } := by
      unfold shopPosting
      rw [hk]
    rw [writeEntry_shop, charged_of_unsponsored (by rw [hk]; rfl), posted_eq hs hd]
    by_cases hi : i = shop
    · rw [if_pos hi, post_voided (hb i).1 hv, if_pos hi]
    · rw [if_neg hi, if_neg hi]
  · have hd : shopPosting e = some { sold := basePart e } := by
      unfold shopPosting
      obtain hk | hk := hk <;> rw [hk]
    have hsign : sponsorSign e.kind = 0 := by obtain hk | hk := hk <;> rw [hk] <;> rfl
    rw [writeEntry_shop, charged_of_unsponsored hsign, posted_eq hs hd]
    by_cases hi : i = shop
    · rw [if_pos hi, post_sold (hb i).1 hv, if_pos hi]
    · rw [if_neg hi, if_neg hi]

/-! ## Floors -/

/-- 03 R52: the floors of the parts' proportions of an amount `c` of an original of amount `a`. -/
def floorsOf (ps : List EntryPart) (a c : Nat) : List Nat := ps.map (fun p => c * p.amount / a)

theorem mul_sum_floorsOf_le (ps : List EntryPart) (a c : Nat) :
    a * (floorsOf ps a c).sum ≤ c * (ps.map (fun p => p.amount)).sum := by
  induction ps with
  | nil => simp [floorsOf]
  | cons p ps ih =>
    have h : a * (c * p.amount / a) ≤ c * p.amount := Nat.mul_div_le _ _
    simp only [floorsOf, List.map_cons, List.sum_cons, Nat.mul_add] at ih ⊢
    omega

/-- 03 R53: the floors come to no more than the amount. -/
theorem sum_floorsOf_le {ps : List EntryPart} {a c : Nat} (ha : 0 < a) (hp : (ps.map (fun p => p.amount)).sum ≤ a) :
    (floorsOf ps a c).sum ≤ c := by
  have h1 := mul_sum_floorsOf_le ps a c
  have h2 : c * (ps.map (fun p => p.amount)).sum ≤ c * a := Nat.mul_le_mul_left c hp
  exact Nat.le_of_mul_le_mul_left (by rw [Nat.mul_comm a c]; omega) ha

theorem floorsOf_full {ps : List EntryPart} {a : Nat} (ha : 0 < a) : floorsOf ps a a = ps.map (fun p => p.amount) :=
  List.map_congr_left fun _ _ => Nat.mul_div_cancel_left _ ha

/-- 03 R52: the shares of parts as the amount refunded goes from `c` to `c + r`. -/
def sharesOf (ps : List EntryPart) (a c r : Nat) : List Nat := ps.map (fun p => partShare a c (c + r) p.amount)

theorem zipWith_shares (ps : List EntryPart) (a c r : Nat) :
    List.zipWith (· + ·) (floorsOf ps a c) (sharesOf ps a c r) = floorsOf ps a (c + r) := by
  unfold floorsOf sharesOf
  rw [List.zipWith_map, List.zipWith_self]
  refine List.map_congr_left fun p _ => ?_
  have h : c * p.amount / a ≤ (c + r) * p.amount / a := Nat.div_le_div_right (Nat.mul_le_mul_right _ (Nat.le_add_right c r))
  unfold partShare
  omega

theorem sum_shares (ps : List EntryPart) (a c r : Nat) :
    (floorsOf ps a c).sum + (sharesOf ps a c r).sum = (floorsOf ps a (c + r)).sum := by
  rw [← zipWith_shares]
  induction ps with
  | nil => rfl
  | cons p ps ih =>
    simp only [floorsOf, sharesOf, List.map_cons, List.sum_cons, List.zipWith_cons_cons] at ih ⊢
    omega

/-- 03 R52: one share is less than its proportion of the refund and one. -/
theorem mul_partShare_lt {a : Nat} (ha : 0 < a) (c r p : Nat) : a * partShare a c (c + r) p + 1 ≤ r * p + a := by
  unfold partShare
  have h1 : a * ((c + r) * p / a) ≤ (c + r) * p := Nat.mul_div_le _ _
  have h2 : c * p < a * (c * p / a) + a := by
    have := Nat.lt_mul_div_succ (c * p) ha
    rwa [Nat.mul_add, Nat.mul_one] at this
  rw [Nat.add_mul] at h1
  rw [Nat.mul_sub, Nat.add_mul]
  omega

theorem mul_sum_sharesOf_le {a : Nat} (ha : 0 < a) (ps : List EntryPart) (c r : Nat) :
    a * (sharesOf ps a c r).sum + ps.length ≤ r * (ps.map (fun p => p.amount)).sum + ps.length * a := by
  induction ps with
  | nil => simp [sharesOf]
  | cons p ps ih =>
    have h := mul_partShare_lt ha c r p.amount
    simp only [sharesOf, List.map_cons, List.sum_cons, List.length_cons, Nat.mul_add, Nat.add_mul, Nat.one_mul] at ih ⊢
    omega

/-- 03 R53: the shares of at most four parts pass the refund by at most 3. -/
theorem sum_sharesOf_le {a : Nat} (ha : 0 < a) {ps : List EntryPart} (hp : (ps.map (fun p => p.amount)).sum ≤ a)
    (hn : ps.length ≤ 4) (c r : Nat) : (sharesOf ps a c r).sum ≤ r + 3 := by
  have h1 := mul_sum_sharesOf_le ha ps c r
  have h2 : r * (ps.map (fun p => p.amount)).sum ≤ r * a := Nat.mul_le_mul_left r hp
  have h3 : ps.length * a ≤ 4 * a := Nat.mul_le_mul_right a hn
  cases ps with
  | nil => simp [sharesOf]
  | cons p ps =>
    have h4 : a * (sharesOf (p :: ps) a c r).sum < a * (r + 4) := by
      rw [Nat.mul_add, Nat.mul_comm a r]
      simp only [List.length_cons] at h1 h3
      omega
    have := Nat.lt_of_mul_lt_mul_left h4
    omega

/-! ## Refunded fields -/

theorem refundShares_eq {e : Entry} {R : Nat} (h : refundedOf e = (R : Int)) (r : Nat) :
    refundShares e r = sharesOf e.parts e.amount.toNat R r := by
  unfold refundShares sharesOf
  rw [h]
  rfl

/-- 03 R52, R53, R57: the refunded fields of an original keep their form. -/
theorem refunded_grows {e : Entry} {x : Refunded} {R r : Nat} (hx : e.refunded = some x) (ha : 1 ≤ e.amount)
    (hR : refundedOf e = (R : Int)) (hn : e.parts.length ≤ 4) (hp : (partsSum e : Int) ≤ e.amount)
    (hf : x.promo = floorsOf e.parts e.amount.toNat R) :
    grownOriginal r e =
        { e with refunded := some { base := x.base + baseShare e r, promo := floorsOf e.parts e.amount.toNat (R + r) } } ∧
      refundedOf (grownOriginal r e) = ((R + r : Nat) : Int) ∧ 0 ≤ x.base + baseShare e r ∧ -3 ≤ baseShare e r ∧
      (((R + r : Nat) : Int) = e.amount →
        (grownOriginal r e).refunded = some { base := e.amount - (partsSum e : Int), promo := e.parts.map (fun p => p.amount) }) := by
  have ha' : 0 < e.amount.toNat := by omega
  have hp' : (e.parts.map (fun p => p.amount)).sum ≤ e.amount.toNat := by
    have : partsSum e = (e.parts.map (fun p => p.amount)).sum := rfl
    omega
  have hgrown : grownOriginal r e =
      { e with refunded := some { base := x.base + baseShare e r, promo := floorsOf e.parts e.amount.toNat (R + r) } } := by
    unfold grownOriginal
    rw [hx, refundShares_eq hR, Option.map_some, hf, zipWith_shares]
  have hbase : x.base = (R : Int) - ((floorsOf e.parts e.amount.toNat R).sum : Nat) := by
    rw [refundedOf, hx] at hR
    dsimp only at hR
    rw [hf] at hR
    omega
  have hshare : baseShare e r = (r : Int) - ((sharesOf e.parts e.amount.toNat R r).sum : Nat) := by rw [baseShare, refundShares_eq hR]
  have hsum := sum_shares e.parts e.amount.toNat R r
  have hfl := sum_floorsOf_le (c := R + r) ha' hp'
  have hsh := sum_sharesOf_le ha' hp' hn R r
  refine ⟨hgrown, ?_, by omega, by omega, fun hfull => ?_⟩
  · rw [hgrown, refundedOf]
    dsimp only
    omega
  · have hc : R + r = e.amount.toNat := by omega
    have hps : partsSum e = (floorsOf e.parts e.amount.toNat (R + r)).sum := by
      rw [hc, floorsOf_full ha']
      rfl
    have hb : x.base + baseShare e r = e.amount - (partsSum e : Int) := by omega
    rw [hgrown, hb, hc, floorsOf_full ha']

/-- Settles O31. -/
theorem refundSharesAreFloorsAndPlaced : Obligations.RefundSharesAreFloorsAndPlaced := by
  unfold Obligations.RefundSharesAreFloorsAndPlaced
  refine ⟨fun e x R r hx ha hR _ hn hp hf => refunded_grows hx ha hR hn hp hf, fun s q d a bs => ⟨fun h => ?_, fun hd hc => ?_⟩⟩
  · have hu : usable s q d = false := by
      rw [Bool.eq_false_iff]
      intro hu
      simp only [usable, Bool.and_eq_true, decide_eq_true_eq] at hu
      exact h.elim (Nat.not_lt.2 hu.1) hu.2
    simp [placeShare, hu]
  · have hu : usable s q d = true := by simp [usable, hd, hc]
    refine ⟨fun hb => by simp [placeShare, hu, credit, hb], fun hb hlen => ?_, fun hb hlen => ?_⟩
    · have hlen' : bs.length < Config.bucketLimit := hlen
      simp [placeShare, hu, credit, hb, hlen']
    · have hlen' : ¬bs.length < Config.bucketLimit := Nat.not_lt.2 hlen
      have hp : placeShare s q d a bs = (laterBucket s q bs).map (fun b => (b.expiry, mergeBucket q b.expiry a bs)) := by
        simp [placeShare, hu, credit, hb, hlen']
      rw [hp, laterBucket]
      exact ⟨fun b h => by rw [h]; rfl, fun h => by rw [h]; rfl⟩

end Sys2Proof.Proofs.Sharing
end

section
/-! Requests that read a record or write one, without notice or entry: their replies and what they leave. -/

namespace Sys2Proof.Proofs.Writing

open Sys2Proof Sys2Proof.Machine Sys2Proof.Laws Sys2Proof.Proofs.Links Sys2Proof.Proofs.Basics Sys2Proof.Proofs.Bounds
  Sys2Proof.Proofs.Steps Sys2Proof.Proofs.Rules Sys2Proof.Proofs.Requests Sys2Proof.Proofs.Replies Sys2Proof.Proofs.Entries
  Sys2Proof.Proofs.Trade

/-! ## A request that writes, a request that reads -/

/-- A request whose effect gives no notice, carried out. -/
theorem written {c : Instr} {cs : State → List Check} {G : State → State} {A : State → List Fld} (hG : Silent G) (hA : LinkFree A)
    {s : State} (hr : ready (requestLink c) s = true) (hm : linkAndModeCheck (requestLink c) (requestFrame c).kind s = none)
    (hc : LinkFree (fun s => firstFailing (cs s))) (hp : firstFailing (cs s) = none) :
    takeRequest c (fun s => ruled (cs s) (okay (G s) (A s)) s) s =
      .next (replied (requestLink c) (requestFrame c).kind (requestFrame c).tag ⟨.ok, A s⟩ (G s)) := by
  rw [Told.passed (told_okay hG hA) hr hm hc hp, carried_plain]

/-! ## The codes of the states -/

theorem cardStateCode_eq (x : CardState) : cardStateCode x = [CardState.active, .frozen, .closed].idxOf x := by cases x <;> rfl

theorem lastEndCode_eq (x : LastEnd) : lastEndCode x = [LastEnd.captured, .released, .expired, .restart].idxOf x := by
  cases x <;> rfl

/-! ## BALANCE, CARD_DETAIL, HOLD_DETAIL -/

/-- 01 R18: the status of a bucket, by its status without a shop. -/
theorem bucketStatus_eq (s : State) (shop : Option Nat) (b : Bucket) :
    bucketStatus s shop b =
      if valueStatus s b.pool b.expiry = 0 ∧ shop.any (fun i => !(s.pool b.pool).mask.getLsbD (s.shop i).category) = true then 3
      else valueStatus s b.pool b.expiry := by
  unfold bucketStatus
  cases shop with
  | none =>
    cases valueStatus s b.pool b.expiry <;> rfl
  | some i =>
    cases hv : valueStatus s b.pool b.expiry with
    | succ n => rfl
    | zero => cases hm : (s.pool b.pool).mask.getLsbD (s.shop i).category <;> simp [maskHas, hm]

theorem balanceChecks_pass {id : Nat} {shop : Option Nat} {c : Card} {s : State} (hid : cardIdOk id = true) (hc : s.card? id = some c)
    (hs : ∀ i, shop = some i → shopOk i = true ∧ (s.shop i).state ≠ .unused) : firstFailing (balanceChecks id shop s) = none := by
  unfold balanceChecks
  simp only [firstFailing_none, List.mem_cons, List.not_mem_nil, or_false]
  rintro x (rfl | rfl | rfl)
  · refine require_true ?_ _ _
    cases shop with
    | none => simp [hid]
    | some i => simp [hid, (hs i rfl).1]
  · exact require_true (by simp [hc]) _ _
  · cases shop with
    | none => rfl
    | some i => exact require_true (by simpa using (hs i rfl).2) _ _

theorem cardChecks_pass {id : Nat} {c : Card} {s : State} (hid : cardIdOk id = true) (hc : s.card? id = some c) :
    firstFailing (cardChecks id s) = none := by
  simp [cardChecks, hid, hc, require]

/-- Settles O19. -/
theorem cardAndHoldReadsChangeNothing : Obligations.CardAndHoldReadsChangeNothing := by
  unfold Obligations.CardAndHoldReadsChangeNothing
  intro cardCode status atShop bucketsOf
  have hb : ∀ s shop (c : Card), listFlds (c.buckets.map (bucketFlds s shop)) = bucketsOf s shop c := fun s shop c =>
    congrArg listFlds (List.map_congr_left fun b _ => by
      rw [bucketFlds, bucketStatus_eq]
      rfl)
  refine ⟨fun l tag id shop c s hr hs hid hc hshop => ?_, fun tag id c s hr hs hid hc => ?_, ?_⟩
  · refine (written (c := .balance l tag id shop) (cs := balanceChecks id shop) (A := fun s => balanceFlds s shop (s.card id))
      Silent.id (fun _ _ _ => rfl) hr (modeCheck_of_valid hs rfl rfl l (.inr rfl)) (fun _ _ _ => rfl)
      (balanceChecks_pass hid hc hshop)).trans ?_
    rw [balanceFlds, hb, card_of_card? hc, cardStateCode_eq]
    rfl
  · refine (written (c := .cardDetail .a tag id) (cs := cardChecks id) (A := fun s => cardDetailFlds s (s.card id))
      Silent.id (fun _ _ _ => rfl) hr (modeCheck_office hs rfl rfl) (fun _ _ _ => rfl) (cardChecks_pass hid hc)).trans ?_
    rw [cardDetailFlds, hb, card_of_card? hc, cardStateCode_eq]
    rfl
  · intro tag n s hr hs hn
    dsimp only
    refine (written (c := .holdDetail .a tag n) (cs := fun _ => [require (n < Config.holdSlots) .badField])
      (A := fun s => holdDetailFlds s (s.holdSlot n)) Silent.id (fun _ _ _ => rfl) hr (modeCheck_office hs rfl rfl)
      (fun _ _ _ => rfl) (by rw [require_true (by simpa [Config.holdSlots] using hn)]; rfl)).trans ?_
    rw [holdDetailFlds, lastEndCode_eq]
    cases (s.holdSlot n).hold <;> rfl

/-! ## FREEZE_CARD, UNFREEZE_CARD, CLOSE_CARD -/

theorem freezeChecks_pass {id : Nat} {c : Card} {s : State} (hid : cardIdOk id = true) (hc : s.card? id = some c)
    (hst : c.state ≠ .closed) : firstFailing (freezeChecks id s) = none := by
  simp [freezeChecks, cardChecks, hid, hc, card_of_card? hc, hst, require]

/-- 01 R20: a card frozen or unfrozen. -/
theorem frozenAs_written {i : Instr} {id : Nat} (x : CardState) {c : Card} {s : State} (hr : ready (requestLink i) s = true)
    (hm : linkAndModeCheck (requestLink i) (requestFrame i).kind s = none) (hid : cardIdOk id = true) (hc : s.card? id = some c)
    (hst : c.state ≠ .closed) :
    takeRequest i (fun s => ruled (freezeChecks id s) (frozenAs id x s) s) s =
      .next (replied (requestLink i) (requestFrame i).kind (requestFrame i).tag ⟨.ok, [Fld.u8 (cardStateCode x)]⟩
        { s with cards := tablePut id { c with state := x } s.cards }) := by
  refine (written (cs := freezeChecks id) (G := fun s => s.setCard id { s.card id with state := x })
    (A := fun _ => [Fld.u8 (cardStateCode x)]) ⟨fun _ _ _ => rfl, fun _ => rfl, fun _ => rfl⟩ (fun _ _ _ => rfl) hr hm
    (fun _ _ _ => rfl) (freezeChecks_pass hid hc hst)).trans ?_
  rw [card_of_card? hc]
  rfl

theorem closeChecks_first {id : Nat} {c : Card} {s : State} (hid : cardIdOk id = true) (hc : s.card? id = some c)
    (hst : c.state ≠ .closed) :
    firstFailing (closeChecks id s) =
      require (cardValue s c = 0 && c.holds.isEmpty) .notEmpty [Fld.u32 (cardValue s c), .u32 c.holds.length] := by
  have h1 : require (cardIdOk id) .badField = none := require_true hid _ _
  have h2 : require (s.card? id).isSome .noCard = none := require_true (by rw [hc]; rfl) _ _
  have h3 : require (decide (c.state ≠ .closed)) .cardClosed = none := require_true (by simpa using hst) _ _
  rw [closeChecks, cardChecks, card_of_card? hc, h1, h2, h3]
  cases require (cardValue s c = 0 && c.holds.isEmpty) .notEmpty [Fld.u32 (cardValue s c), .u32 c.holds.length] <;> rfl

/-- Settles O20. -/
theorem cardStateRequestsSetTheState : Obligations.CardStateRequestsSetTheState := by
  unfold Obligations.CardStateRequestsSetTheState
  refine ⟨fun tag id c s hr hs hid hc hst => ⟨?_, ?_⟩, fun tag id c s hr hs hid hc hst => ?_⟩
  · exact frozenAs_written (i := .freezeCard .a tag id) .frozen hr (modeCheck_office hs rfl rfl) hid hc hst
  · exact frozenAs_written (i := .unfreezeCard .a tag id) .active hr (modeCheck_office hs rfl rfl) hid hc hst
  · have hfirst := closeChecks_first hid hc hst
    by_cases he : cardValue s c = 0 ∧ c.holds = []
    · rw [require_true (by simp [he.1, he.2])] at hfirst
      rw [if_pos he]
      refine (written (c := .closeCard .a tag id) (cs := closeChecks id) (G := fun s => s.setCard id (closedCard s (s.card id)))
        (A := fun s => [Fld.u32 s.period.live]) ⟨fun _ _ _ => rfl, fun _ => rfl, fun _ => rfl⟩ (fun _ _ _ => rfl) hr
        (modeCheck_office hs rfl rfl) (fun _ _ _ => rfl) hfirst).trans ?_
      rw [card_of_card? hc]
      rfl
    · rw [require_false (by simpa [List.isEmpty_iff] using he)] at hfirst
      rw [if_neg he]
      exact refused (c := .closeCard .a tag id) (cs := closeChecks id)
        (e := fun s => okay (s.setCard id (closedCard s (s.card id))) [Fld.u32 s.period.live]) hr (modeCheck_office hs rfl rfl)
        (fun _ _ _ => rfl) hfirst

/-! ## The Time Base -/

/-- Settles O51. -/
theorem timeRequestsWriteOneField : Obligations.TimeRequestsWriteOneField := by
  unfold Obligations.TimeRequestsWriteOneField
  intro tag v on s hr hi second left
  have hset : ∀ f : State → TimeBase, LinkFree f → Silent (fun s => { s with time := f s }) := fun f hf =>
    ⟨fun k k' s => by
      change { withLinks k k' s with time := f (withLinks k k' s) } = _
      rw [hf]
      rfl, fun _ => rfl, fun _ => rfl⟩
  refine ⟨?_, fun hv => ?_⟩
  · exact written (c := .setTime .a tag v) (cs := fun _ => []) (G := timeSetTo v)
      (A := fun s => [Fld.u32 v, .u32 (secondOfDay v), .u16 s.time.day, .u32 (untilRollover (timeSetTo v s))])
      (hset _ fun _ _ _ => rfl) (fun _ _ _ => rfl) hr ((modeCheck_none _ _ _).2 ⟨.inl rfl, hi, .inr rfl, .inr rfl, .inr (fun h => absurd h (show (0x60 : Nat) ≠ 0x75 by decide))⟩)
      (fun _ _ _ => rfl) rfl
  · have hs : storeValid s = true := by simp [storeValid, hv, hi]
    refine ⟨?_, fun hle => ?_, fun hlt => ?_, ?_, ?_⟩
    · exact written (c := .setDay .a tag v) (cs := fun _ => []) (G := fun s => { s with time := { s.time with day := v } })
        (A := fun _ => [Fld.u16 v]) (hset _ fun _ _ _ => rfl) (fun _ _ _ => rfl) hr (modeCheck_office hs rfl rfl)
        (fun _ _ _ => rfl) rfl
    · exact written (c := .setRollover .a tag v) (cs := fun _ => [require (v < Config.daySeconds) .badField])
        (G := fun s => { s with time := { s.time with rolloverSecond := v } })
        (A := fun s => [Fld.u32 v, .u32 (untilRollover { s with time := { s.time with rolloverSecond := v } })])
        (hset _ fun _ _ _ => rfl) (fun _ _ _ => rfl) hr (modeCheck_office hs rfl rfl) (fun _ _ _ => rfl)
        (by rw [require_true (by simp [Config.daySeconds]; omega)]; rfl)
    · exact refused (c := .setRollover .a tag v) (cs := fun _ => [require (v < Config.daySeconds) .badField])
        (e := fun s => okay { s with time := { s.time with rolloverSecond := v } }
          [Fld.u32 v, .u32 (untilRollover { s with time := { s.time with rolloverSecond := v } })]) hr
        (modeCheck_office hs rfl rfl) (fun _ _ _ => rfl)
        (by rw [require_false (by simp [Config.daySeconds]; omega)]; rfl)
    · exact written (c := .setTrading .a tag on) (cs := fun _ => []) (G := fun s => { s with time := { s.time with trading := on } })
        (A := fun _ => [Fld.flag on]) (hset _ fun _ _ _ => rfl) (fun _ _ _ => rfl) hr (modeCheck_office hs rfl rfl)
        (fun _ _ _ => rfl) rfl
    · refine (written (c := .timeStatus .a tag) (cs := fun _ => []) (A := timeStatusFlds) Silent.id (fun _ _ _ => rfl) hr
        (modeCheck_office hs rfl rfl) (fun _ _ _ => rfl) rfl).trans ?_
      rw [timeStatusFlds]
      cases s.time.timeSet <;> rfl

end Sys2Proof.Proofs.Writing
end

section
/-! The requests that write one shop record, the one that reads it, and the adjustment of a carry. -/

namespace Sys2Proof.Proofs.ShopWork

open Sys2Proof Sys2Proof.Machine Sys2Proof.Laws Sys2Proof.Proofs.Links Sys2Proof.Proofs.Basics Sys2Proof.Proofs.Bounds
  Sys2Proof.Proofs.Steps Sys2Proof.Proofs.Rules Sys2Proof.Proofs.Requests Sys2Proof.Proofs.Replies Sys2Proof.Proofs.Entries
  Sys2Proof.Proofs.Trade Sys2Proof.Proofs.Writing

/-! ## The codes and the fields of a shop -/

theorem shopStateCode_eq (x : ShopState) : shopStateCode x = [ShopState.unused, .trading, .barred, .departed].idxOf x := by
  cases x <;> rfl

theorem closingStateCode_eq (x : ClosingState) : closingStateCode x = [ClosingState.closing, .settling, .released].idxOf x := by
  cases x <;> rfl

theorem payoutStateCode_eq (x : PayoutState) :
    payoutStateCode x = [PayoutState.none, .due, .offered, .uncertain, .paid, .failed, .deferred, .held].idxOf x := by
  cases x <;> rfl

theorem resultFlds_eq (r : ClosingResult) :
    resultFlds r = if r.computed then [Fld.flag true, .i64 r.fee, .i64 r.commission, .i64 r.net, .i64 r.due, .i64 r.newCarry, .flag r.held]
      else [Fld.flag false] := by
  unfold resultFlds
  split <;> rfl

/-! ## Checks that pass -/

theorem mustBeDefined_none {s : State} {shop : Nat} (h : (s.shop shop).state ≠ .unused) : mustBeDefined s shop = none :=
  require_true (by simpa using h) _ _

theorem scheduleOk_of {a : ScheduleArg} (h1 : a.redemptionRate ≤ 50000) (h2 : a.fixedFee ≤ 500) (h3 : a.commissionRate ≤ 50000) :
    scheduleOk a = true := by
  simp [scheduleOk, h1, h2, h3]

theorem defineShopChecks_first {shop category : Nat} {a : ScheduleArg} {s : State} (hok : shopOk shop = true) (hc : category < 16)
    (ha : scheduleOk a = true) :
    firstFailing (defineShopChecks shop category a s) =
      require (s.ctrl.mode = .config || (s.shop shop).state = .unused) .configOnly := by
  have h : require (shopOk shop && category < 16 && scheduleOk a) .badField = none := require_true (by simp [hok, hc, ha]) _ _
  rw [defineShopChecks, h]
  cases require (s.ctrl.mode = .config || (s.shop shop).state = .unused) .configOnly <;> rfl

theorem shopChecks_first {shop : Nat} {s : State} (hok : shopOk shop = true) :
    firstFailing (shopChecks shop s) = mustBeDefined s shop := by
  rw [shopChecks, require_true hok]
  cases mustBeDefined s shop <;> rfl

/-- A request of the back office whose effect writes one shop record. -/
theorem shop_written {c : Instr} {cs : State → List Check} {shop : Nat} {x : State → Shop} {A : State → List Fld} (hx : LinkFree x)
    (hA : LinkFree A) {s : State} (hr : ready (requestLink c) s = true)
    (hm : linkAndModeCheck (requestLink c) (requestFrame c).kind s = none) (hc : LinkFree (fun s => firstFailing (cs s)))
    (hp : firstFailing (cs s) = none) :
    takeRequest c (fun s => ruled (cs s) (okay (s.setShop shop (x s)) (A s)) s) s =
      .next (replied (requestLink c) (requestFrame c).kind (requestFrame c).tag ⟨.ok, A s⟩
        { s with shops := tableWrite unusedShop shop (x s) s.shops }) :=
  written (silent_setShop shop hx) hA hr hm hc hp

theorem definedShop_eq (category account : Nat) (c : Schedule) (x : Shop) :
    definedShop category account c x =
      if x.state = .unused then {
          state := .trading, category := category, account := account, schedule := c, staged := none, live := zeroPosition,
          closing := zeroPosition, closingSchedule := c, result := zeroResult, carry := 0, payout := noPayout, attention := false }
        else { x with category := category, account := account, schedule := c } := rfl

/-- Settles O38. -/
theorem shopRequestsWriteTheRecord : Obligations.ShopRequestsWriteTheRecord := by
  unfold Obligations.ShopRequestsWriteTheRecord
  intro stateCode sched staged position result payout tag shop s hr hs hok x wrote
  have hstaged : ∀ c : Option Schedule, optFlds (c.map storedScheduleFlds) = staged c := fun c => by cases c <;> rfl
  have hpayout : ∀ p, payoutFlds p = payout p := fun p => by rw [payoutFlds, payoutStateCode_eq]
  have hshop : ∀ y : Shop, shopFlds y = [Fld.u8 (stateCode y.state), .u8 y.category, .u64 y.account] ++ sched y.schedule ++
      staged y.staged ++ position y.live ++ position y.closing ++ sched y.closingSchedule ++ result y.result ++ [Fld.i64 y.carry] ++
      payout y.payout ++ [Fld.flag y.attention] := fun y => by
    rw [shopFlds, hstaged, hpayout, resultFlds_eq, shopStateCode_eq]
    rfl
  refine ⟨fun category account a hcat h1 h2 h3 hmay => ?_, fun category account a hcat h1 h2 h3 hdef hop => ?_, fun hdef => ?_⟩
  · intro c y
    have hy : definedShop category account (storedSchedule a) (s.shop shop) = y := definedShop_eq ..
    refine ⟨?_, fun hdef => ?_⟩
    · have hchk := defineShopChecks_first (s := s) hok hcat (scheduleOk_of h1 h2 h3)
      rw [require_true (by simpa [or_comm] using hmay)] at hchk
      have h := shop_written (c := .defineShop .a tag shop category account a) (cs := defineShopChecks shop category a) (shop := shop)
        (x := fun s => definedShop category account (storedSchedule a) (s.shop shop))
        (A := fun s => shopFlds (definedShop category account (storedSchedule a) (s.shop shop))) (fun _ _ _ => rfl)
        (fun _ _ _ => rfl) hr (modeCheck_office hs rfl rfl) (fun _ _ _ => rfl) hchk
      rw [hy, hshop] at h
      exact h
    · exact shop_written (c := .stageSchedule .a tag shop a) (cs := stageChecks shop a) (shop := shop)
        (x := fun s => { s.shop shop with staged := some (storedSchedule a) }) (A := fun _ => storedScheduleFlds (storedSchedule a))
        (fun _ _ _ => rfl) (fun _ _ _ => rfl) hr (modeCheck_office hs rfl rfl) (fun _ _ _ => rfl)
        (by rw [stageChecks, mustBeDefined_none hdef, require_true (by rw [hok, scheduleOk_of h1 h2 h3]; rfl)]; rfl)
  · have hchk := defineShopChecks_first (s := s) hok hcat (scheduleOk_of h1 h2 h3)
    rw [require_false (by simp [hop]; exact hdef)] at hchk
    exact refused (c := .defineShop .a tag shop category account a) (cs := defineShopChecks shop category a)
      (e := fun s => okay (s.setShop shop (definedShop category account (storedSchedule a) (s.shop shop)))
        (shopFlds (definedShop category account (storedSchedule a) (s.shop shop)))) hr (modeCheck_office hs rfl rfl)
      (fun _ _ _ => rfl) hchk
  · have hdefined : firstFailing (shopChecks shop s) = none := (shopChecks_first hok).trans (mustBeDefined_none hdef)
    refine ⟨fun code y hcode => ?_, fun hst => ?_, fun account => ?_, ?_⟩
    · have hy : targetState code = some y ∧ shopStateCode y = code := by
        obtain h | h | h := hcode <;> obtain ⟨rfl, rfl⟩ := Prod.mk.injEq .. ▸ h <;> exact ⟨rfl, rfl⟩
      obtain ⟨hof, hco⟩ := hy
      have h := shop_written (c := .setShopState .a tag shop code) (cs := setShopStateChecks shop code) (shop := shop)
        (x := fun s => { s.shop shop with state := (targetState code).getD .trading })
        (A := fun _ => [Fld.u8 (shopStateCode ((targetState code).getD .trading))])
        (fun _ _ _ => rfl) (fun _ _ _ => rfl) hr (modeCheck_office hs rfl rfl) (fun _ _ _ => rfl)
        (by rw [setShopStateChecks, mustBeDefined_none hdef, require_true (by rw [hok, hof]; rfl)]; rfl)
      simp only [hof, Option.getD_some, hco] at h
      refine Eq.trans ?_ h
      change takeRequest _ (setShopStateRule shop code) s = _
      unfold setShopStateRule
      simp only [hof, Option.getD_some, hco]
    · exact shop_written (c := .clearAttention .a tag shop) (cs := clearChecks shop) (shop := shop)
        (x := fun s => { s.shop shop with attention := false }) (A := fun _ => [Fld.flag false])
        (fun _ _ _ => rfl) (fun _ _ _ => rfl) hr (modeCheck_office hs rfl rfl) (fun _ _ _ => rfl)
        (by rw [clearChecks, shopChecks, require_true hok, mustBeDefined_none hdef, require_true (by simpa using hst)]; rfl)
    · exact shop_written (c := .setPayoutAccount .a tag shop account) (cs := shopChecks shop) (shop := shop)
        (x := fun s => { s.shop shop with account := account }) (A := fun _ => [])
        (fun _ _ _ => rfl) (fun _ _ _ => rfl) hr (modeCheck_office hs rfl rfl) (fun _ _ _ => rfl) hdefined
    · intro head
      have hhead : positionHeadFlds x = head := by
        rw [positionHeadFlds, hstaged, shopStateCode_eq]
      have hclosing : closingFlds s x = position x.closing ++ sched x.closingSchedule ++
          [Fld.u32 s.period.closing, .u8 ([ClosingState.closing, .settling, .released].idxOf s.period.state)] ++
          result x.result ++ payout x.payout := by
        rw [closingFlds, hpayout, resultFlds_eq, closingStateCode_eq]
        rfl
      have h : ∀ sel, sel < 2 → exec (.shopPosition .a tag shop sel) s = .next (replied .a 0x44 tag
          ⟨.ok, positionHeadFlds x ++ (if sel = 0 then liveFlds s x else closingFlds s x)⟩ s) := fun sel hsel =>
        written (c := .shopPosition .a tag shop sel) (cs := positionChecks shop sel) (G := id)
          (A := fun s => positionHeadFlds (s.shop shop) ++ (if sel = 0 then liveFlds s (s.shop shop) else closingFlds s (s.shop shop)))
          Silent.id (fun _ _ _ => rfl) hr (modeCheck_office hs rfl rfl) (fun _ _ _ => rfl)
          (by rw [positionChecks, mustBeDefined_none hdef, require_true (by simp [hok, hsel])]; rfl)
      constructor
      · rw [h 0 (by decide), hhead]
        rfl
      · rw [h 1 (by decide), hhead, hclosing]
        rfl

/-! ## ADJUST_CARRY -/

/-- 06 R115: the effect of an adjustment, without its entry. -/
def carryAdjusted (shop : Nat) (amount : Int) (s : State) : State := s.setShop shop (adjustedShop amount (s.shop shop))

/-- 06 R115: the reply of an adjustment. -/
def adjustFlds (shop : Nat) (amount : Int) (s : State) : List Fld :=
  [Fld.u32 s.journal.next, .i64 (adjustedShop amount (s.shop shop)).carry, .flag (!withinLimit ((s.shop shop).carry + amount))]

theorem told_adjust (shop : Nat) (amount : Int) (ref : Option Nat) :
    Told (fun s => adjustEffect shop amount ref s)
      (fun s => entered (adjustEntry s shop amount ref) (carryAdjusted shop amount s))
      (fun s => enteredNotices (adjustEntry s shop amount ref) (carryAdjusted shop amount s))
      (fun s => ⟨.ok, adjustFlds shop amount s⟩) (fun _ => []) :=
  told_entry (silent_setShop shop fun _ _ _ => rfl) (fun _ _ _ => rfl) (fun _ _ _ => rfl)

theorem adjustChecks_first {shop : Nat} {amount : Int} {s : State} (hok : shopOk shop = true) (h0 : amount ≠ 0)
    (hl : withinLimit amount = true) (hdef : (s.shop shop).state ≠ .unused) :
    firstFailing (adjustChecks shop amount s) =
      firstFailing [require (s.period.state = .released) .closeBusy, journalRoom s] := by
  rw [adjustChecks, require_true (by simp [hok, h0, hl]), mustBeDefined_none hdef]
  rfl

/-- 06 R107: a sum passes the position limit exactly where its clamp differs from it. -/
theorem withinLimit_eq_clamp (x : Int) : (!withinLimit x) = decide (clampMoney x ≠ x) := by
  rw [Bool.eq_iff_iff, Bool.not_eq_true', decide_eq_true_eq, ne_eq, ← withinLimit_iff, Bool.not_eq_true]

/-- Settles O40. -/
theorem adjustmentMovesTheCarry : Obligations.AdjustmentMovesTheCarry := by
  unfold Obligations.AdjustmentMovesTheCarry
  intro tag shop amount ref s hr hs hok h0 hl hdef x sum carry
  have hfirst := adjustChecks_first (s := s) hok h0 hl hdef
  refine ⟨fun hst => ?_, fun hst hj => ?_⟩
  · rw [require_false (by simpa using hst)] at hfirst
    exact refused (c := .adjustCarry .a tag shop amount ref) (cs := adjustChecks shop amount) (e := adjustEffect shop amount ref) hr
      (modeCheck_office hs rfl rfl) (fun _ _ _ => rfl) hfirst
  · rw [require_true (by simpa using hst), journalRoom_none hj] at hfirst
    obtain ⟨t, hx, h⟩ := Told.recorded (c := .adjustCarry .a tag shop amount ref) (cs := adjustChecks shop amount)
      (told_adjust shop amount ref) hr (modeCheck_office hs rfl rfl) (fun _ _ _ => rfl) hfirst (fun _ => rfl) rfl
    have hcarry : clampMoney sum = carry := clampMoney_eq sum
    have hmark : (!withinLimit sum) = decide (carry ≠ sum) := by rw [withinLimit_eq_clamp, hcarry]
    have hy : adjustedShop amount x =
        { x with carry := carry, live := { x.live with saturated := x.live.saturated || decide (carry ≠ sum) } } := by
      rw [← hmark, ← hcarry]
      rfl
    refine ⟨t, hx, fun i => ?_, ?_, h.cards, h.holds, ?_, h.elsewhere, ?_⟩
    · rw [h.shop i]
      have hlive : ∀ q, charged (adjustEntry s shop amount ref).kind (carryAdjusted shop amount s) i
          (adjustEntry s shop amount ref).parts (posted (adjustEntry s shop amount ref) i q) = q := fun q => rfl
      rw [hlive, ← hy]
      change (carryAdjusted shop amount s).shop i = _
      rw [carryAdjusted, shop_setShop]
    · rw [h.journal, ← hcarry]
      rfl
    · obtain rfl : _ = t := Host.Outcome.next.inj ((Told.passed (c := .adjustCarry .a tag shop amount ref)
        (cs := adjustChecks shop amount) (told_adjust shop amount ref) hr (modeCheck_office hs rfl rfl) (fun _ _ _ => rfl)
        hfirst).symm.trans hx)
      exact Entries.LinkFree.carried (f := fun t => t.pools) (fun _ _ _ => rfl) _ _ _ _ _ _ _ s
    · rw [← hmark, ← hcarry]
      exact h.links

end Sys2Proof.Proofs.ShopWork
end

section
/-! The requests of the Period Controller: CLOSE_PERIOD, SET_SCHEDULER, PERIOD_STATUS and PERIOD_SUMMARY; and how a scheduler asks for
a close. -/

namespace Sys2Proof.Proofs.PeriodWork

open Sys2Proof Sys2Proof.Machine Sys2Proof.Laws Sys2Proof.Proofs.Links Sys2Proof.Proofs.Basics Sys2Proof.Proofs.Bounds
  Sys2Proof.Proofs.Steps Sys2Proof.Proofs.Rules Sys2Proof.Proofs.Requests Sys2Proof.Proofs.Replies Sys2Proof.Proofs.Entries
  Sys2Proof.Proofs.Trade Sys2Proof.Proofs.Writing Sys2Proof.Proofs.ShopWork

/-! ## The taking of a close -/

theorem closedShop_eq (x : Shop) :
    closedShop x = if x.state = .unused then x else { x with
      closing := x.live, closingSchedule := x.schedule, live := zeroPosition, schedule := x.staged.getD x.schedule, staged := none,
      result := { zeroResult with computed := false }, payout := { state := .none, amount := 0, serial := 0 } } := rfl

/-- 07 R127: the summary that the taking of a close begins. -/
def begunSummary (cause : CloseCause) (s : State) : Summary :=
  { period := s.period.live, cause := cause, day := s.time.day, clock := s.time.clock, firstSeq := s.journal.next,
    rosterCount := (definedShops s).length, computation := none, release := none }

/-- 07 R127: the Period Controller after the taking of a close. -/
def closeTaken (cause : CloseCause) (s : State) : PeriodController :=
  { s.period with
    closing := s.period.live, live := s.period.live + 1, state := .closing, cursor := 0, roster := definedShops s,
    countdown := if s.period.mode = .interval then s.period.interval * 60 else s.period.countdown,
    summaries := (if 8 ≤ s.period.summaries.length then s.period.summaries.tail else s.period.summaries) ++ [begunSummary cause s] }

/-- 07 R127: below the highest live number, the taking of a close changes the shops and the Period Controller. -/
theorem takeClose_eq (cause : CloseCause) {s : State} (h : s.period.live < 4294967295) :
    takeClose cause s = { s with shops := (takeClose cause s).shops, period := closeTaken cause s } := by
  have hp : (takeClose cause s).period = closeTaken cause s := by
    have hl : periodAfter s.period.live = s.period.live + 1 := if_neg (Nat.ne_of_lt h)
    unfold takeClose closeTaken begunSummary
    rw [hl]
    unfold loadCountdown
    by_cases hm : s.period.mode = .interval
    · simp only [if_pos hm]
      rfl
    · simp only [if_neg hm]
      rfl
  rw [← hp]
  rfl

/-- Settles O41. -/
theorem closePeriodTakesTheClose : Obligations.ClosePeriodTakesTheClose := by
  unfold Obligations.ClosePeriodTakesTheClose
  intro tag s hr hs p
  refine ⟨fun hst => ?_, fun hst hlive => ?_⟩
  · exact refused (c := .closePeriod .a tag) (cs := closePeriodChecks)
      (e := fun s => okay (takeClose .request s) [Fld.u32 (takeClose .request s).period.closing,
        .u32 (takeClose .request s).period.live, .u32 (takeClose .request s).period.roster.length]) hr
      (modeCheck_office hs rfl rfl) (fun _ _ _ => rfl) (by rw [closePeriodChecks, require_false (by simpa using hst)]; rfl)
  · intro roster m
    have h := written (c := .closePeriod .a tag) (cs := closePeriodChecks) (G := takeClose .request)
      (A := fun s => [Fld.u32 (takeClose .request s).period.closing, .u32 (takeClose .request s).period.live,
        .u32 (takeClose .request s).period.roster.length]) (silent_takeClose .request) (fun _ _ _ => rfl) hr
      (modeCheck_office hs rfl rfl) (fun _ _ _ => rfl) (by rw [closePeriodChecks, require_true (by simpa using hst)]; rfl)
    have ht := takeClose_eq .request hlive
    refine ⟨takeClose .request s, ?_, fun i => ?_, ht⟩
    · refine Eq.trans h ?_
      have hp : (takeClose .request s).period = closeTaken .request s := congrArg (fun t => t.period) ht
      rw [hp]
      rfl
    · rw [shop_takeClose, closedShop_eq]

/-! ## SET_SCHEDULER and the schedulers -/

theorem scheduled_eq (m : SchedulerMode) (n : Nat) (p : PeriodController) :
    scheduled m n p =
      { p with
        mode := m, interval := min (max n 15) 10080,
        countdown := if m ≠ .interval then 0 else if p.mode = .interval then p.countdown else min (max n 15) 10080 * 60,
        closePending := if m = .manual then none else p.closePending } := by
  cases m <;> rfl

theorem loadCountdown_mode (p : PeriodController) : (loadCountdown p).mode = p.mode := by
  unfold loadCountdown
  split <;> rfl

theorem loadCountdown_interval (p : PeriodController) : (loadCountdown p).interval = p.interval := by
  unfold loadCountdown
  split <;> rfl

/-- 11 R189: where no offer may enter, none does. -/
theorem enterOffers_of_none {s : State} (h : ∀ n, n < 4 → offerMayEnter s n = false) : enterOffers s = s :=
  foldl_id _ _ _ fun n hn => by simp [h n (List.mem_range.1 hn)]

/-- Settles O42. -/
theorem schedulerRequestsCloses : Obligations.SchedulerRequestsCloses := by
  unfold Obligations.SchedulerRequestsCloses
  refine ⟨fun tag code n m s hr hs hcode => ?_, fun s hp hoff hmode hdown => ?_, fun c s => ⟨fun hst => ?_, fun hst => if_neg hst⟩⟩
  · intro p i left
    have hm : schedulerModeOf code = some m ∧ schedulerModeCode m = code := by
      obtain h | h | h := hcode <;> obtain ⟨rfl, rfl⟩ := Prod.mk.injEq .. ▸ h <;> exact ⟨rfl, rfl⟩
    obtain ⟨hof, hco⟩ := hm
    have h := written (c := .setScheduler .a tag code n) (cs := fun _ => [require (schedulerModeOf code).isSome .badField])
      (G := fun s => { s with period := scheduled m n s.period })
      (A := fun s => [Fld.u8 (schedulerModeCode (scheduled m n s.period).mode), .u16 (scheduled m n s.period).interval] ++
        countdownFlds (scheduled m n s.period)) ⟨fun _ _ _ => rfl, fun _ => rfl, fun _ => rfl⟩ (fun _ _ _ => rfl) hr
      (modeCheck_office hs rfl rfl) (fun _ _ _ => rfl) (by rw [require_true (by rw [hof]; rfl)]; rfl)
    have hrule : exec (.setScheduler .a tag code n) s = takeRequest (.setScheduler .a tag code n) (fun s =>
        ruled [require (schedulerModeOf code).isSome .badField]
          (okay { s with period := scheduled m n s.period }
            ([Fld.u8 (schedulerModeCode (scheduled m n s.period).mode), .u16 (scheduled m n s.period).interval] ++
              countdownFlds (scheduled m n s.period))) s) s := by
      change takeRequest _ (setSchedulerRule code n) s = _
      unfold setSchedulerRule
      rw [hof]
      rfl
    rw [hrule, h, scheduled_eq]
    dsimp only
    rw [hco]
    rfl
  · have hx : exec .intervalCountdownExpiry s = .next (intervalExpiry s) := by
      have := dueEvent_power (f := intervalExpiry) hp
      rwa [enterOffers_of_none hoff] at this
    have hdue : intervalDue s = true := by simp [intervalDue, hmode, hdown]
    have hload : ∀ q : PeriodController, q.mode = .interval → loadCountdown q = { q with countdown := q.interval * 60 } :=
      fun q hq => if_pos hq
    refine ⟨_, hx, ?_⟩
    unfold intervalExpiry scheduleClose
    rw [if_pos hdue]
    by_cases hst : s.period.state = .released
    · have hmode' : (takeClose .interval s).period.mode = .interval := (loadCountdown_mode _).trans hmode
      have hint : (takeClose .interval s).period.interval = s.period.interval := loadCountdown_interval _
      rw [if_pos hst]
      dsimp only
      rw [hload _ hmode', hint]
      exact ⟨rfl, fun _ => rfl, fun h => absurd hst h⟩
    · rw [if_neg hst]
      dsimp only
      rw [hload { s.period with closePending := some (s.period.closePending.getD .interval) } hmode]
      exact ⟨rfl, fun h => absurd h hst, fun _ => rfl⟩
  · refine ⟨if_pos hst, fun hlive => ?_⟩
    intro t roster m
    exact ⟨fun i => (shop_takeClose c s i).trans (closedShop_eq _), takeClose_eq c hlive⟩

/-! ## PERIOD_STATUS and PERIOD_SUMMARY -/

theorem schedulerModeCode_eq (x : SchedulerMode) : schedulerModeCode x = [SchedulerMode.manual, .daily, .interval].idxOf x := by
  cases x <;> rfl

theorem closeCauseCode_eq (x : CloseCause) : closeCauseCode x = [CloseCause.request, .daily, .interval].idxOf x := by cases x <;> rfl

theorem modeCode_eq (x : Mode) : modeCode x = [Mode.config, .opened].idxOf x := by cases x <;> rfl

theorem rosterIn_length (s : State) (x : PayoutState) : (rosterIn s x).length = rosterCount s x :=
  List.countP_eq_length_filter.symm

theorem optFlds_if (p : Prop) [Decidable p] (fs : List Fld) :
    optFlds (if p then some fs else none) = if p then Fld.flag true :: fs else [Fld.flag false] := by split <;> rfl

theorem pendingFlds_eq (o : Option CloseCause) :
    optFld .u8 (o.map pendingCauseCode) = match o with
      | none => [Fld.flag false]
      | some x => [Fld.flag true, .u8 (if x = .interval then 1 else 0)] := by
  cases o with
  | none => rfl
  | some x => cases x <;> rfl

/-- 07 R135: the fields of a summary. -/
theorem summaryFlds_eq (m : Summary) :
    summaryFlds m =
      [Fld.u8 ([ClosingState.closing, .settling, .released].idxOf
          (if m.release.isSome then .released else if m.computation.isSome then .settling else .closing)),
        .u32 m.period, .u8 ([CloseCause.request, .daily, .interval].idxOf m.cause), .u16 m.day, .u32 m.clock, .u32 m.firstSeq,
        .u32 m.rosterCount] ++
        (match m.computation with
          | none => [Fld.flag false]
          | some c =>
            [Fld.flag true, .u16 c.day, .u32 c.clock, .i64 c.sumS, .i64 c.sumB, .i64 c.sumF, .i64 c.sumK, .i64 c.sumP, .i64 c.sumC,
             .i64 c.sumT, .u32 c.noneCount, .u32 c.dueCount, .u32 c.deferredCount, .u32 c.heldCount, .u64 c.dueTotal,
             .u64 c.deferredTotal, .u32 c.heldShops, .u32 c.heldByClamp]) ++
        (match m.release with
          | none => [Fld.flag false]
          | some r =>
            [Fld.flag true, .u16 r.day, .u32 r.clock, .u32 r.paidCount, .u64 r.paidTotal, .u32 r.failedCount, .u64 r.failedTotal,
             .u32 r.deferredCount, .u64 r.deferredTotal, .u32 r.heldCount, .u64 r.heldTotal, .i64 r.carrySum,
             .u32 r.madeReleasable, .u32 r.purged]) := by
  unfold summaryFlds
  rw [closingStateCode_eq, closeCauseCode_eq, summaryState]
  cases m.computation <;> cases m.release <;> rfl

/-- 07 R136: the one summary of a period is the one found. -/
theorem summaryOf_of_mem {period : Option Nat} {s : State} {m : Summary} (hm : m ∈ s.period.summaries)
    (hp : m.period = period.getD s.period.closing) (hu : ∀ x ∈ s.period.summaries, x.period = m.period → x = m) :
    summaryOf period s = some m := by
  unfold summaryOf
  cases hf : s.period.summaries.find? (fun x => x.period == period.getD s.period.closing) with
  | none =>
    have := List.find?_eq_none.1 hf m hm
    simp [hp] at this
  | some x =>
    have hx := List.find?_some hf
    rw [hu x (List.mem_of_find?_eq_some hf) ((beq_iff_eq.1 hx).trans hp.symm)]

theorem summaryOf_of_none {period : Option Nat} {s : State} (h : ∀ m ∈ s.period.summaries, m.period ≠ period.getD s.period.closing) :
    summaryOf period s = none :=
  List.find?_eq_none.2 fun m hm => by simpa using h m hm

theorem summaryChecks_first {period : Option Nat} (s : State) (h0 : period ≠ some 0) :
    firstFailing (summaryChecks period s) = require (summaryOf period s).isSome .notFound (heldFlds period s.period.summaries) := by
  rw [summaryChecks, require_true (by simpa using h0)]
  cases require (summaryOf period s).isSome .notFound (heldFlds period s.period.summaries) <;> rfl

/-- A refused PERIOD_SUMMARY. -/
theorem periodSummary_refused {tag : Nat} {period : Option Nat} {s : State} {a : Answer} (hr : ready .a s = true)
    (hs : storeValid s = true) (h : firstFailing (summaryChecks period s) = some a) :
    exec (.periodSummary .a tag period) s = .next (replied .a 0x53 tag a s) :=
  refused (c := .periodSummary .a tag period) (cs := summaryChecks period)
    (e := fun s => okay s (((summaryOf period s).map summaryFlds).getD [])) hr (modeCheck_office hs rfl rfl) (fun _ _ _ => rfl) h

/-- Settles O43. -/
theorem periodReadsChangeNothing : Obligations.PeriodReadsChangeNothing := by
  unfold Obligations.PeriodReadsChangeNothing
  intro tag s hr hs q ms stateCode count
  refine ⟨?_, ?_, fun p m h0 hm hp hu => ?_, fun hnone => ?_, fun n a b h0 hnone ha hb => ?_⟩
  · refine (written (c := .periodStatus .a tag) (cs := fun _ => []) (A := periodStatusFlds) Silent.id (fun _ _ _ => rfl) hr
      (modeCheck_office hs rfl rfl) (fun _ _ _ => rfl) rfl).trans ?_
    unfold periodStatusFlds walkFlds settlingFlds
    rw [pendingFlds_eq, optFlds_if, optFlds_if, closingStateCode_eq, schedulerModeCode_eq, modeCode_eq]
    simp only [payoutStates, List.map_cons, List.map_nil, rosterIn_length]
    rfl
  · exact periodSummary_refused hr hs rfl
  · have hsum := summaryOf_of_mem hm hp hu
    have h := written (c := .periodSummary .a tag p) (cs := summaryChecks p) (G := id)
      (A := fun s => ((summaryOf p s).map summaryFlds).getD []) Silent.id (fun _ _ _ => rfl) hr (modeCheck_office hs rfl rfl)
      (fun _ _ _ => rfl) (by rw [summaryChecks_first s h0, hsum]; rfl)
    refine Eq.trans h ?_
    rw [hsum, Option.map_some, Option.getD_some, summaryFlds_eq]
    rfl
  · refine periodSummary_refused hr hs ?_
    rw [summaryChecks_first s (by simp), summaryOf_of_none hnone]
    rfl
  · refine periodSummary_refused hr hs ?_
    rw [summaryChecks_first s (by simpa using h0), summaryOf_of_none hnone, heldFlds, show s.period.summaries = ms from rfl, ha, hb]
    rfl

end Sys2Proof.Proofs.PeriodWork
end

section
/-! The requests that write one channel record and CHANNEL_STATUS; the requests of Mode Control and of the routing table. -/

namespace Sys2Proof.Proofs.ChannelWork

open Sys2Proof Sys2Proof.Machine Sys2Proof.Laws Sys2Proof.Proofs.Links Sys2Proof.Proofs.Basics Sys2Proof.Proofs.Bounds
  Sys2Proof.Proofs.Steps Sys2Proof.Proofs.Rules Sys2Proof.Proofs.Requests Sys2Proof.Proofs.Replies Sys2Proof.Proofs.Entries
  Sys2Proof.Proofs.Trade Sys2Proof.Proofs.Writing Sys2Proof.Proofs.ShopWork Sys2Proof.Proofs.PeriodWork

/-! ## Channels -/

theorem channelStateCode_eq (x : ChannelState) :
    channelStateCode x = [ChannelState.idle, .running, .offerWait, .suspended, .fault].idxOf x := by cases x <;> rfl

theorem rangeIn_length (s : State) (c : Channel) (x : PayoutState) :
    (rangeIn s c x).length = s.shops.countP (fun e => inRange e.1 c.range && e.2.payout.state = x) := by
  rw [rangeIn, List.length_map, ← List.countP_eq_length_filter]

theorem channelOk_none {n : Nat} (hn : n < 4) : require (channelOk n) .badField = none :=
  require_true (by simpa [channelOk, Config.channelCount] using hn) _ _

/-- A request of the back office whose effect writes one channel record. -/
theorem channel_written {c : Instr} {cs : State → List Check} {n : Nat} {x : State → Channel} {A : State → List Fld} (hx : LinkFree x)
    (hA : LinkFree A) {s : State} (hr : ready (requestLink c) s = true)
    (hm : linkAndModeCheck (requestLink c) (requestFrame c).kind s = none) (hc : LinkFree (fun s => firstFailing (cs s)))
    (hp : firstFailing (cs s) = none) :
    takeRequest c (fun s => ruled (cs s) (okay (s.setChannel n (x s)) (A s)) s) s =
      .next (replied (requestLink c) (requestFrame c).kind (requestFrame c).tag ⟨.ok, A s⟩
        { s with channels := tableWrite idleChannel n (x s) s.channels }) :=
  written (silent_setChannel n hx) hA hr hm hc hp

theorem overlapping_none {n : Nat} {a : ChannelArg} {s : State}
    (h : a.enabled = true → ∀ m, m < 4 → m ≠ n → (s.channel m).enabled = true → rangesMeet (s.channel m).range a.range = false) :
    overlapping s n a = none := by
  unfold overlapping
  split
  case isTrue he =>
    refine List.find?_eq_none.2 fun m hm => ?_
    have hm4 : m < 4 := List.mem_range.1 hm
    simp only [Bool.and_eq_true, decide_eq_true_eq, not_and, Bool.not_eq_true]
    exact fun h1 => h he m hm4 h1.1 h1.2
  case isFalse => rfl

theorem rangeOk_of {r : Option (Nat × Nat)} (h : ∀ x, r = some x → x.1 ≤ x.2 ∧ x.2 ≤ 511) : rangeOk r = true := by
  cases r with
  | none => rfl
  | some x =>
    obtain ⟨h1, h2⟩ := h x rfl
    simp [rangeOk, Config.shopCount, h1]
    omega

theorem setChannelChecks_pass {n : Nat} {a : ChannelArg} {s : State} (hn : n < 4)
    (hrange : ∀ r, a.range = some r → r.1 ≤ r.2 ∧ r.2 ≤ 511) (hcfg : (s.channel n).range = a.range ∨ s.ctrl.mode = .config)
    (hidle : ((s.channel n).enabled = a.enabled ∧ (s.channel n).range = a.range) ∨ (s.channel n).state = .idle)
    (hmeet : a.enabled = true → ∀ m, m < 4 → m ≠ n → (s.channel m).enabled = true → rangesMeet (s.channel m).range a.range = false) :
    firstFailing (setChannelChecks n a s) = none := by
  unfold setChannelChecks
  simp only [firstFailing_none, List.mem_cons, List.not_mem_nil, or_false]
  rintro c (rfl | rfl | rfl | rfl)
  · exact require_true (by rw [rangeOk_of hrange]; simpa [channelOk, Config.channelCount] using hn) _ _
  · exact require_true (by simpa using hcfg) _ _
  · exact require_true (by simpa using hidle) _ _
  · exact require_true (by rw [overlapping_none hmeet]; rfl) _ _

theorem defers_iff (s : State) (a : ChannelArg) (c : Channel) :
    defers s a c = true ↔ s.period.state = .settling ∧ c.enabled = true ∧ (a.enabled = false ∨ c.range ≠ a.range) := by
  simp [defers, and_assoc]

theorem channelConfigFlds_eq (y : Channel) :
    channelConfigFlds y = [Fld.flag y.enabled] ++
      (match y.range with
        | none => [Fld.flag false]
        | some r => [Fld.flag true, .u16 r.1, .u16 r.2]) ++ [Fld.flag y.autoStart, .u16 y.timeout] := by
  unfold channelConfigFlds
  cases y.range <;> rfl

theorem resumedChannel_of_suspended {c : Channel} (h : c.state = .suspended) :
    resumedChannel c = { c with state := if c.offer.any (fun o => o.queued) then .offerWait else .running } := by
  unfold resumedChannel
  rw [h]
  cases c.offer <;> rfl

theorem resumedChannel_of_fault {c : Channel} (h : c.state = .fault) :
    resumedChannel c =
      { c with
        state := .running, timedOut := false, offer := c.offer.map (fun o => { o with queued := false, reoffer := true }) } := by
  unfold resumedChannel
  rw [h]
  cases ho : c.offer with
  | none =>
    dsimp only [Option.map_none]
  | some o => rfl

theorem resumedChannel_of_running {c : Channel} (h : c.state = .running ∨ c.state = .offerWait) : resumedChannel c = c := by
  unfold resumedChannel
  obtain h | h := h <;> rw [h]

theorem reofferSerial_of_fault {c : Channel} (h : c.state = .fault) : reofferSerial c = c.offer.map (fun o => o.serial) := if_pos h

theorem reofferSerial_of_ne {c : Channel} (h : c.state ≠ .fault) : reofferSerial c = none := if_neg h

/-- 08 R155: a RESUME_CHANNEL that is taken. -/
theorem resume_written {tag n : Nat} {s : State} (hr : ready .a s = true) (hs : storeValid s = true) (hn : n < 4)
    (hi : (s.channel n).state ≠ .idle) :
    exec (.resumeChannel .a tag n) s = .next (replied .a 0x5C tag
      ⟨.ok, [Fld.u8 (channelStateCode (resumedChannel (s.channel n)).state)] ++ optFld .u32 (reofferSerial (s.channel n))⟩
      { s with channels := tableWrite idleChannel n (resumedChannel (s.channel n)) s.channels }) :=
  channel_written (c := .resumeChannel .a tag n) (cs := resumeChecks n) (n := n) (x := fun s => resumedChannel (s.channel n))
    (A := fun s => [Fld.u8 (channelStateCode (resumedChannel (s.channel n)).state)] ++ optFld .u32 (reofferSerial (s.channel n)))
    (fun _ _ _ => rfl) (fun _ _ _ => rfl) hr (modeCheck_office hs rfl rfl) (fun _ _ _ => rfl)
    (by rw [resumeChecks, channelOk_none hn, require_true (by simpa using hi)]; rfl)

/-- 08 R158: the fields of CHANNEL_STATUS for an outstanding offer. -/
theorem offerFlds_eq (s : State) (c : Channel) :
    optFlds (c.offer.map (offerFlds s c)) = match c.offer with
      | none => [Fld.flag false]
      | some o =>
        [Fld.flag true, .u16 o.shop, .u32 o.serial, .u64 (s.shop o.shop).payout.amount, .flag o.queued] ++
          (if o.queued then [Fld.flag true, .u16 c.remaining] else [Fld.flag false]) := by
  cases c.offer with
  | none => rfl
  | some o =>
    obtain ⟨shop, serial, queued, reoffer⟩ := o
    cases queued <;> rfl

/-- Settles O47. -/
theorem channelRequestsWriteTheChannel : Obligations.ChannelRequestsWriteTheChannel := by
  unfold Obligations.ChannelRequestsWriteTheChannel
  intro config stateCode tag n s hr hs hn c wrote
  have hconfig : ∀ y, channelConfigFlds y = config y := channelConfigFlds_eq
  have hresume : (s.channel n).state ≠ .idle → _ := resume_written (tag := tag) hr hs hn
  refine ⟨fun a hrange hcfg hidle hmeet hdef => ?_, fun hst hp => ?_, fun hst => ?_, fun hst => ?_, fun hst => ?_, fun hst => ?_,
    fun hst => ?_, fun hst => ?_, fun hst => ?_, fun hst hp => ?_, ?_⟩
  · have hd : defers s a (s.channel n) = false := by
      rw [Bool.eq_false_iff, ne_eq, defers_iff]
      exact hdef
    have h := Told.passed (c := .setChannel .a tag n a) (cs := setChannelChecks n a) (told_setChannel n a) hr
      (modeCheck_office hs rfl rfl) (fun _ _ _ => rfl) (setChannelChecks_pass hn hrange hcfg hidle hmeet)
    intro y
    refine Eq.trans h ?_
    unfold carried
    simp only [hd, Bool.false_eq_true, if_false, giveNotices_nil, replied_begun, channelAnswer, hconfig]
    rfl
  · refine (channel_written (c := .startRun .a tag n) (cs := startRunChecks n) (n := n) (x := fun s => beginRun (s.channel n))
      (A := fun s => [Fld.u32 (rangeIn s (s.channel n) .due).length]) (fun _ _ _ => rfl) (fun _ _ _ => rfl) hr
      (modeCheck_office hs rfl rfl) (fun _ _ _ => rfl) ?_)
    rw [startRunChecks, channelOk_none hn, require_true (by simpa using hst), require_true (by simpa using hp)]
    rfl
  · refine (channel_written (c := .suspendChannel .a tag n) (cs := suspendChecks n) (n := n)
      (x := fun s => suspendedChannel (s.channel n))
      (A := fun s => [Fld.u8 (channelStateCode .suspended), .flag (s.channel n).offer.isSome]) (fun _ _ _ => rfl) (fun _ _ _ => rfl) hr
      (modeCheck_office hs rfl rfl) (fun _ _ _ => rfl) ?_)
    have hok : ((s.channel n).state ≠ .idle && (s.channel n).state ≠ .fault) = true := by
      obtain h | h | h := hst <;> simp [show (s.channel n).state = _ from h]
    rw [suspendChecks, channelOk_none hn, require_true hok]
    rfl
  · intro x
    have hst' : (s.channel n).state = .suspended := hst
    refine (hresume (by simp [hst'])).trans ?_
    rw [resumedChannel_of_suspended hst', channelStateCode_eq, reofferSerial_of_ne (by simp [hst'])]
    rfl
  · have hst' : (s.channel n).state = .fault := hst
    refine (hresume (by simp [hst'])).trans ?_
    rw [resumedChannel_of_fault hst', reofferSerial_of_fault hst']
    rfl
  · have hst' : (s.channel n).state = .running ∨ (s.channel n).state = .offerWait := hst
    refine (hresume (by obtain h | h := hst' <;> simp [h])).trans ?_
    rw [resumedChannel_of_running hst', channelStateCode_eq, reofferSerial_of_ne (by obtain h | h := hst' <;> simp [h])]
    rfl
  · refine refused (c := .resumeChannel .a tag n) (cs := resumeChecks n)
      (e := fun s => okay (s.setChannel n (resumedChannel (s.channel n)))
        ([Fld.u8 (channelStateCode (resumedChannel (s.channel n)).state)] ++ optFld .u32 (reofferSerial (s.channel n)))) hr
      (modeCheck_office hs rfl rfl) (fun _ _ _ => rfl) ?_
    rw [resumeChecks, channelOk_none hn, require_false (by simpa using hst)]
    rfl
  · refine refused (c := .suspendChannel .a tag n) (cs := suspendChecks n)
      (e := fun s => okay (s.setChannel n (suspendedChannel (s.channel n)))
        [Fld.u8 (channelStateCode .suspended), .flag (s.channel n).offer.isSome]) hr
      (modeCheck_office hs rfl rfl) (fun _ _ _ => rfl) ?_
    have hok : ((s.channel n).state ≠ .idle && (s.channel n).state ≠ .fault) = false := by
      obtain h | h := hst <;> simp [show (s.channel n).state = _ from h]
    rw [suspendChecks, channelOk_none hn, require_false hok]
    rfl
  · refine refused (c := .startRun .a tag n) (cs := startRunChecks n)
      (e := fun s => okay (s.setChannel n (beginRun (s.channel n))) [Fld.u32 (rangeIn s (s.channel n) .due).length]) hr
      (modeCheck_office hs rfl rfl) (fun _ _ _ => rfl) ?_
    rw [startRunChecks, channelOk_none hn, require_false (by simpa using hst), channelStateCode_eq]
    rfl
  · refine refused (c := .startRun .a tag n) (cs := startRunChecks n)
      (e := fun s => okay (s.setChannel n (beginRun (s.channel n))) [Fld.u32 (rangeIn s (s.channel n) .due).length]) hr
      (modeCheck_office hs rfl rfl) (fun _ _ _ => rfl) ?_
    rw [startRunChecks, channelOk_none hn, require_true (by simpa using hst), require_false (by simpa using hp)]
    rfl
  · refine (written (c := .channelStatus .a tag n) (cs := fun _ => [require (channelOk n) .badField]) (G := id)
      (A := fun s => channelStatusFlds s (s.channel n)) Silent.id (fun _ _ _ => rfl) hr (modeCheck_office hs rfl rfl)
      (fun _ _ _ => rfl) (by rw [channelOk_none hn]; rfl)).trans ?_
    rw [channelStatusFlds, hconfig, offerFlds_eq, channelStateCode_eq, closingStateCode_eq, rangeIn_length, rangeIn_length,
      rangeIn_length]
    simp only [totalsFlds, List.append_assoc]
    rfl

end Sys2Proof.Proofs.ChannelWork

namespace Sys2Proof.Proofs.PartWork

open Sys2Proof Sys2Proof.Machine Sys2Proof.Laws Sys2Proof.Proofs.Links Sys2Proof.Proofs.Basics Sys2Proof.Proofs.Bounds
  Sys2Proof.Proofs.Steps Sys2Proof.Proofs.Rules Sys2Proof.Proofs.Requests Sys2Proof.Proofs.Replies Sys2Proof.Proofs.Entries
  Sys2Proof.Proofs.Trade Sys2Proof.Proofs.Writing Sys2Proof.Proofs.ShopWork Sys2Proof.Proofs.PeriodWork
  Sys2Proof.Proofs.ChannelWork

/-! ## Mode Control and the routing table -/

theorem storeStateCode_eq (x : StoreState) : storeStateCode x = [StoreState.valid, .blank].idxOf x := by cases x <;> rfl

theorem restartCauseCode_eq (x : RestartCause) : restartCauseCode x = [RestartCause.powerOn, .request, .initialise].idxOf x := by
  cases x <;> rfl

theorem routeCode_eq (x : Route) : routeCode x = [Route.aLink, .tLink, .both, .none].idxOf x := by cases x <;> rfl

/-- 10 R172: what the back office's link may carry in a BLANK store too. -/
theorem modeCheck_blank {kind : Nat} {s : State} (hi : s.ctrl.initInFlight = false) (hb : blankKind kind = true)
    (hm : movingKind kind = false) (hk : (kind == 0x75) = false) : linkAndModeCheck .a kind s = none :=
  (modeCheck_none .a kind s).2 ⟨.inl rfl, hi, .inr hb, .inr hm, .inr (by simpa using hk)⟩

theorem mayLeaveOpen_iff (s : State) :
    mayLeaveOpen s = true ↔ s.placedHolds = [] ∧ s.period.state ≠ .closing ∧ ∀ n, n < 4 → (s.channel n).state = .idle := by
  simp [mayLeaveOpen, Config.channelCount, and_assoc]

/-- 11 R191: a SET_ROUTE that passes its check. It is told apart from the requests that give notices, since it changes their routes. -/
theorem setRoute_written {tag : Nat} {sel : Option (Nat × Nat)} {s : State} (hr : ready .a s = true) (hs : storeValid s = true)
    (hp : firstFailing (routeChecks sel s) = none) :
    exec (.setRoute .a tag sel) s = .next (replied .a 0x76 tag ⟨.ok, routesFlds (routed sel s.routes)⟩
      { s with routes := routed sel s.routes }) :=
  request_replies (c := .setRoute .a tag sel) (rule := setRouteRule sel) hr (modeCheck_office hs rfl rfl) (ruled_pass hp)

/-- Settles O56. -/
theorem partRequestsSetTheMode : Obligations.PartRequestsSetTheMode := by
  unfold Obligations.PartRequestsSetTheMode
  intro text wiljapor zohrin zhs24 routes tag s hr hi conditions
  have hroutes : ∀ r, routesFlds r = routes r := fun r => by
    unfold routesFlds
    simp only [routeCode_eq]
    rfl
  have hbusy : busyFlds s = conditions := by
    unfold busyFlds channelStateFlds
    simp only [channelStateCode_eq, closingStateCode_eq]
    rfl
  refine ⟨?_, ?_, fun hv => ?_⟩
  · exact written (c := .identify .a tag) (cs := fun _ => []) (G := id) (A := fun _ => identityFlds) Silent.id (fun _ _ _ => rfl) hr
      (modeCheck_blank hi rfl rfl rfl) (fun _ _ _ => rfl) rfl
  · refine (written (c := .partStatus .a tag) (cs := fun _ => []) (G := id) (A := partStatusFlds) Silent.id (fun _ _ _ => rfl) hr
      (modeCheck_blank hi rfl rfl rfl) (fun _ _ _ => rfl) rfl).trans ?_
    rw [partStatusFlds, hbusy, modeCode_eq, storeStateCode_eq, restartCauseCode_eq, rosterIn_length]
    rfl
  · have hs : storeValid s = true := by simp [storeValid, hv, hi]
    have hsilent : ∀ m, Silent (inMode m) := fun m => ⟨fun _ _ _ => rfl, fun _ => rfl, fun _ => rfl⟩
    refine ⟨?_, fun clear hclear => ?_, fun k r x y hk hry => ?_, fun hcfg => ?_, fun hop => ?_⟩
    · split
      case isTrue ht =>
        exact written (c := .openPart .a tag) (cs := openChecks) (G := inMode .opened)
          (A := fun s => [Fld.u8 (modeCode .opened), .u16 s.time.day, .flag s.time.trading]) (hsilent _) (fun _ _ _ => rfl) hr
          (modeCheck_office hs rfl rfl) (fun _ _ _ => rfl)
          (by rw [openChecks, require_true (by simpa using hv), require_true ht]; rfl)
      case isFalse ht =>
        exact refused (c := .openPart .a tag) (cs := openChecks)
          (e := fun s => okay (inMode .opened s) [Fld.u8 (modeCode .opened), .u16 s.time.day, .flag s.time.trading]) hr
          (modeCheck_office hs rfl rfl) (fun _ _ _ => rfl)
          (by rw [openChecks, require_true (by simpa using hv), require_false (by simpa using ht)]; rfl)
    · have hgo : (s.ctrl.mode = .config || mayLeaveOpen s) = true → exec (.enterConfig .a tag) s =
          .next (replied .a 0x72 tag ⟨.ok, []⟩ (inMode .config s)) := fun h =>
        written (c := .enterConfig .a tag)
          (cs := fun s => [require (s.ctrl.mode = .config || mayLeaveOpen s) .busy (busyFlds s)]) (G := inMode .config)
          (A := fun _ => []) (hsilent _) (fun _ _ _ => rfl) hr (modeCheck_office hs rfl rfl) (fun _ _ _ => rfl)
          (by rw [require_true h]; rfl)
      refine ⟨fun hm => ?_, fun hm hc => ?_, fun hm hc => ?_⟩
      · rw [hgo (by simp [hm])]
        have : inMode .config s = s := by
          unfold inMode
          rw [← hm]
        rw [this]
      · exact hgo (by simp [(mayLeaveOpen_iff s).2 (hclear.1 hc)])
      · rw [← hbusy]
        refine refused (c := .enterConfig .a tag)
          (cs := fun s => [require (s.ctrl.mode = .config || mayLeaveOpen s) .busy (busyFlds s)])
          (e := fun s => okay (inMode .config s)) hr (modeCheck_office hs rfl rfl) (fun _ _ _ => rfl) ?_
        have hno : mayLeaveOpen s = false := by
          rw [Bool.eq_false_iff, ne_eq, mayLeaveOpen_iff, ← hclear]
          exact hc
        rw [require_false (by simp [hm, hno])]
        rfl
    · rw [← hroutes]
      have h := setRoute_written (tag := tag) (sel := some (k, r)) hr hs (by rw [routeChecks, require_true (by simp [hk, hry])]; rfl)
      have hrouted : routed (some (k, r)) s.routes = setRouteFor s.routes y x := by
        unfold routed
        simp only [hk, hry, Option.getD_some]
      rw [hrouted] at h
      exact h
    · rw [← hroutes]
      exact setRoute_written (sel := none) hr hs (by rw [routeChecks, require_true (by simpa using hcfg)]; rfl)
    · exact refused (c := .setRoute .a tag none) (cs := routeChecks none)
        (e := fun s => okay { s with routes := routed none s.routes } (routesFlds (routed none s.routes))) hr
        (modeCheck_office hs rfl rfl) (fun _ _ _ => rfl) (by rw [routeChecks, require_false (by simp [hop])]; rfl)

end Sys2Proof.Proofs.PartWork
end

section
/-! What the requests that name a shop or a card are answered at a shop or card whose state refuses them. -/

namespace Sys2Proof.Proofs.States

open Sys2Proof Sys2Proof.Machine Sys2Proof.Laws Sys2Proof.Proofs.Links Sys2Proof.Proofs.Basics Sys2Proof.Proofs.Bounds
  Sys2Proof.Proofs.Steps Sys2Proof.Proofs.Rules Sys2Proof.Proofs.Requests Sys2Proof.Proofs.Replies Sys2Proof.Proofs.Entries
  Sys2Proof.Proofs.Trade Sys2Proof.Proofs.Holding Sys2Proof.Proofs.Refunding Sys2Proof.Proofs.Writing Sys2Proof.Proofs.ShopWork

/-! ## The state checks as tables -/

/-- 06 R104: the answer at a shop by its state. -/
def shopRefusal (x : ShopState) (unused : Result) (barred : Option Result) : Option Result :=
  match x with
  | .trading => none
  | .barred => barred
  | .departed => some Result.shopDeparted
  | .unused => some unused

/-- 01 R4: the answer on a card by its state. -/
def cardRefusal (x : CardState) : Option Result :=
  match x with
  | .active => none
  | .frozen => some Result.cardFrozen
  | .closed => some .cardClosed

theorem mustTrade_eq (s : State) (i : Nat) :
    mustTrade s i = (shopRefusal (s.shop i).state .noShop (some .shopBarred)).map (fun r => ⟨r, []⟩) := by
  unfold mustTrade
  cases (s.shop i).state <;> rfl

theorem mustTakeBack_eq (s : State) (i : Nat) :
    mustTakeBack s i = (shopRefusal (s.shop i).state .noShop none).map (fun r => ⟨r, []⟩) := by
  unfold mustTakeBack
  cases (s.shop i).state <;> rfl

theorem funderCheck_eq (s : State) (i : Nat) :
    funderCheck s (some i) = (shopRefusal (s.shop i).state .noShop none).map (fun r => ⟨r, []⟩) := by
  cases h : (s.shop i).state <;> simp [funderCheck, shopRefusal, h]

theorem mustBeActive_eq (c : Card) : mustBeActive c = (cardRefusal c.state).map (fun r => ⟨r, []⟩) := by
  unfold mustBeActive
  cases c.state <;> rfl

theorem mustBeDefined_unused {s : State} {i : Nat} (h : (s.shop i).state = .unused) : mustBeDefined s i = some ⟨.noShop, []⟩ :=
  require_false (by simp [h]) _ _

/-! ## Sale, reload, redemption, hold -/

section Purchase

variable {id shop amount : Nat} {pool : Option Nat} {s : State} {a : Answer} (hid : cardIdOk id = true) (hok : shopOk shop = true)
  (ham : amountOk amount = true) (hpool : pool.all poolOk = true)

include hid hok ham hpool

theorem purchaseFields_none : purchaseFields id shop amount pool = none := require_true (by simp [hid, hok, ham, hpool]) _ _

theorem sellChecks_shop (h : mustTrade s shop = some a) : firstFailing (sellChecks id shop amount pool s) = some a := by
  rw [sellChecks, purchaseFields_none hid hok ham hpool, h]
  rfl

theorem sellChecks_card {c : Card} (ht : mustTrade s shop = none) (hc : s.card? id = some c) :
    firstFailing (sellChecks id shop amount pool s) = some ⟨.cardExists, []⟩ := by
  rw [sellChecks, purchaseFields_none hid hok ham hpool, ht, hc]
  rfl

theorem reloadChecks_shop (h : mustTrade s shop = some a) : firstFailing (reloadChecks id shop amount pool s) = some a := by
  rw [reloadChecks, purchaseFields_none hid hok ham hpool, h]
  rfl

theorem reloadChecks_absent (ht : mustTrade s shop = none) (hc : s.card? id = none) :
    firstFailing (reloadChecks id shop amount pool s) = some ⟨.noCard, []⟩ := by
  rw [reloadChecks, purchaseFields_none hid hok ham hpool, ht, hc]
  rfl

theorem reloadChecks_card {c : Card} (ht : mustTrade s shop = none) (hc : s.card? id = some c) (h : mustBeActive c = some a) :
    firstFailing (reloadChecks id shop amount pool s) = some a := by
  rw [reloadChecks, purchaseFields_none hid hok ham hpool, ht, card_of_card? hc, hc, h]
  rfl

end Purchase

section Taking

variable {id shop amount : Nat} {s : State} {a : Answer} (hid : cardIdOk id = true) (hok : shopOk shop = true)
  (ham : amountOk amount = true)

include hid hok ham

theorem takingFields_none : require (cardIdOk id && shopOk shop && amountOk amount) .badField = none :=
  require_true (by simp [hid, hok, ham]) _ _

theorem takingChecks_shop (h : mustTrade s shop = some a) (cs : List Check) :
    firstFailing (takingChecks id shop amount s ++ cs) = some a := by
  rw [takingChecks, takingFields_none hid hok ham, h]
  rfl

theorem takingChecks_absent (ht : mustTrade s shop = none) (hc : s.card? id = none) (cs : List Check) :
    firstFailing (takingChecks id shop amount s ++ cs) = some ⟨.noCard, []⟩ := by
  rw [takingChecks, takingFields_none hid hok ham, ht, hc]
  rfl

theorem takingChecks_card {c : Card} (ht : mustTrade s shop = none) (hc : s.card? id = some c) (h : mustBeActive c = some a)
    (cs : List Check) : firstFailing (takingChecks id shop amount s ++ cs) = some a := by
  rw [takingChecks, takingFields_none hid hok ham, ht, card_of_card? hc, hc, h]
  rfl

end Taking

section Terminal

variable {l : Link} {s : State} {a : Answer} (hr : ready l s = true) (ht : trades s = true)

include hr ht

theorem sell_refused {tag id shop amount ref : Nat} {flag : Bool} {pool : Option Nat}
    (hf : firstFailing (sellChecks id shop amount pool s) = some a) :
    exec (.sellCard l tag id shop amount flag pool ref) s = .next (replied l 0x10 tag a s) :=
  refused (c := .sellCard l tag id shop amount flag pool ref) (cs := sellChecks id shop amount pool) hr
    (HoldSlots.modeCheck_of_trades ht rfl) (fun _ _ _ => rfl) hf

theorem reload_refused {tag id shop amount ref : Nat} {pool : Option Nat}
    (hf : firstFailing (reloadChecks id shop amount pool s) = some a) :
    exec (.reloadCard l tag id shop amount pool ref) s = .next (replied l 0x11 tag a s) :=
  refused (c := .reloadCard l tag id shop amount pool ref) (cs := reloadChecks id shop amount pool) hr
    (HoldSlots.modeCheck_of_trades ht rfl) (fun _ _ _ => rfl) hf

theorem redeem_refused {tag id shop amount ref : Nat} {part : Bool}
    (hf : firstFailing (redeemChecks id shop amount part s) = some a) :
    exec (.redeem l tag id shop amount part ref) s = .next (replied l 0x13 tag a s) :=
  refused (c := .redeem l tag id shop amount part ref) (cs := redeemChecks id shop amount part) hr
    (HoldSlots.modeCheck_of_trades ht rfl) (fun _ _ _ => rfl) hf

theorem place_refused {tag id shop amount ref : Nat} {part : Bool}
    (hf : firstFailing (placeChecks id shop amount part s) = some a) :
    exec (.placeHold l tag id shop amount part ref) s = .next (replied l 0x14 tag a s) :=
  refused (c := .placeHold l tag id shop amount part ref) (cs := placeChecks id shop amount part) hr
    (HoldSlots.modeCheck_of_trades ht rfl) (fun _ _ _ => rfl) hf

theorem capture_refused {tag n gen shop amount : Nat} {ref : Option Nat}
    (hf : firstFailing (captureChecks n gen shop amount s) = some a) :
    exec (.captureHold l tag n gen shop amount ref) s = .next (replied l 0x15 tag a s) :=
  refused (c := .captureHold l tag n gen shop amount ref) (cs := captureChecks n gen shop amount) hr
    (HoldSlots.modeCheck_of_trades ht rfl) (fun _ _ _ => rfl) hf

theorem release_refused {tag n gen shop : Nat} (hf : firstFailing (releaseChecks n gen shop s) = some a) :
    exec (.releaseHold l tag n gen shop) s = .next (replied l 0x16 tag a s) :=
  refused (c := .releaseHold l tag n gen shop) (cs := releaseChecks n gen shop) hr (HoldSlots.modeCheck_of_trades ht rfl)
    (fun _ _ _ => rfl) hf

theorem extend_refused {tag n gen shop : Nat} (hf : firstFailing (extendChecks n gen shop s) = some a) :
    exec (.extendHold l tag n gen shop) s = .next (replied l 0x17 tag a s) :=
  refused (c := .extendHold l tag n gen shop) (cs := extendChecks n gen shop) hr (HoldSlots.modeCheck_of_trades ht rfl)
    (fun _ _ _ => rfl) hf

theorem refund_refused {tag original shop amount ref : Nat} {target : Option Nat}
    (hf : firstFailing (refundChecks original shop amount target s) = some a) :
    exec (.refund l tag original shop amount target ref) s = .next (replied l 0x18 tag a s) :=
  refused (c := .refund l tag original shop amount target ref) (cs := refundChecks original shop amount target) hr
    (HoldSlots.modeCheck_of_trades ht rfl) (fun _ _ _ => congrArg firstFailing (refundChecks_withLinks _ _ _ _ _ _ _)) hf

theorem void_refused {tag original shop ref : Nat} (hf : firstFailing (voidChecks original shop s) = some a) :
    exec (.voidSale l tag original shop ref) s = .next (replied l 0x19 tag a s) :=
  refused (c := .voidSale l tag original shop ref) (cs := voidChecks original shop) hr (HoldSlots.modeCheck_of_trades ht rfl)
    (fun _ _ _ => rfl) hf

end Terminal

/-! ## Holds -/

section Holds

variable {n shop : Nat} {h : Hold} {s : State} (hok : shopOk shop = true) (hn : n < 1024)
  (hh : (s.holdSlot n).hold = some h) (hs : h.shop = shop)

theorem sameShop_unused {n shop : Nat} {s : State} (h : (s.shop shop).state = .unused) : sameShop s n shop = some ⟨.wrongShop, []⟩ :=
  require_false (by simp [h]) _ _

include hok hn hh hs

/-- 02 R37: the shop of a capture. -/
theorem captureChecks_shop {amount : Nat} {r : Result} (ham : amountOk amount = true)
    (hx : shopRefusal (s.shop shop).state .wrongShop none = some r) :
    firstFailing (captureChecks n (s.holdSlot n).gen shop amount s) = some ⟨r, []⟩ := by
  rw [captureChecks, require_true (by simp [hok, ham]), HoldSlots.resolveHold_current hn hh]
  cases hst : (s.shop shop).state with
  | trading => rw [hst] at hx; cases hx
  | barred => rw [hst] at hx; cases hx
  | unused =>
    rw [hst] at hx
    cases hx
    rw [sameShop_unused hst]
    rfl
  | departed =>
    rw [hst] at hx
    cases hx
    rw [sameShop_none hh hs (by simp [hst]), mustCapture, hst]
    rfl

omit hs in
theorem releaseChecks_unused (hst : (s.shop shop).state = .unused) :
    firstFailing (releaseChecks n (s.holdSlot n).gen shop s) = some ⟨.wrongShop, []⟩ := by
  rw [releaseChecks, require_true hok, HoldSlots.resolveHold_current hn hh, sameShop_unused hst]
  rfl

/-- 02 R40: the shop of an extension. -/
theorem extendChecks_shop {r : Result} (hx : shopRefusal (s.shop shop).state .wrongShop (some .shopBarred) = some r) :
    firstFailing (extendChecks n (s.holdSlot n).gen shop s) = some ⟨r, []⟩ := by
  rw [extendChecks, require_true hok, HoldSlots.resolveHold_current hn hh]
  by_cases hst : (s.shop shop).state = .unused
  · rw [hst] at hx
    cases hx
    rw [sameShop_unused hst]
    rfl
  · have hr : shopRefusal (s.shop shop).state .noShop (some .shopBarred) = some r := by
      rw [← hx]
      cases hy : (s.shop shop).state with
      | unused => exact absurd hy hst
      | trading => rfl
      | barred => rfl
      | departed => rfl
    rw [sameShop_none hh hs hst, mustTrade_eq, hr]
    rfl

theorem extendChecks_card {c : Card} {r : Result} (hst : (s.shop shop).state = .trading) (hc : s.card? h.card = some c)
    (hx : cardRefusal c.state = some r) : firstFailing (extendChecks n (s.holdSlot n).gen shop s) = some ⟨r, []⟩ := by
  rw [extendChecks, require_true hok, HoldSlots.resolveHold_current hn hh, sameShop_none hh hs (by simp [hst]),
    HoldSlots.mustTrade_of_trading hst, HoldSlots.hold_of_placed hh, card_of_card? hc, mustBeActive_eq, hx]
  rfl

end Holds

/-! ## Refunds and voids -/

section Original

variable {original shop : Nat} {e : Entry} {s : State} (hq : seqOk original = true) (hok : shopOk shop = true)
  (he : s.entry? original = some e) (hes : e.shop = some shop)

include hq hok he hes

/-- 03 R47, R48: the checks of a refund up to that of its shop. -/
theorem refundChecks_first {amount : Nat} {target : Option Nat} (ham : amountOk amount = true) (htgt : target.all cardIdOk = true)
    (hk : e.kind = .redeem ∨ e.kind = .capture) (hrem : (amount : Int) ≤ refundRemainder e) :
    ∃ cs, firstFailing (refundChecks original shop amount target s) =
      firstFailing (mustTakeBack s shop ::
        require ((realTarget e target).isSome || (s.card? (destination e target)).isSome) .noCard ::
        mustBeActive (destCard s (destination e target) shop) :: cs) := by
  have hk' : (decide (e.kind = .redeem) || decide (e.kind = .capture)) = true := by simpa using hk
  unfold refundChecks
  rw [entry_of_entry? he]
  dsimp only
  rw [require_true (by simp [hq, hok, ham, htgt]), require_true (by simp [he]), require_true hk',
    require_true (by simp [hes]), require_true (by simp [hrem])]
  exact ⟨_, rfl⟩

/-- 03 R62: the checks of a void up to that of its shop. -/
theorem voidChecks_first (hk : e.kind = .sale ∨ e.kind = .reload) (hv : e.voided ≠ some true) (hd : e.day = s.time.day) :
    ∃ cs, firstFailing (voidChecks original shop s) =
      firstFailing (mustTrade s shop :: require (s.card? (entryCard e)).isSome .noCard ::
        require ((s.card (entryCard e)).state ≠ .closed) .cardClosed :: cs) := by
  have hk' : (decide (e.kind = .sale) || decide (e.kind = .reload)) = true := by simpa using hk
  unfold voidChecks
  rw [entry_of_entry? he]
  dsimp only
  rw [require_true (by simp [hq, hok]), require_true (by simp [he]), require_true hk',
    require_true (by simpa using hv), require_true (by simpa using hd), require_true (by simp [hes])]
  exact ⟨_, rfl⟩

end Original

/-! ## Shops and cards of the back office -/

theorem shopChecks_unused {shop : Nat} {s : State} (hok : shopOk shop = true) (hst : (s.shop shop).state = .unused) (cs : List Check) :
    firstFailing (shopChecks shop s ++ cs) = some ⟨.noShop, []⟩ := by
  rw [shopChecks, require_true hok, mustBeDefined_unused hst]
  rfl

theorem cardChecks_absent {id : Nat} {s : State} (hid : cardIdOk id = true) (hc : s.card? id = none) (cs : List Check) :
    firstFailing (cardChecks id s ++ cs) = some ⟨.noCard, []⟩ := by
  rw [cardChecks, require_true hid, hc]
  rfl

theorem cardChecks_closed {id : Nat} {c : Card} {s : State} (hid : cardIdOk id = true) (hc : s.card? id = some c)
    (hst : c.state = .closed) (cs : List Check) :
    firstFailing (cardChecks id s ++ (require ((s.card id).state ≠ .closed) .cardClosed :: cs)) = some ⟨.cardClosed, []⟩ := by
  rw [cardChecks, require_true hid, card_of_card? hc, hc, hst]
  rfl

theorem grantChecks_first {id pool amount : Nat} {s : State} (hid : cardIdOk id = true) (hp : poolOk pool = true)
    (ham : amountOk amount = true) :
    ∃ cs, firstFailing (grantChecks id pool amount s) =
      firstFailing (require (s.card? id).isSome .noCard :: mustBeActive (s.card id) :: cs) := by
  rw [grantChecks, require_true (by simp [hid, hp, ham])]
  exact ⟨_, rfl⟩

/-- Settles O58. -/
theorem shopAndCardStatesRefuse : Obligations.ShopAndCardStatesRefuse := by
  unfold Obligations.ShopAndCardStatesRefuse
  intro shopAnswer cardAnswer
  have hshop : shopAnswer = shopRefusal := rfl
  have hcard : cardAnswer = cardRefusal := rfl
  rw [hshop, hcard]
  refine ⟨fun l tag id shop amount ref flag pool s hr ht hid hok ham hpool => ⟨fun r hx => ?_, fun hst => ⟨fun hc => ?_, fun c hc => ?_⟩⟩,
    fun l tag n shop amount ref h s hr ht hok ham hn hh hs => ?_,
    fun l tag original shop amount ref target e s hr ht hq hok he hes => ⟨fun ham htgt hk hrem => ?_, fun hk hv hd => ?_⟩,
    fun l tag id shop s hr hs hid hok => ⟨fun hc => ?_, fun c i hc hi hst => ?_⟩,
    fun tag shop target selector account amount ref a s hr hs hok hst => ?_,
    fun tag pool i cfg s hr hs hp hrate hcap hval hfun hok => ?_,
    fun tag id pool amount s hr hs hid hp ham => ⟨fun hc => ?_, fun c hc => ⟨fun r hx => ?_, fun hst => ?_⟩⟩⟩
  · have hm : mustTrade s shop = some ⟨r, []⟩ := by rw [mustTrade_eq, hx]; rfl
    exact ⟨sell_refused hr ht (sellChecks_shop hid hok ham hpool hm), reload_refused hr ht (reloadChecks_shop hid hok ham hpool hm),
      redeem_refused hr ht (takingChecks_shop hid hok ham hm _), place_refused hr ht (takingChecks_shop hid hok ham hm _)⟩
  · have hm := HoldSlots.mustTrade_of_trading hst
    exact ⟨reload_refused hr ht (reloadChecks_absent hid hok ham hpool hm hc),
      redeem_refused hr ht (takingChecks_absent hid hok ham hm hc _), place_refused hr ht (takingChecks_absent hid hok ham hm hc _)⟩
  · have hm := HoldSlots.mustTrade_of_trading hst
    refine ⟨sell_refused hr ht (sellChecks_card hid hok ham hpool hm hc), fun r hx => ?_⟩
    have ha : mustBeActive c = some ⟨r, []⟩ := by rw [mustBeActive_eq, hx]; rfl
    exact ⟨reload_refused hr ht (reloadChecks_card hid hok ham hpool hm hc ha),
      redeem_refused hr ht (takingChecks_card hid hok ham hm hc ha _), place_refused hr ht (takingChecks_card hid hok ham hm hc ha _)⟩
  · exact ⟨fun r hx => capture_refused hr ht (captureChecks_shop hok hn hh hs ham hx),
      fun hst => release_refused hr ht (releaseChecks_unused hok hn hh hst),
      fun r hx => extend_refused hr ht (extendChecks_shop hok hn hh hs hx),
      fun hst c r hc hx => extend_refused hr ht (extendChecks_card hok hn hh hs hst hc hx)⟩
  · obtain ⟨cs, hfirst⟩ := refundChecks_first hq hok he hes ham htgt hk hrem
    intro dest
    have hdest : destination e target = dest := by
      change (if target = e.card then none else target).getD (e.card.getD 0) =
        if target = e.card then e.card.getD 0 else target.getD (e.card.getD 0)
      split <;> rfl
    rw [hdest] at hfirst
    refine ⟨fun r hx => refund_refused hr ht ?_, fun hst => ⟨fun htg hc => refund_refused hr ht ?_, fun c r hc hx => refund_refused hr ht ?_⟩⟩
    · rw [hfirst, mustTakeBack_eq, hx]
      rfl
    · have hreal : realTarget e target = none := by
        unfold realTarget
        split
        · rfl
        · next hne => exact htg.resolve_right hne
      rw [hfirst, mustTakeBack_none hst, hreal, hc]
      rfl
    · rw [hfirst, mustTakeBack_none hst, hc, require_true (by simp), destCard, hc, mustBeActive_eq, Option.getD_some, hx]
      rfl
  · obtain ⟨cs, hfirst⟩ := voidChecks_first hq hok he hes hk hv hd
    refine ⟨fun r hx => void_refused hr ht ?_, fun hst => ⟨fun hc => void_refused hr ht ?_, fun c hc hcl => void_refused hr ht ?_⟩⟩
    · rw [hfirst, mustTrade_eq, hx]
      rfl
    · rw [hfirst, HoldSlots.mustTrade_of_trading hst, entryCard, hc]
      rfl
    · rw [hfirst, HoldSlots.mustTrade_of_trading hst, entryCard, card_of_card? hc, hc, hcl]
      rfl
  · exact refused (c := .balance l tag id shop) (cs := balanceChecks id shop) hr (modeCheck_of_valid hs rfl rfl l (.inr rfl))
      (fun _ _ _ => rfl) (by unfold balanceChecks; rw [require_true (by simp [hid, hok]), hc]; rfl)
  · subst hi
    exact refused (c := .balance l tag id (some i)) (cs := balanceChecks id (some i)) hr (modeCheck_of_valid hs rfl rfl l (.inr rfl))
      (fun _ _ _ => rfl) (by
        unfold balanceChecks
        rw [require_true (by simp [hid, hok]), hc]
        simp only [mustBeDefined_unused hst]
        rfl)
  · refine ⟨fun h1 h2 h3 => ?_, fun htg => ?_, ?_, fun hsel => ?_, fun h0 hl => ?_, ?_, ?_⟩
    · exact refused (c := .stageSchedule .a tag shop a) (cs := stageChecks shop a) hr (modeCheck_office hs rfl rfl) (fun _ _ _ => rfl)
        (by rw [stageChecks, require_true (by rw [hok, scheduleOk_of h1 h2 h3]; rfl), mustBeDefined_unused hst]; rfl)
    · have hof : (targetState target).isSome = true := by obtain rfl | rfl | rfl := htg <;> rfl
      exact refused (c := .setShopState .a tag shop target) (cs := setShopStateChecks shop target) hr (modeCheck_office hs rfl rfl)
        (fun _ _ _ => rfl) (by rw [setShopStateChecks, require_true (by rw [hok, hof]; rfl), mustBeDefined_unused hst]; rfl)
    · exact refused (c := .removeShop .a tag shop) (cs := removeChecks shop) hr (modeCheck_office hs rfl rfl) (fun _ _ _ => rfl)
        (shopChecks_unused hok hst _)
    · have hlt : selector < 2 := by omega
      exact refused (c := .shopPosition .a tag shop selector) (cs := positionChecks shop selector) hr (modeCheck_office hs rfl rfl)
        (fun _ _ _ => rfl) (by rw [positionChecks, require_true (by simp [hok, hlt]), mustBeDefined_unused hst]; rfl)
    · exact refused (c := .adjustCarry .a tag shop amount ref) (cs := adjustChecks shop amount) hr (modeCheck_office hs rfl rfl)
        (fun _ _ _ => rfl) (by rw [adjustChecks, require_true (by simp [hok, h0, hl]), mustBeDefined_unused hst]; rfl)
    · exact refused (c := .clearAttention .a tag shop) (cs := clearChecks shop) hr (modeCheck_office hs rfl rfl) (fun _ _ _ => rfl)
        (shopChecks_unused hok hst _)
    · exact refused (c := .setPayoutAccount .a tag shop account) (cs := shopChecks shop) hr (modeCheck_office hs rfl rfl)
        (fun _ _ _ => rfl) ((shopChecks_first hok).trans (mustBeDefined_unused hst))
  · have hgo : ∀ r, shopRefusal (s.shop i).state .noShop none = some r →
        exec (.definePool .a tag pool cfg) s = .next (replied .a 0x30 tag ⟨r, []⟩ s) := fun r hx => by
      have hcap' : cfg.cap ≤ Config.cardLimit := hcap
      exact refused (c := .definePool .a tag pool cfg) (cs := definePoolChecks pool cfg) hr (modeCheck_office hs rfl rfl)
        (fun _ _ _ => rfl) (by
          rw [definePoolChecks, require_true (by simp [hp, hfun, hok, hrate, hcap', hval]), hfun, funderCheck_eq, hx]
          rfl)
    exact ⟨fun hst => hgo _ (by rw [hst]; rfl), fun hst => hgo _ (by rw [hst]; rfl)⟩
  · obtain ⟨cs, hfirst⟩ := grantChecks_first (s := s) hid hp ham
    exact ⟨refused (c := .cardDetail .a tag id) (cs := cardChecks id) hr (modeCheck_office hs rfl rfl) (fun _ _ _ => rfl)
        (cardChecks_absent hid hc []),
      refused (c := .freezeCard .a tag id) (cs := freezeChecks id) hr (modeCheck_office hs rfl rfl) (fun _ _ _ => rfl)
        (cardChecks_absent hid hc _),
      refused (c := .unfreezeCard .a tag id) (cs := freezeChecks id) hr (modeCheck_office hs rfl rfl) (fun _ _ _ => rfl)
        (cardChecks_absent hid hc _),
      refused (c := .closeCard .a tag id) (cs := closeChecks id) hr (modeCheck_office hs rfl rfl) (fun _ _ _ => rfl)
        (cardChecks_absent hid hc _),
      refused (c := .grantPromo .a tag id pool amount) (cs := grantChecks id pool amount) hr (modeCheck_office hs rfl rfl)
        (fun _ _ _ => rfl) (by rw [hfirst, hc]; rfl)⟩
  · obtain ⟨cs, hfirst⟩ := grantChecks_first (s := s) hid hp ham
    exact refused (c := .grantPromo .a tag id pool amount) (cs := grantChecks id pool amount) hr (modeCheck_office hs rfl rfl)
      (fun _ _ _ => rfl) (by rw [hfirst, card_of_card? hc, hc, mustBeActive_eq, hx]; rfl)
  · exact ⟨refused (c := .freezeCard .a tag id) (cs := freezeChecks id) hr (modeCheck_office hs rfl rfl) (fun _ _ _ => rfl)
        (cardChecks_closed hid hc hst []),
      refused (c := .unfreezeCard .a tag id) (cs := freezeChecks id) hr (modeCheck_office hs rfl rfl) (fun _ _ _ => rfl)
        (cardChecks_closed hid hc hst []),
      refused (c := .closeCard .a tag id) (cs := closeChecks id) hr (modeCheck_office hs rfl rfl) (fun _ _ _ => rfl)
        (cardChecks_closed hid hc hst _)⟩

end Sys2Proof.Proofs.States
end

section
/-! The requests that read the journal. -/

namespace Sys2Proof.Proofs.JournalReading

open Sys2Proof Sys2Proof.Machine Sys2Proof.Laws Sys2Proof.Proofs.Links Sys2Proof.Proofs.Basics Sys2Proof.Proofs.Bounds
  Sys2Proof.Proofs.Steps Sys2Proof.Proofs.Rules Sys2Proof.Proofs.Requests Sys2Proof.Proofs.Replies Sys2Proof.Proofs.Entries
  Sys2Proof.Proofs.Trade Sys2Proof.Proofs.Writing

/-! ## The entries of a reply -/

/-- The bytes that entries take in a reply. -/
def bytesOf (es : List Entry) : Nat := (es.map entryBytes).sum

theorem fitting_prefix (n room : Nat) (es : List Entry) : fitting n room es <+: es := by
  induction es generalizing n room with
  | nil => cases n <;> exact List.prefix_rfl
  | cons e es ih =>
    cases n with
    | zero => exact List.nil_prefix
    | succ n =>
      unfold fitting
      split
      · exact List.cons_prefix_cons.2 ⟨rfl, ih _ _⟩
      · exact List.nil_prefix

theorem fitting_length (n room : Nat) (es : List Entry) : (fitting n room es).length ≤ n := by
  induction es generalizing n room with
  | nil => cases n <;> exact Nat.zero_le _
  | cons e es ih =>
    cases n with
    | zero => exact Nat.zero_le _
    | succ n =>
      unfold fitting
      split
      · exact Nat.succ_le_succ (ih _ _)
      · exact Nat.zero_le _

theorem fitting_bytes (n room : Nat) (es : List Entry) : bytesOf (fitting n room es) ≤ room := by
  induction es generalizing n room with
  | nil => cases n <;> exact Nat.zero_le _
  | cons e es ih =>
    cases n with
    | zero => exact Nat.zero_le _
    | succ n =>
      unfold fitting
      split
      · next hle =>
        have := ih n (room - entryBytes e)
        simp only [bytesOf, List.map_cons, List.sum_cons] at this ⊢
        omega
      · exact Nat.zero_le _

/-- 05 R97: the entries stop where the count is reached, where none is left, or before one that does not fit. -/
theorem fitting_stops (n room : Nat) (es : List Entry) :
    (fitting n room es).length = n ∨ fitting n room es = es ∨
      ∃ e, es[(fitting n room es).length]? = some e ∧ room < bytesOf (fitting n room es) + entryBytes e := by
  induction es generalizing n room with
  | nil => cases n <;> exact .inr (.inl rfl)
  | cons e es ih =>
    cases n with
    | zero => exact .inl rfl
    | succ n =>
      unfold fitting
      split
      · obtain h | h | ⟨x, hx, hr⟩ := ih n (room - entryBytes e)
        · exact .inl (congrArg (· + 1) h)
        · exact .inr (.inl (congrArg (e :: ·) h))
        · refine .inr (.inr ⟨x, by simpa using hx, ?_⟩)
          simp only [bytesOf, List.map_cons, List.sum_cons] at hr ⊢
          omega
      · next hgt => exact .inr (.inr ⟨e, rfl, by simpa [bytesOf] using hgt⟩)

theorem fitting_eq_nil {n room : Nat} {e : Entry} {es : List Entry} (h : fitting (n + 1) room (e :: es) = []) : room < entryBytes e := by
  unfold fitting at h
  split at h
  · cases h
  · next hgt => exact Nat.lt_of_not_le hgt

/-- 05 R97: the entries that a read returns. -/
theorem readEntries_spec {n : Nat} (hn : 1 ≤ n) (es : List Entry) :
    readEntries n es <+: es ∧ (readEntries n es).length ≤ n ∧ (es ≠ [] → readEntries n es ≠ []) ∧
      ((readEntries n es).length ≤ 1 ∨ bytesOf (readEntries n es) ≤ 230) ∧
      ((readEntries n es).length = n ∨ readEntries n es = es ∨
        ∃ e, es[(readEntries n es).length]? = some e ∧ 230 < bytesOf (readEntries n es) + entryBytes e) := by
  unfold readEntries
  by_cases hf : fitting n readRoom es = []
  · rw [hf]
    cases es with
    | nil => exact ⟨List.prefix_rfl, Nat.zero_le _, fun h => absurd rfl h, .inl (Nat.zero_le _), .inr (.inl rfl)⟩
    | cons e es =>
      obtain ⟨m, rfl⟩ : ∃ m, n = m + 1 := ⟨n - 1, by omega⟩
      have hbig : 230 < entryBytes e := fitting_eq_nil hf
      refine ⟨List.take_prefix _ _, hn, fun _ => by simp, .inl (by simp), .inr ?_⟩
      cases es with
      | nil => exact .inl rfl
      | cons x es => exact .inr ⟨x, rfl, by simpa [bytesOf] using Nat.lt_add_right _ hbig⟩
  · rw [if_neg (by simpa [List.isEmpty_iff] using hf)]
    exact ⟨fitting_prefix _ _ _, fitting_length _ _ _, fun _ => hf, .inr (fitting_bytes _ _ _), fitting_stops _ _ _⟩

/-! ## The requests -/

/-- 05 R96: a JOURNAL_SEEK that passes its checks. -/
theorem seek_written {tag : Nat} {pos : SeekPos} {s : State} (hr : ready .a s = true) (hs : storeValid s = true)
    (hp : firstFailing (seekChecks pos s) = none) :
    exec (.journalSeek .a tag pos) s = .next (replied .a 0x38 tag ⟨.ok, seekFlds s.journal⟩ (setCursor .a (seekCursor pos s) s)) :=
  request_replies (c := .journalSeek .a tag pos) (rule := seekRule .a pos) hr (modeCheck_office hs rfl rfl) (by
    have hc : firstFailing (seekChecks pos (begun .a 0x38 tag s)) = none := hp
    refine (ruled_pass hc).trans ?_
    cases pos <;> rfl)

/-- 05 R97, R98: a JOURNAL_READ of a count within its range. -/
theorem read_written {tag count : Nat} {s : State} (hr : ready .a s = true) (hs : storeValid s = true) (h1 : 1 ≤ count)
    (h4 : count ≤ 4) :
    exec (.journalRead .a tag count) s = .next (replied .a 0x39 tag (readOutcome count s s.aLink.cursor).2
      (setCursor .a (readOutcome count s s.aLink.cursor).1 s)) :=
  request_replies (c := .journalRead .a tag count) (rule := readRule .a count) hr (modeCheck_office hs rfl rfl) (by
    refine (ruled_pass (by rw [require_true (by simp [h1, h4])]; rfl)).trans ?_
    rw [readEffect_eq, readOutcome_begun]
    rfl)

/-- 05 R97: the entries from a cursor that is not lost. -/
theorem entriesFrom_some {s : State} {x : Cursor} {es : List Entry}
    (h : x = .oldest ∧ es = s.journal.entries ∨ x = .at s.journal.next ∧ es = [] ∨
      ∃ n, x = .at n ∧ n ≠ s.journal.next ∧ (s.entry? n).isSome = true ∧ es = s.journal.entries.dropWhile (fun e => e.seq ≠ n)) :
    entriesFrom s x = some es := by
  obtain ⟨rfl, rfl⟩ | ⟨rfl, rfl⟩ | ⟨n, rfl, hne, hsome, rfl⟩ := h
  · rfl
  · exact if_pos rfl
  · exact (if_neg hne).trans (if_pos hsome)

theorem lookupAnswer_eq (s : State) (shop ref : Nat) :
    lookupAnswer s shop ref =
      match (s.journal.entries.filter (fun e => e.shop = some shop && e.ref = some ref)).getLast? with
      | some e => ⟨.ok, entryFlds e ++ [Fld.flag (1 < (s.journal.entries.filter (fun e => e.shop = some shop && e.ref = some ref)).length)]⟩
      | none => ⟨.notFound, oldestStampFlds s.journal⟩ := by
  unfold lookupAnswer matching
  generalize s.journal.entries.filter (fun e => e.shop = some shop && e.ref = some ref) = ms
  cases h : ms.reverse with
  | nil => rw [List.reverse_eq_nil_iff.1 h]; rfl
  | cons e es =>
    have hms : ms = es.reverse ++ [e] := by rw [← List.reverse_reverse ms, h, List.reverse_cons]
    have hlen : (!es.isEmpty) = decide (1 < ms.length) := by
      rw [hms]
      cases es <;> simp
    rw [← hlen, hms, List.getLast?_concat]

/-- Settles O37. -/
theorem journalReadsAnswer : Obligations.JournalReadsAnswer := by
  unfold Obligations.JournalReadsAnswer
  refine ⟨⟨fun tag pos x s hr hs hpos => ?_, fun tag count es s hr hs h1 h4 hes => ?_, fun l tag shop ref s hr hs hok => ?_,
    fun tag s hr hs => ?_⟩, fun tag count n o s hr hs h1 h4 hcur hne hgone hold => ?_⟩
  · have hchk : firstFailing (seekChecks pos s) = none ∧ seekCursor pos s = x := by
      obtain ⟨rfl, rfl⟩ | ⟨rfl, rfl⟩ | ⟨n, rfl, hq, hn, rfl⟩ := hpos
      · exact ⟨rfl, rfl⟩
      · exact ⟨rfl, rfl⟩
      · refine ⟨?_, rfl⟩
        rw [seekChecks, require_true hq, require_true (by simpa using hn)]
        rfl
    obtain ⟨hp, rfl⟩ := hchk
    exact seek_written hr hs hp
  · have hfrom := entriesFrom_some hes
    obtain ⟨hpre, hlen, hne, hfit, hstop⟩ := readEntries_spec h1 es
    refine ⟨readEntries count es, hpre, hlen, hne, hfit, hstop, ?_⟩
    intro x
    refine (read_written hr hs h1 h4).trans ?_
    have hx : cursorAfter s.aLink.cursor (readEntries count es) = x := rfl
    unfold readOutcome
    rw [hfrom]
    dsimp only
    rw [hx]
    rfl
  · intro ms
    have h := Told.passed (c := .lookupReference l tag shop ref) (cs := fun _ => [require (shopOk shop) .badField])
      (told_plain (G := id) (A := fun s => lookupAnswer s shop ref) Silent.id fun _ _ _ => rfl) hr
      (modeCheck_of_valid hs rfl rfl l (.inr rfl)) (fun _ _ _ => rfl) (by rw [require_true hok]; rfl)
    rw [carried_plain, lookupAnswer_eq] at h
    exact h
  · exact written (c := .valueSummary .a tag) (cs := fun _ => []) (G := id) (A := valueSummaryFlds) Silent.id (fun _ _ _ => rfl) hr
      (modeCheck_office hs rfl rfl) (fun _ _ _ => rfl) rfl
  · refine (read_written hr hs h1 h4).trans ?_
    have hlost : entriesFrom s (.at n) = none := (if_neg hne).trans (if_neg (by simp [hgone]))
    unfold readOutcome
    rw [hcur, hlost]
    dsimp only
    rw [foundCursor, lostFlds, hold]
    rfl

end Sys2Proof.Proofs.JournalReading
end

section
/-! The day rollover and the reactions to it; holds and confirm timers that have run out. -/

namespace Sys2Proof.Proofs.Days

open Sys2Proof Sys2Proof.Machine Sys2Proof.Laws Sys2Proof.Proofs.Links Sys2Proof.Proofs.Basics Sys2Proof.Proofs.Bounds
  Sys2Proof.Proofs.Steps Sys2Proof.Proofs.Rules Sys2Proof.Proofs.Requests Sys2Proof.Proofs.Replies Sys2Proof.Proofs.Entries
  Sys2Proof.Proofs.Trade Sys2Proof.Proofs.Ends Sys2Proof.Proofs.Holding Sys2Proof.Proofs.PoolWork Sys2Proof.Proofs.PeriodWork

/-! ## What the operations leave of the Time Base -/

theorem releaseShops_time (s : State) : (releaseShops s).time = s.time :=
  foldl_keeps (fun s => s.time) (fun s i => s.setShop i (releaseShop (s.shop i))) (fun _ _ => rfl) s.period.roster s

theorem endRun_time (n period : Nat) (s : State) : (endRun n period s).time = s.time := by simp [endRun]

theorem endRuns_time (period : Nat) (s : State) : (endRuns period s).time = s.time :=
  foldl_keeps (fun s => s.time) _ (fun s n => by
    split
    · exact endRun_time _ _ _
    · rfl) _ s

theorem takePending_time (s : State) : (takePending s).time = s.time := by
  unfold takePending
  split <;> rfl

theorem release_time (s : State) : (release s).time = s.time := by
  unfold release
  rw [takePending_time, endRuns_time, giveNotices_time]
  exact releaseShops_time s

theorem testRelease_time (s : State) : (testRelease s).1.time = s.time := by
  unfold testRelease
  split
  · exact release_time s
  · rfl

theorem changePool_time (p : Nat) (x : Pool) (s : State) : (changePool p x s).time = s.time := by simp [changePool]

theorem readEffect_time (l : Link) (count : Nat) (s : State) : (readEffect l count s).state.time = s.time := by
  rw [readEffect_eq]
  exact setLink_time _ _ _

theorem setChannelEffect_time (n : Nat) (cfg : ChannelArg) (s : State) : (setChannelEffect n cfg s).state.time = s.time := by
  rw [setChannelEffect_eq]
  split
  · exact (testRelease_time _).trans (setPayoutStates_time _ _ _)
  · rfl

theorem resolved_time (n serial i : Nat) (x : PayoutState) (s : State) : (resolved n serial i x s).time = s.time := by
  unfold resolved
  split <;> rfl

theorem purchase_time (k : EntryKind) (id shop amount : Nat) (pool : Option Nat) (ref : Nat) (c : Card) (s : State) :
    (purchase k id shop amount pool ref c s).state.time = s.time := by
  unfold purchase
  split <;> simp [okay]

/-! ## Requests leave the reactions that wait -/

/-- The reactions that wait after a rule are those of its effect. -/
theorem ruled_handed {cs : List Check} {e : Done} {s : State} (h : e.state.time.handed = s.time.handed) :
    (ruled cs e s).state.time.handed = s.time.handed := by
  rcases HoldSlots.ruled_cases cs e s with hs | ⟨-, he⟩
  · rw [hs]
  · rw [he, h]

theorem ruled_time {cs : List Check} {e : Done} {s : State} (h : e.state.time = s.time) :
    (ruled cs e s).state.time.handed = s.time.handed := ruled_handed (by rw [h])

/-- 09 R164: a rule leaves the reactions to a rollover waiting. -/
theorem ruleOf_handed {i : Instr} (h : isRequest i = true) (ha : ∀ l tag, i ≠ .advanceDay l tag)
    (hi : ∀ l tag, i ≠ .storeInitialise l tag) (s : State) : (ruleOf i s).state.time.handed = s.time.handed := by
  cases i with
  | sellCard | reloadCard => exact ruled_time (purchase_time _ _ _ _ _ _ _ _)
  | redeem | captureHold | refund | voidSale | grantPromo | adjustCarry => exact ruled_time (by
      first
        | exact (writeEntry_time _ _).trans rfl
        | exact (writeEntry_time _ _).trans (endHold_time _ _ _ _))
  | releaseHold => exact ruled_time (endHold_time _ _ _ _)
  | definePool | addBudget | setPoolState => exact ruled_time (changePool_time _ _ _)
  | journalSeek => exact ruled_time (setLink_time _ _ _)
  | journalRead => exact ruled_time (readEffect_time _ _ _)
  | removeShop => exact ruled_time ((testRelease_time _).trans rfl)
  | setChannel => exact ruled_time (setChannelEffect_time _ _ _)
  | payoutResult => exact ruled_time ((testRelease_time _).trans (resolved_time _ _ _ _ _))
  | resetChannel => exact ruled_time ((testRelease_time _).trans ((setChannel_time _ _ _).trans (setPayoutStates_time _ _ _)))
  | setRollover => exact ruled_handed rfl
  | balance | placeHold | extendHold | lookupReference | cardDetail | freezeCard | unfreezeCard | closeCard | holdDetail | poolStatus
  | defineShop | stageSchedule | setShopState | shopPosition | clearAttention | setPayoutAccount | closePeriod | setScheduler
  | periodSummary | startRun | suspendChannel | resumeChannel | channelStatus | enterConfig | openPart | setRoute => exact ruled_time rfl
  | valueSummary | periodStatus | setTime | setDay | setTrading | timeStatus | identify | partStatus | restart => rfl
  | advanceDay l tag => exact absurd rfl (ha l tag)
  | storeInitialise l tag => exact absurd rfl (hi l tag)
  | _ => exact absurd h (by simp [isRequest])

theorem exec_handed {i : Instr} {s t : State} (h : isRequest i = true) (hr : ready (requestLink i) s = true) (hx : exec i s = .next t)
    (ha : ∀ l tag, i ≠ .advanceDay l tag) (hi : ∀ l tag, i ≠ .storeInitialise l tag) : t.time.handed = s.time.handed := by
  rw [exec_request h, takeRequest_ready hr] at hx
  cases hx
  unfold carryOut
  rw [finish_time]
  split
  · exact congrArg (fun x => x.handed) (begun_time _ _ _ _)
  · rw [ruleOf_handed h ha hi, begun_time]

/-! ## The rollover -/

theorem nextReactor_of_handed {s : State} (h : s.time.handed ≠ []) : ∃ b, b ∈ s.time.handed ∧ nextReactor s = some b := by
  unfold nextReactor
  cases hs : s.time.handed with
  | nil => exact absurd hs h
  | cons b bs =>
    cases bs with
    | nil => exact ⟨b, List.mem_cons_self, rfl⟩
    | cons b' bs =>
      have hlt : Config.reactionChoice s.time.turn % (b :: b' :: bs).length < (b :: b' :: bs).length :=
        Nat.mod_lt _ (Nat.succ_pos _)
      exact ⟨_, List.getElem_mem hlt, List.getElem?_eq_getElem hlt⟩

/-- 04 R83: POOL_LOW of every pool whose condition holds. -/
theorem poolLowNow_eq (s : State) : poolLowNow s = ((List.range 16).filter (fun p => isLow (s.pool p))).map (lowNotice s) := rfl

/-- Settles O54. -/
theorem rolloverStartsTheDay : Obligations.RolloverStartsTheDay := by
  unfold Obligations.RolloverStartsTheDay
  intro rolled
  refine ⟨fun tag s hr hs => ?_, fun s hp hoff => ?_, fun i s t h hr hx ha hi => exec_handed h hr hx ha hi⟩
  · have hmoved : dayMoved s = (rolled 1 s).1 := by
      have hdue : s.time.rolloverDue = false := (quiet_parts (ready_parts hr).2.1).2.2.2.1
      simp only [dayMoved, rolled, ← hdue]
      rfl
    have hx := Told.free (c := .advanceDay .a tag) told_advanceDay hr (modeCheck_office hs rfl rfl)
    refine ⟨_, hx, ?_, ?_⟩
    · conv_lhs => rw [carried_frame, hmoved]
      rfl
    · have hw := repliedWith_carried told_advanceDay.silent .a 0x64 tag (fun s => [dayRolledNotice s (dayMoved s) 1])
        (fun s => ⟨.ok, [Fld.u16 (dayMoved s).time.day]⟩) s
      have ht : (carried .a 0x64 tag dayMoved (fun s => [dayRolledNotice s (dayMoved s) 1])
          (fun s => ⟨.ok, [Fld.u16 (dayMoved s).time.day]⟩) (fun _ => []) s).time = (dayMoved s).time :=
        Entries.LinkFree.carried (f := fun t => t.time) (fun _ _ _ => rfl) _ _ _ _ _ _ _ s
      have ht' : (carried (requestLink (.advanceDay .a tag)) (requestFrame (.advanceDay .a tag)).kind
          (requestFrame (.advanceDay .a tag)).tag dayMoved (fun s => [dayRolledNotice s (dayMoved s) 1])
          (fun s => ⟨.ok, [Fld.u16 (dayMoved s).time.day]⟩) (fun _ => []) s).time = (dayMoved s).time := ht
      rw [ht']
      exact hw
  · have hx : exec .dayRollover s = .next (rolloverAction s) := by
      have h := dueEvent_power (f := rolloverAction) hp
      rwa [enterOffers_of_none hoff] at h
    refine ⟨fun hdue => ?_, fun hdue hh => ?_, fun hdue hh => ?_⟩
    · rw [hx, rolloverAction, if_pos hdue, takeRollover, if_pos hdue]
      rfl
    · have hn : nextReactor s = none := by
        unfold nextReactor
        rw [hh]
      rw [hx, rolloverAction, if_neg (by simp [hdue]), nextReaction, hn]
    · obtain ⟨b, hb, hn⟩ := nextReactor_of_handed hh
      have hxb : exec .dayRollover s = .next (takeReaction b s) := by rw [hx, rolloverAction, if_neg (by simp [hdue]), nextReaction, hn]
      refine ⟨b, hb, ?_⟩
      intro u
      refine ⟨fun h => ?_, fun h => ⟨fun hm => ?_, fun hm hst => ?_, fun hm hst => ?_⟩, fun h => ?_⟩
      · subst h
        rw [hxb]
        rfl
      · subst h
        rw [hxb]
        exact congrArg _ (if_neg hm)
      · subst h
        rw [hxb]
        exact congrArg _ ((if_pos hm).trans (if_neg hst))
      · subst h
        rw [hxb]
        exact congrArg _ ((if_pos hm).trans (if_pos hst))
      · subst h
        rw [hxb]
        have hres : reserveHolds s.journal = decide (writable s.journal ≤ 64) := rfl
        change Host.Outcome.next (if reserveHolds s.journal = true then giveNotice (reserveNotice u) u else u) = _
        rw [hres, reserveNotice_eq]
        simp only [decide_eq_true_eq]
        rfl

/-! ## Timers that run out -/

/-- 11 R188: what notices leave on the links does not depend on an operation that leaves the links alone. -/
theorem giveNotices_links {F : State → State} (h : Silent F) (ns : List Notice) (s : State) :
    (giveNotices ns (F s)).tLink = (giveNotices ns s).tLink ∧ (giveNotices ns (F s)).aLink = (giveNotices ns s).aLink := by
  rw [← h.giveNotices]
  exact ⟨h.carries.tLink _, h.carries.aLink _⟩

/-- Settles O53. -/
theorem timersThatRunOutAct : Obligations.TimersThatRunOutAct := by
  unfold Obligations.TimersThatRunOutAct
  refine ⟨fun n h c s hp hoff hh hc => ?_, fun n o s hp hoff hst hrem ho => ?_⟩
  · have hx : exec (.holdExpiry n) s = .next (expireHold n s) := by
      have h := dueEvent_power (f := expireHold n) hp
      rwa [enterOffers_of_none hoff] at h
    refine ⟨fun hrem => ?_, fun hrem => ?_⟩
    · rw [hx]
      unfold expireHold
      rw [hh]
      exact congrArg _ (if_neg hrem)
    · intro g back
      have hexp : expireHold n s = giveNotice (holdExpiredNotice n g h) (endHold n h.parts .expired s) := by
        unfold expireHold
        rw [hh]
        exact if_pos hrem
      have he := endHold_ended hh hc h.parts .expired
      obtain ⟨hcard, hsub, hmem⟩ := returnedCard_spec he
      have hframe : expireHold n s = withLinks (expireHold n s).tLink (expireHold n s).aLink (endHold n h.parts .expired s) := by
        rw [hexp, giveNotice_eq]
        rfl
      have hslot : ∀ m, (expireHold n s).holdSlot m = (endHold n h.parts .expired s).holdSlot m := fun m => by rw [hframe]; rfl
      refine ⟨_, hx, by rw [hframe]; exact he.holds, ⟨(returnedCard n h.parts .expired s c).buckets, ?_, hsub, fun b hb => ?_⟩,
        fun p => by rw [hframe]; exact he.pool p, ?_, ?_⟩
      · rw [hframe]
        exact he.cards.trans (congrArg (fun x => tablePut h.card x s.cards) hcard)
      · rw [hmem b hb, referred_congr hslot]
      · conv_lhs => rw [hframe, he.frame]
        rw [hframe]
        rfl
      · rw [hexp]
        exact giveNotices_links (silent_endHold n (linkFree_const h.parts) .expired) [holdExpiredNotice n g h] s
  · have hx : exec (.confirmTimeout n) s = .next (timeOut n s) := by
      have h := dueEvent_power (f := confirmEnd n) hp
      rw [enterOffers_of_none hoff] at h
      have hdue : timeoutDue (s.channel n) = true := by simp [timeoutDue, hst, hrem]
      exact h.trans (congrArg _ (if_pos hdue))
    have hout : timeOut n s = giveNotice (channelFaultNotice s n o)
        { s with channels := tableWrite idleChannel n { s.channel n with state := .fault, timedOut := true } s.channels } := by
      unfold timeOut
      dsimp only
      rw [ho]
      rfl
    refine ⟨_, hx, ?_, ?_, ?_⟩
    · rw [hout, giveNotice_eq]
      rfl
    · rw [hout, giveNotice_eq]
      rfl
    · rw [hout]
      exact giveNotices_links (F := fun s => s.setChannel n { s.channel n with state := .fault, timedOut := true })
        (silent_setChannel n fun _ _ _ => rfl) [channelFaultNotice s n o] s

end Sys2Proof.Proofs.Days
end

section
/-! The walk of a run, and the offers that enter the A-link's queue. -/

namespace Sys2Proof.Proofs.Offers

open Sys2Proof Sys2Proof.Machine Sys2Proof.Laws Sys2Proof.Proofs.Links Sys2Proof.Proofs.Basics Sys2Proof.Proofs.Bounds
  Sys2Proof.Proofs.Steps Sys2Proof.Proofs.PeriodWork Sys2Proof.Proofs.ChannelWork

/-! ## The lowest DUE shop -/

/-- A listed shop is the shop read. -/
theorem shop_of_mem {s : State} (h : tableRising s.shops = true) {e : Nat × Shop} (he : e ∈ s.shops) : s.shop e.1 = e.2 := by
  unfold State.shop tableRead
  rw [HoldSlots.tableGet_of_mem h he]
  rfl

/-- A shop that is not the unused shop is listed. -/
theorem mem_shops {s : State} {i : Nat} (h : s.shop i ≠ unusedShop) : (i, s.shop i) ∈ s.shops := by
  unfold State.shop tableRead at h ⊢
  cases hg : tableGet i s.shops with
  | none => rw [hg] at h; exact absurd rfl h
  | some x => exact HoldSlots.mem_of_tableGet hg

/-- 08 R147: the shops of a channel's range whose record is in a state that an UNUSED shop's is not in. -/
theorem mem_rangeIn {s : State} (ht : tableRising s.shops = true) {c : Channel} {x : PayoutState}
    (hx : x ≠ unusedShop.payout.state) (i : Nat) :
    i ∈ rangeIn s c x ↔ (s.shop i).payout.state = x ∧ inRange i c.range = true := by
  simp only [rangeIn, List.mem_map, List.mem_filter, Bool.and_eq_true, decide_eq_true_eq]
  constructor
  · rintro ⟨e, ⟨he, hr, hp⟩, rfl⟩
    rw [shop_of_mem ht he]
    exact ⟨hp, hr⟩
  · rintro ⟨hp, hr⟩
    exact ⟨_, ⟨mem_shops fun h => hx (by rw [← hp, h]), hr, hp⟩, rfl⟩

theorem rangeIn_rising {s : State} (ht : tableRising s.shops = true) (c : Channel) (x : PayoutState) :
    (rangeIn s c x).Pairwise (· < ·) := by
  have h := tableRising_filter (fun e => inRange e.1 c.range && e.2.payout.state = x) ht
  simp only [tableRising, decide_eq_true_eq] at h
  exact List.pairwise_map.2 h

/-- Of a rising list the first that meets a condition is the lowest. -/
theorem find?_lowest {l : List Nat} {p : Nat → Bool} {i : Nat} (hl : l.Pairwise (· < ·)) (hi : i ∈ l) (hp : p i = true)
    (hmin : ∀ k ∈ l, p k = true → i ≤ k) : l.find? p = some i := by
  obtain ⟨as, bs, rfl⟩ := List.append_of_mem hi
  refine List.find?_eq_some_iff_append.2 ⟨hp, as, bs, rfl, fun a ha => ?_⟩
  rw [Bool.not_eq_true', Bool.eq_false_iff]
  intro hpa
  have hlt := (List.pairwise_append.1 hl).2.2 a ha i List.mem_cons_self
  exact absurd (hmin a (List.mem_append_left _ ha) hpa) (Nat.not_le.2 hlt)

/-- 08 R147: a shop above a channel's cursor. -/
def aboveCursor (c : Channel) (i : Nat) : Bool :=
  match c.cursor with
  | none => true
  | some k => k < i

theorem aboveCursor_iff (c : Channel) (i : Nat) : aboveCursor c i = true ↔ ∀ k, c.cursor = some k → k < i := by
  unfold aboveCursor
  cases c.cursor <;> simp

theorem nextDue_eq (s : State) (c : Channel) : nextDue s c = (rangeIn s c .due).find? (aboveCursor c) := rfl

theorem runDoneNotice_eq (s : State) (n : Nat) : runDoneNotice s n (s.channel n) s.period.closing = runDone s n := by
  unfold runDoneNotice
  rw [rangeIn_length]
  rfl

theorem walkStep_of_due {s : State} {n i : Nat} (hst : (s.channel n).state = .running) (ho : (s.channel n).offer = none)
    (h : nextDue s (s.channel n) = some i) : walkStep n s = makeOffer n i s := by
  unfold walkStep
  dsimp only
  rw [if_pos (by simp [hst, ho]), h]

theorem walkStep_of_none {s : State} {n : Nat} (hst : (s.channel n).state = .running) (ho : (s.channel n).offer = none)
    (h : nextDue s (s.channel n) = none) : walkStep n s = endRun n s.period.closing s := by
  unfold walkStep
  dsimp only
  rw [if_pos (by simp [hst, ho]), h]

/-! ## Offers that enter -/

theorem enterOffer_of_offer {s : State} {n : Nat} {o : Offer} (ho : (s.channel n).offer = some o) :
    enterOffer n s = { s with
      channels := tableWrite idleChannel n { s.channel n with
        offer := some { o with queued := true }, remaining := (s.channel n).timeout,
        state := if (s.channel n).state = .running then .offerWait else (s.channel n).state } s.channels
      aLink := { s.aLink with tx := s.aLink.tx ++ [offerFrame s n o] } } := by
  unfold enterOffer
  rw [ho]
  rfl

/-- What one channel's turn does. -/
def enterTurn (s : State) (n : Nat) : State := if offerMayEnter s n then enterOffer n s else s

theorem range_split {n : Nat} (h : n < 4) : ∃ ys, List.range Config.channelCount = List.range n ++ n :: ys := by
  obtain rfl | rfl | rfl | rfl : n = 0 ∨ n = 1 ∨ n = 2 ∨ n = 3 := by omega
  · exact ⟨[1, 2, 3], rfl⟩
  · exact ⟨[2, 3], rfl⟩
  · exact ⟨[3], rfl⟩
  · exact ⟨[], rfl⟩

theorem offerMayEnter_of_waits {s : State} {n : Nat} (h : offerWaits (s.channel n) = false) : offerMayEnter s n = false := by
  simp [offerMayEnter, h]

/-- The turns below a channel, where no offer waits there. -/
theorem enterTurns_below {s : State} {n : Nat} (h : ∀ m, m < n → offerWaits (s.channel m) = false) :
    (List.range n).foldl enterTurn s = s :=
  foldl_id _ _ _ fun m hm => if_neg (by rw [offerMayEnter_of_waits (h m (List.mem_range.1 hm))]; exact Bool.false_ne_true)

/-- 11 R189: the entering of the waiting offer of the lowest channel, first of all. -/
theorem enterOffers_first {s : State} {n : Nat} {o : Offer} (hn : n < 4) (ho : (s.channel n).offer = some o)
    (hmay : offerMayEnter s n = true) (hlow : ∀ m, m < n → offerWaits (s.channel m) = false) :
    enterOffers s = enterOffers (enterOffer n s) := by
  obtain ⟨ys, hys⟩ := range_split hn
  have hgo : ∀ t : State, enterOffers t = (List.range Config.channelCount).foldl enterTurn t := fun _ => rfl
  have hch : ∀ m, (enterOffer n s).channel m = if m = n then { s.channel n with
      offer := some { o with queued := true }, remaining := (s.channel n).timeout,
      state := if (s.channel n).state = .running then .offerWait else (s.channel n).state } else s.channel m := fun m => by
    rw [enterOffer_of_offer ho]
    exact tableRead_write _ _ _ _ _
  have hbelow : ∀ m, m < n → offerWaits ((enterOffer n s).channel m) = false := fun m hm => by
    rw [hch, if_neg (Nat.ne_of_lt hm)]
    exact hlow m hm
  have hself : enterTurn (enterOffer n s) n = enterOffer n s :=
    if_neg (by rw [offerMayEnter_of_waits (by rw [hch, if_pos rfl]; rfl)]; exact Bool.false_ne_true)
  rw [hgo, hgo, hys, List.foldl_append, List.foldl_append, enterTurns_below hlow, enterTurns_below hbelow, List.foldl_cons,
    List.foldl_cons, hself]
  exact congrArg (ys.foldl enterTurn) (if_pos hmay)

theorem nextOffer_of_lowest {s : State} {n : Nat} (hn : n < 4) (hmay : offerMayEnter s n = true)
    (hlow : ∀ m, m < n → offerWaits (s.channel m) = false) : nextOffer s = some n := by
  obtain ⟨ys, hys⟩ := range_split hn
  exact List.find?_eq_some_iff_append.2 ⟨hmay, _, ys, hys, fun m hm => by
    rw [offerMayEnter_of_waits (hlow m (List.mem_range.1 hm))]
    rfl⟩

theorem nextOffer_of_none {s : State} (h : ∀ n, n < 4 → offerMayEnter s n = false) : nextOffer s = none :=
  List.find?_eq_none.2 fun n hn => by rw [h n (List.mem_range.1 hn)]; exact Bool.false_ne_true

/-- Settles O49. -/
theorem offersAreMadeAndQueued : Obligations.OffersAreMadeAndQueued := by
  unfold Obligations.OffersAreMadeAndQueued
  refine ⟨fun n s hp hq ht => ?_, fun n o s hd hfree hn ho hqd hlow => ?_, fun s h => ?_⟩
  · intro c dueAbove hst ho
    have hx : exec (.runWalkStep n) s = .next (walkStep n s) := event_quiet hp hq
    have hr : tableRising s.shops = true := by
      obtain ⟨-, -, -, hshops, -⟩ := ht
      exact ((tableCanonical_iff _ _).1 hshops).1
    have hmem : ∀ i, (i ∈ rangeIn s c .due ∧ aboveCursor c i = true) ↔ dueAbove i := fun i => by
      rw [mem_rangeIn hr (by decide), aboveCursor_iff, and_assoc]
    refine ⟨fun i hi hmin => ?_, fun hnone => ?_⟩
    · intro serial
      obtain ⟨hin, hab⟩ := (hmem i).2 hi
      have hnext : nextDue s c = some i := (nextDue_eq s c).trans
        (find?_lowest (rangeIn_rising hr c .due) hin hab fun k hk hpk => hmin k ((hmem k).1 ⟨hk, hpk⟩))
      rw [hx, walkStep_of_due hst ho hnext]
      rfl
    · have hnext : nextDue s c = none := (nextDue_eq s c).trans
        (List.find?_eq_none.2 fun k hk hpk => hnone k ((hmem k).1 ⟨hk, hpk⟩))
      refine ⟨_, hx, ?_⟩
      rw [walkStep_of_none hst ho hnext, ← runDoneNotice_eq]
      rfl
  · intro c u
    have hmay : offerMayEnter s n = true := by
      have hw : offerWaits (s.channel n) = true := by simp [offerWaits, ho, hqd]
      exact (offerMayEnter_iff s n).2 ⟨hw, hfree, hd⟩
    have hu : enterOffer n s = u := enterOffer_of_offer ho
    refine ⟨fun hp => ?_, hu ▸ enterOffers_first hn ho hmay hlow⟩
    refine (lineEvent_power (f := offerEnters) hp).trans ?_
    rw [offerEnters, nextOffer_of_lowest hn hmay hlow, ← hu]
  · have hnone : ∀ n, n < 4 → offerMayEnter s n = false := fun n hn => by
      rw [Bool.eq_false_iff, ne_eq, offerMayEnter_iff]
      rintro ⟨hw, hfree, hd⟩
      obtain h | h | h := h
      · rw [hd] at h
        cases h
      · omega
      · rw [h n hn] at hw
        cases hw
    refine ⟨?_, enterOffers_of_none hnone⟩
    have hstay : offerEnters s = s := by rw [offerEnters, nextOffer_of_none hnone]
    change Host.Outcome.next (if s.power = true then offerEnters s else s) = _
    rw [hstay, ite_self]

end Sys2Proof.Proofs.Offers
end

section
/-! The release of a period, and what tests its condition. -/

namespace Sys2Proof.Proofs.Releasing

open Sys2Proof Sys2Proof.Machine Sys2Proof.Laws Sys2Proof.Proofs.Links Sys2Proof.Proofs.Basics Sys2Proof.Proofs.Bounds
  Sys2Proof.Proofs.Steps Sys2Proof.Proofs.Rules Sys2Proof.Proofs.Requests Sys2Proof.Proofs.Replies Sys2Proof.Proofs.Entries
  Sys2Proof.Proofs.PeriodWork Sys2Proof.Proofs.ChannelWork Sys2Proof.Proofs.Days Sys2Proof.Proofs.Offers

/-! ## Folds over shops and channels -/

/-- What a fold of idempotent changes, one shop at a time, makes of one shop. -/
theorem foldl_shop {g : State → Nat → State} {f : Nat → Shop → Shop} (hf : ∀ i x, f i (f i x) = f i x)
    (hg : ∀ s i j, (g s i).shop j = if j = i then f i (s.shop j) else s.shop j) (is : List Nat) (s : State) (j : Nat) :
    (is.foldl g s).shop j = if j ∈ is then f j (s.shop j) else s.shop j := by
  induction is generalizing s with
  | nil => rfl
  | cons i is ih =>
    rw [List.foldl_cons, ih, hg]
    by_cases hi : j = i
    · subst hi
      simp [hf]
    · simp [hi]

/-- The same for channels. -/
theorem foldl_channel {g : State → Nat → State} {f : Channel → Channel} (hf : ∀ x, f (f x) = f x)
    (hg : ∀ s i j, (g s i).channel j = if j = i then f (s.channel j) else s.channel j) (is : List Nat) (s : State) (j : Nat) :
    (is.foldl g s).channel j = if j ∈ is then f (s.channel j) else s.channel j := by
  induction is generalizing s with
  | nil => rfl
  | cons i is ih =>
    rw [List.foldl_cons, ih, hg]
    by_cases hi : j = i
    · subst hi
      simp [hf]
    · simp [hi]

/-- A fold of writes to the shops leaves all else as it is. -/
theorem foldl_shops_frame {α : Type} {f : State → α → State} (h : ∀ s a, f s a = { s with shops := (f s a).shops })
    (l : List α) (s : State) : l.foldl f s = { s with shops := (l.foldl f s).shops } := by
  induction l generalizing s with
  | nil => rfl
  | cons a l ih => rw [List.foldl_cons, ih, h s a]

/-! ## The shops at the release -/

theorem carryAfter_eq (x : Shop) : carryAfter x = releasedCarry x := by
  unfold carryAfter releasedCarry
  cases x.payout.state <;> rfl

theorem releaseShop_idem (x : Shop) : releaseShop (releaseShop x) = releaseShop x := by
  have h : carryAfter (releaseShop x) = carryAfter x := rfl
  unfold releaseShop at h ⊢
  rw [h]
  simp

theorem releaseShops_shop (s : State) (i : Nat) :
    (releaseShops s).shop i = if i ∈ s.period.roster then releaseShop (s.shop i) else s.shop i :=
  foldl_shop (g := fun s i => s.setShop i (releaseShop (s.shop i))) (f := fun _ => releaseShop) (fun _ => releaseShop_idem)
    (fun s i j => by
      rw [shop_setShop]
      split
      · next h => rw [h]
      · rfl) _ _ _

theorem releaseShops_frame (s : State) : releaseShops s = { s with shops := (releaseShops s).shops } :=
  foldl_shops_frame (f := fun s i => s.setShop i (releaseShop (s.shop i))) (fun _ _ => rfl) s.period.roster s

theorem releaseShops_payout (s : State) (i : Nat) : ((releaseShops s).shop i).payout = (s.shop i).payout := by
  rw [releaseShops_shop]
  split <;> rfl

/-! ## The blocks at the release -/

theorem rosterTotal_eq (s : State) (x : PayoutState) : payoutSum s (rosterIn s x) = rosterTotal s x := rfl

theorem purgedBy_eq (period : Nat) (c : Card) :
    purgedBy period c = (c.state = .closed && c.closedPeriod.any (fun n => n < period)) := by
  unfold purgedBy
  cases c.closedPeriod <;> rfl

/-- 07 R135: the release part of the summary. -/
theorem releasePart_eq (s : State) :
    releasePart s =
      { day := s.time.day, clock := s.time.clock, paidCount := rosterCount s .paid, paidTotal := rosterTotal s .paid,
        failedCount := rosterCount s .failed, failedTotal := rosterTotal s .failed, deferredCount := rosterCount s .deferred,
        deferredTotal := rosterTotal s .deferred, heldCount := rosterCount s .held, heldTotal := rosterTotal s .held,
        carrySum := (s.period.roster.map (fun i => releasedCarry (s.shop i))).sum, madeReleasable := madeReleasable s,
        purged := purgedCards s } := by
  unfold releasePart purgedCards
  simp only [rosterIn_length, rosterTotal_eq, carryAfter_eq, purgedBy_eq]
  rfl

theorem releasedNotice_eq (s : State) : releasedNotice s.period.closing (releasePart s) = periodReleased s := by
  rw [releasePart_eq]
  rfl

theorem releasedBlocks_frame (s : State) :
    releasedBlocks s = { s with
      shops := (releaseShops s).shops
      journal := { s.journal with released := s.period.closing }
      cards := s.cards.filter (fun e => !purgedBy s.period.closing e.2)
      period := { amendSummary (fun m => { m with release := some (releasePart s) }) s.period with state := .released } } := by
  unfold releasedBlocks
  rw [releaseShops_frame]
  rfl

theorem releasedBlocks_shop (s : State) (i : Nat) : (releasedBlocks s).shop i = (releaseShops s).shop i := rfl

/-- 08 R150: the release leaves the records' states, and with them the shops that a channel's range has in a state. -/
theorem rangeIn_releasedBlocks {s : State} (ht : tableRising s.shops = true) (hr : tableRising (releaseShops s).shops = true)
    {x : PayoutState} (hx : x ≠ unusedShop.payout.state) (c : Channel) : rangeIn (releasedBlocks s) c x = rangeIn s c x := by
  have hr' : tableRising (releasedBlocks s).shops = true := hr
  refine (rangeIn_rising hr' c x).eq_of_mem_iff (rangeIn_rising ht c x) fun i => ?_
  rw [mem_rangeIn hr' hx, mem_rangeIn ht hx, releasedBlocks_shop, releaseShops_payout]

/-! ## The runs at the release -/

theorem stopOne_channel (s : State) (i j : Nat) :
    (stopOne s i).channel j =
      if j = i then (if (s.channel j).state = .running then stoppedRun (s.channel j) else s.channel j) else s.channel j := by
  unfold stopOne
  by_cases hj : j = i
  · subst hj
    split
    · rw [if_pos rfl, channel_setChannel_same]
    · rw [if_pos rfl]
  · rw [if_neg hj]
    split
    · rw [channel_setChannel, if_neg hj]
    · rfl

theorem stopOne_frame (s : State) (n : Nat) : stopOne s n = { s with channels := (stopOne s n).channels } := by
  unfold stopOne
  split <;> rfl

theorem stopRuns_frame (s : State) : stopRuns s = { s with channels := (stopRuns s).channels } :=
  foldl_channels_frame stopOne_frame _ s

theorem stopRuns_channel (s : State) {n : Nat} (hn : n < 4) :
    (stopRuns s).channel n = if (s.channel n).state = .running then stoppedRun (s.channel n) else s.channel n := by
  have h := foldl_channel (g := stopOne) (f := fun c => if c.state = .running then stoppedRun c else c) (fun c => by
    by_cases hc : c.state = .running
    · simp [hc, stoppedRun]
    · simp [hc]) stopOne_channel (List.range Config.channelCount) s n
  rw [if_pos (List.mem_range.2 hn)] at h
  exact h

/-- 08 R150: the RUN_DONE notices of the runs that stand as they did. -/
theorem runsDone_eq {s : State} {ns : List Nat} (hd : ns.Nodup) {u : State} (hch : ∀ n ∈ ns, u.channel n = s.channel n)
    (hr : ∀ c, rangeIn u c .uncertain = rangeIn s c .uncertain) :
    runsDone s.period.closing ns u = (ns.filter (fun n => (s.channel n).state = .running)).map (runDone s) := by
  induction ns generalizing u with
  | nil => rfl
  | cons n ns ih =>
    obtain ⟨hn, hns⟩ := List.nodup_cons.1 hd
    have hstop : ∀ m ∈ ns, (stopOne u n).channel m = s.channel m := fun m hm => by
      rw [stopOne_channel, if_neg (ne_of_mem_of_not_mem hm hn), hch m (List.mem_cons_of_mem _ hm)]
    have hrange : ∀ c, rangeIn (stopOne u n) c .uncertain = rangeIn s c .uncertain := fun c => by
      rw [stopOne_frame]
      exact hr c
    have hnotice : runDoneNotice u n (s.channel n) s.period.closing = runDone s n := by
      rw [← runDoneNotice_eq]
      unfold runDoneNotice
      rw [hr]
    rw [runsDone, ih hns hstop hrange, hch n List.mem_cons_self, List.filter_cons, hnotice]
    by_cases hrun : (s.channel n).state = .running
    · simp [hrun]
    · simp [hrun]

/-! ## The pending close -/

theorem periodAfter_of_lt {n : Nat} (h : n < 4294967295) : periodAfter n = n + 1 := if_neg (Nat.ne_of_lt h)

/-- 07 R127: the Period Controller after the taking of a close, whatever follows the highest live number. -/
theorem takeClose_period_eq (cause : CloseCause) (s : State) :
    (takeClose cause s).period = { s.period with
      closing := s.period.live, live := periodAfter s.period.live, state := .closing, cursor := 0, roster := definedShops s,
      countdown := if s.period.mode = .interval then s.period.interval * 60 else s.period.countdown,
      summaries := (if 8 ≤ s.period.summaries.length then s.period.summaries.tail else s.period.summaries) ++
        [begunSummary cause s] } := by
  unfold takeClose begunSummary loadCountdown
  by_cases hm : s.period.mode = .interval
  · simp only [if_pos hm]
    rfl
  · simp only [if_neg hm]
    rfl

/-- 07 R127: the taking of a close defines no shop and makes none UNUSED. -/
theorem definedShops_takeClose (cause : CloseCause) (s : State) : definedShops (takeClose cause s) = definedShops s := by
  unfold definedShops takeClose
  dsimp only
  rw [List.filter_map, List.map_map]
  have hstate : ∀ e : Nat × Shop, (if e.2.state = .unused then e else (e.1, closeShop e.2)).2.state = e.2.state := fun e => by
    split <;> rfl
  have hkey : ∀ e : Nat × Shop, (if e.2.state = .unused then e else (e.1, closeShop e.2)).1 = e.1 := fun e => by split <;> rfl
  have hf : (fun e : Nat × Shop => decide (e.2.state ≠ .unused)) ∘ (fun e => if e.2.state = .unused then e else (e.1, closeShop e.2)) =
      fun e => decide (e.2.state ≠ .unused) := funext fun e => by simp only [Function.comp_apply, hstate]
  rw [hf]
  exact List.map_congr_left fun e _ => hkey e

theorem takePending_of_none {s : State} (h : s.period.closePending = none) : takePending s = s := by
  unfold takePending
  rw [h]

theorem takePending_of_some {s : State} {cause : CloseCause} (h : s.period.closePending = some cause) :
    takePending s = { takeClose cause s with period := { (takeClose cause s).period with closePending := none } } := by
  unfold takePending
  rw [h]

theorem takePending_frame (s : State) : takePending s = { s with shops := (takePending s).shops, period := (takePending s).period } := by
  cases h : s.period.closePending with
  | none => rw [takePending_of_none h]
  | some cause => rw [takePending_of_some h]; rfl

/-! ## The release -/

/-- 05 R92: the release gives JOURNAL_RESERVE by the released period alone. -/
theorem releaseNews_eq {s : State} (ht : tableRising s.shops = true) (hr : tableRising (releaseShops s).shops = true) :
    releaseNews s = reserveNotices s { s with journal := { s.journal with released := s.period.closing } } ++
      ((List.range 4).filter (fun n => (s.channel n).state = .running)).map (runDone s) := by
  have hch : ∀ n, (releasedBlocks s).channel n = s.channel n := fun n => by rw [releasedBlocks_frame]; rfl
  have hruns : runsDone s.period.closing (List.range Config.channelCount) (releasedBlocks s) =
      ((List.range 4).filter (fun n => (s.channel n).state = .running)).map (runDone s) :=
    runsDone_eq List.nodup_range (fun n _ => hch n) (rangeIn_releasedBlocks ht hr (by decide))
  have hres : reserveNotices s (releasedBlocks s) =
      reserveNotices s { s with journal := { s.journal with released := s.period.closing } } :=
    reserveNotices_congr rfl (by rw [releasedBlocks_frame]) (by rw [releasedBlocks_frame]; rfl)
  unfold releaseNews
  rw [reserveEdge_eq, hres, hruns]

/-- 07 R137: the release condition. -/
theorem releaseHolds_iff (s : State) :
    releaseHolds s = true ↔ s.period.state = .settling ∧ ∀ i ∈ s.period.roster,
      (s.shop i).payout.state ≠ .due ∧ (s.shop i).payout.state ≠ .offered ∧ (s.shop i).payout.state ≠ .uncertain := by
  simp [releaseHolds, and_assoc]

theorem release_told (s : State) : release s = giveNotices (releaseNews s) (releaseState s) := notifies_release.eq s

/-- 07 R138: the release but for the pending close and the notices. -/
def releasedRuns (s : State) : State := stopRuns (releasedBlocks s)

theorem releasedRuns_frame (s : State) :
    releasedRuns s = { s with
      shops := (releaseShops s).shops
      journal := { s.journal with released := s.period.closing }
      cards := s.cards.filter (fun e => !purgedBy s.period.closing e.2)
      channels := (releasedRuns s).channels
      period := { amendSummary (fun m => { m with release := some (releasePart s) }) s.period with state := .released } } := by
  unfold releasedRuns
  conv_lhs => rw [stopRuns_frame, releasedBlocks_frame]
  rw [releasedBlocks_frame]

theorem tableRising_releaseShops {s : State} (ht : tableCanonical unusedShop s.shops = true) :
    tableRising (releaseShops s).shops = true :=
  ((tableCanonical_iff _ _).1 ((safe_releaseShops (W := True) s).shops ht)).1

theorem releaseState_frame (s : State) :
    releaseState s = { s with
      shops := (releaseState s).shops
      journal := { s.journal with released := s.period.closing }
      cards := s.cards.filter (fun e => !purgedBy s.period.closing e.2)
      channels := (releasedRuns s).channels
      period := (releaseState s).period } :=
  (takePending_frame (releasedRuns s)).trans (congrArg
    (fun u : State => { u with shops := (releaseState s).shops, period := (releaseState s).period }) (releasedRuns_frame s))

theorem giveNotices_frame (ns : List Notice) (u : State) :
    giveNotices ns u = withLinks (giveNotices ns u).tLink (giveNotices ns u).aLink u := by
  rw [giveNotices_eq]
  rfl

/-- A state is told by another up to the blocks that differ. -/
theorem blocks_of_eq {s t : State} {shops : Table Shop} {journal : Journal} {cards : Table Card} {channels : Table Channel}
    {period : PeriodController} {k k' : LinkState}
    (h : t = { s with
      shops := shops, journal := journal, cards := cards, channels := channels, period := period, tLink := k, aLink := k' }) :
    t = { s with
      shops := t.shops, journal := t.journal, cards := t.cards, channels := t.channels, period := t.period, tLink := t.tLink
      aLink := t.aLink } := by
  subst h
  rfl

/-- The same of a state that is told up to the links by one told up to the other blocks. -/
theorem blocks_of_links {s t u : State} {shops : Table Shop} {journal : Journal} {cards : Table Card} {channels : Table Channel}
    {period : PeriodController} (h : t = withLinks t.tLink t.aLink u)
    (hu : u = { s with shops := shops, journal := journal, cards := cards, channels := channels, period := period }) :
    t = { s with
      shops := shops, journal := journal, cards := cards, channels := channels, period := period, tLink := t.tLink
      aLink := t.aLink } := by
  subst hu
  exact h

/-- 07 R138: the release, the links apart. -/
theorem release_blocks (s : State) :
    release s = { s with
      shops := (releaseState s).shops
      journal := { s.journal with released := s.period.closing }
      cards := s.cards.filter (fun e => !purgedBy s.period.closing e.2)
      channels := (releasedRuns s).channels
      period := (releaseState s).period
      tLink := (release s).tLink
      aLink := (release s).aLink } := by
  have h := giveNotices_frame (releaseNews s) (releaseState s)
  rw [← release_told] at h
  exact blocks_of_links h (releaseState_frame s)

/-! ## The clauses of the release -/

/-- The blocks of a state that is told by another. -/
theorem fields_of_blocks {s t : State} {shops : Table Shop} {journal : Journal} {cards : Table Card} {channels : Table Channel}
    {period : PeriodController} {k k' : LinkState}
    (h : t = { s with
      shops := shops, journal := journal, cards := cards, channels := channels, period := period, tLink := k, aLink := k' }) :
    t.shops = shops ∧ t.journal = journal ∧ t.cards = cards ∧ t.channels = channels ∧ t.period = period ∧ t.time = s.time := by
  subst h
  exact ⟨rfl, rfl, rfl, rfl, rfl, rfl⟩

theorem release_journal (s : State) : (release s).journal = { s.journal with released := s.period.closing } :=
  (fields_of_blocks (release_blocks s)).2.1

theorem release_cards (s : State) :
    (release s).cards = s.cards.filter (fun e => !(e.2.state = .closed && e.2.closedPeriod.any (fun n => n < s.period.closing))) := by
  obtain ⟨-, -, h, -⟩ := fields_of_blocks (release_blocks s)
  rw [h]
  simp only [purgedBy_eq]

theorem channel_congr {s t : State} (h : t.channels = s.channels) (n : Nat) : t.channel n = s.channel n := by
  unfold State.channel
  rw [h]

theorem shop_congr {s t : State} (h : t.shops = s.shops) (i : Nat) : t.shop i = s.shop i := by
  unfold State.shop
  rw [h]

theorem definedShops_congr {s t : State} (h : t.shops = s.shops) : definedShops t = definedShops s := by
  unfold definedShops
  rw [h]

theorem release_channel (s : State) {n : Nat} (hn : n < 4) :
    (release s).channel n = if (s.channel n).state = .running then { s.channel n with state := .idle, cursor := none } else s.channel n := by
  obtain ⟨-, -, -, h, -⟩ := fields_of_blocks (release_blocks s)
  have hb : (releasedBlocks s).channel n = s.channel n := channel_congr (by rw [releasedBlocks_frame]) n
  rw [channel_congr h, releasedRuns, stopRuns_channel _ hn, hb]
  rfl

theorem release_shops (s : State) : (release s).shops = (releaseState s).shops := (fields_of_blocks (release_blocks s)).1

theorem release_shop (s : State) (i : Nat) : (release s).shop i = (releaseState s).shop i := shop_congr (release_shops s) i

theorem release_period (s : State) : (release s).period = (releaseState s).period := by
  obtain ⟨-, -, -, -, h, -⟩ := fields_of_blocks (release_blocks s)
  exact h

/-- 11 R188: what the release leaves on the links. -/
theorem release_links (s : State) :
    (release s).tLink = (giveNotices (releaseNews s) s).tLink ∧ (release s).aLink = (giveNotices (releaseNews s) s).aLink := by
  have h := giveNotices_links notifies_release.silent (releaseNews s) s
  rwa [← release_told] at h

/-- 07 R138, 06 R108: a shop at the release. -/
def settledShop (s : State) (i : Nat) : Shop :=
  if i ∈ s.period.roster then
    { s.shop i with carry := releasedCarry (s.shop i), attention := (s.shop i).attention || decide ((s.shop i).payout.state = .held) }
  else s.shop i

theorem releasedRuns_shop (s : State) (i : Nat) : (releasedRuns s).shop i = settledShop s i := by
  obtain ⟨h, -⟩ := fields_of_blocks (releasedRuns_frame s)
  rw [shop_congr h, releaseShops_shop, settledShop, ← carryAfter_eq]
  rfl

theorem settledShop_kept (s : State) (i : Nat) :
    (settledShop s i).state = (s.shop i).state ∧ (settledShop s i).live = (s.shop i).live ∧
      (settledShop s i).schedule = (s.shop i).schedule ∧ (settledShop s i).staged = (s.shop i).staged := by
  unfold settledShop
  split
  · exact ⟨rfl, rfl, rfl, rfl⟩
  · exact ⟨rfl, rfl, rfl, rfl⟩

/-- 07 R127: a shop at a release that takes a pending close. -/
theorem closedShop_settledShop (s : State) (i : Nat) :
    closedShop (settledShop s i) = if (s.shop i).state = .unused then settledShop s i else { settledShop s i with
      closing := (s.shop i).live, closingSchedule := (s.shop i).schedule, live := zeroPosition,
      schedule := (s.shop i).staged.getD (s.shop i).schedule, staged := none,
      result := { zeroResult with computed := false }, payout := { state := .none, amount := 0, serial := 0 } } := by
  obtain ⟨hstate, hlive, hschedule, hstaged⟩ := settledShop_kept s i
  rw [closedShop_eq, hlive, hschedule, hstaged, hstate]
  exact if_congr Iff.rfl rfl (by rw [← hstate])

/-- 07 R135: the summaries with the release part of the closing period's. -/
def releasedSummaries (s : State) : List Summary :=
  s.period.summaries.map (fun m => if m.period = s.period.closing then { m with release := some (releasePart s) } else m)

theorem releasedRuns_period (s : State) :
    (releasedRuns s).period = { s.period with state := .released, summaries := releasedSummaries s } := by
  obtain ⟨-, -, -, -, h, -⟩ := fields_of_blocks (releasedRuns_frame s)
  exact h

theorem releaseState_eq (s : State) : releaseState s = takePending (releasedRuns s) := rfl

/-- 07 R138: the release where no close is pending. -/
theorem release_of_none {s : State} (h : s.period.closePending = none) :
    (∀ i, (release s).shop i = settledShop s i) ∧
      (release s).period = { s.period with state := .released, summaries := releasedSummaries s } := by
  have hp : (releasedRuns s).period.closePending = none := by rw [releasedRuns_period, h]
  have hst : releaseState s = releasedRuns s := by rw [releaseState_eq, takePending_of_none hp]
  exact ⟨fun i => by rw [release_shop, hst, releasedRuns_shop], by rw [release_period, hst, releasedRuns_period]⟩

/-- 07 R127, R138: the release where a close is pending. -/
theorem releaseState_of_some {s : State} {cause : CloseCause} (h : s.period.closePending = some cause) :
    releaseState s = { takeClose cause (releasedRuns s) with
      period := { (takeClose cause (releasedRuns s)).period with closePending := none } } := by
  have hp : (releasedRuns s).period.closePending = some cause := by rw [releasedRuns_period, h]
  rw [releaseState_eq, takePending_of_some hp]

theorem release_of_some {s : State} {cause : CloseCause} (h : s.period.closePending = some cause) :
    (∀ i, (release s).shop i = closedShop (settledShop s i)) ∧ (release s).period.live = periodAfter s.period.live ∧
      definedShops (release s) = definedShops (releasedRuns s) ∧
      (release s).period = { s.period with
        closing := s.period.live, live := (release s).period.live, state := .closing, cursor := 0,
        roster := definedShops (releasedRuns s), closePending := none,
        countdown := if s.period.mode = .interval then s.period.interval * 60 else s.period.countdown,
        summaries := (if 8 ≤ (releasedSummaries s).length then (releasedSummaries s).tail else releasedSummaries s) ++
          [begunSummary cause (releasedRuns s)] } := by
  have hst := releaseState_of_some h
  have hper : (release s).period = { (takeClose cause (releasedRuns s)).period with closePending := none } := by
    rw [release_period, hst]
  have hlive : (release s).period.live = periodAfter s.period.live := by
    rw [hper, takeClose_period_eq, releasedRuns_period]
  have hshops : (release s).shops = (takeClose cause (releasedRuns s)).shops := by rw [release_shops, hst]
  refine ⟨fun i => ?_, hlive, ?_, ?_⟩
  · rw [shop_congr hshops, shop_takeClose, releasedRuns_shop]
  · rw [definedShops_congr hshops, definedShops_takeClose]
  · rw [hlive, hper, takeClose_period_eq, releasedRuns_period]

/-- 07 R135: the summary that a pending close begins. -/
theorem begunSummary_releasedRuns (cause : CloseCause) (s : State) :
    begunSummary cause (releasedRuns s) =
      { period := s.period.live, cause := cause, day := s.time.day, clock := s.time.clock, firstSeq := s.journal.next,
        rosterCount := (definedShops (releasedRuns s)).length, computation := none, release := none } := by
  have hp : (releasedRuns s).period.live = s.period.live := by rw [releasedRuns_period]
  obtain ⟨-, hj, -, -, -, ht⟩ := fields_of_blocks (releasedRuns_frame s)
  rw [begunSummary, hp, ht, hj]

/-- Settles O46. -/
theorem releaseBringsCarryForward : Obligations.ReleaseBringsCarryForward := by
  unfold Obligations.ReleaseBringsCarryForward
  refine ⟨releaseHolds_iff, fun s ht _ => ?_⟩
  obtain ⟨-, -, -, hshops, -⟩ := ht
  have hr : tableRising s.shops = true := ((tableCanonical_iff _ _).1 hshops).1
  have hsum : releasedSummaries s = s.period.summaries.map (fun m => if m.period = s.period.closing then
      { m with release := some (releasePart s) } else m) := rfl
  rw [releasePart_eq] at hsum
  have hlinks := release_links s
  rw [releaseNews_eq hr (tableRising_releaseShops hshops)] at hlinks
  have hjournal := release_journal s
  have hcards := release_cards s
  have hblocks := blocks_of_eq (release_blocks s)
  have hchannel := fun n (hn : n < 4) => release_channel s hn
  have hnone := release_of_none (s := s)
  have hsome := fun cause => release_of_some (s := s) (cause := cause)
  rw [← hsum]
  generalize release s = t at hlinks hjournal hcards hblocks hchannel hnone hsome ⊢
  refine ⟨hjournal, hcards, hblocks, hchannel, hlinks, hnone, fun cause hc => ?_⟩
  obtain ⟨hshop, hlive, hroster, hper⟩ := hsome cause hc
  refine ⟨fun i => ?_, fun hlt => hlive.trans (periodAfter_of_lt hlt), ?_⟩
  · exact (hshop i).trans (closedShop_settledShop s i)
  · rw [begunSummary_releasedRuns, ← hroster] at hper
    exact hper

end Sys2Proof.Proofs.Releasing
end

section
/-! The requests that test the release condition. -/

namespace Sys2Proof.Proofs.Tested

open Sys2Proof Sys2Proof.Machine Sys2Proof.Laws Sys2Proof.Proofs.Links Sys2Proof.Proofs.Basics Sys2Proof.Proofs.Bounds
  Sys2Proof.Proofs.Steps Sys2Proof.Proofs.Rules Sys2Proof.Proofs.Requests Sys2Proof.Proofs.Replies Sys2Proof.Proofs.Entries
  Sys2Proof.Proofs.Trade Sys2Proof.Proofs.ShopWork Sys2Proof.Proofs.PeriodWork Sys2Proof.Proofs.ChannelWork
  Sys2Proof.Proofs.Offers Sys2Proof.Proofs.Releasing

/-! ## A request that tests the release condition -/

theorem release_begun (l : Link) (kind tag : Nat) (s : State) :
    release (begun l kind tag s) = giveNotices (releaseNews s) (begun l kind tag (releaseState s)) := by
  rw [release_told, notifies_release.news.begun, notifies_release.silent.carries.begun]

/-- 07 R137, 08 R152: what an effect that tests the release condition last makes of a request. -/
theorem carried_tested (l : Link) (kind tag : Nat) (P : State → State) (A : State → Answer) (s : State) :
    carried l kind tag (fun s => if releaseHolds (P s) then releaseState (P s) else P s)
      (fun s => if releaseHolds (P s) then releaseNews (P s) else []) A (fun s => (testRelease (P s)).2) s =
      repliedTested l kind tag (A s) (P s) := by
  unfold carried repliedTested
  dsimp only
  rw [testRelease_snd]
  by_cases h : releaseHolds (P s) = true
  · simp only [if_pos h, releasedNotice_eq, release_begun]
    rfl
  · simp only [if_neg h, giveNotices_nil, replied_begun]

theorem tested_passed {c : Instr} {cs : State → List Check} {e : State → Done} {P : State → State} {A : State → Answer}
    (he : Told e (fun s => if releaseHolds (P s) then releaseState (P s) else P s)
      (fun s => if releaseHolds (P s) then releaseNews (P s) else []) A (fun s => (testRelease (P s)).2))
    {s : State} (hr : ready (requestLink c) s = true) (hm : linkAndModeCheck (requestLink c) (requestFrame c).kind s = none)
    (hc : LinkFree (fun s => firstFailing (cs s))) (hp : firstFailing (cs s) = none) :
    takeRequest c (fun s => ruled (cs s) (e s) s) s =
      .next (repliedTested (requestLink c) (requestFrame c).kind (requestFrame c).tag (A s) (P s)) := by
  rw [he.passed hr hm hc hp, carried_tested]

/-! ## REMOVE_SHOP -/

theorem settledConditions_eq (s : State) (shop : Nat) :
    settledConditions s shop =
      [ decide ((s.shop shop).carry = 0), decide ((s.shop shop).live = zeroPosition),
        !s.placedHolds.any (fun e => e.2.shop = shop),
        !(List.range 16).any (fun p => (s.pool p).state ≠ .empty && (s.pool p).funder = some shop), closeAllows s (s.shop shop) ] := by
  unfold settledConditions
  simp only [List.not_any_eq_all_not, Config.poolCount, Bool.not_and, ← decide_not, not_not]

theorem closeAllows_iff (s : State) (x : Shop) :
    closeAllows s x = true ↔ s.period.state = .released ∨ (s.period.state = .settling ∧ x.result.computed = true ∧
      x.result.newCarry = 0 ∧ (x.payout.state = .none ∨ x.payout.state = .paid ∨ x.payout.state = .held)) := by
  simp [closeAllows, and_assoc, or_assoc]

theorem removeChecks_departed {s : State} {shop : Nat} (hok : shopOk shop = true) (hd : (s.shop shop).state = .departed) :
    firstFailing (removeChecks shop s) =
      require ((settledConditions s shop).all id) .notSettled [Fld.u8 ((settledConditions s shop).idxOf false)] := by
  have hdef : mustBeDefined s shop = none := mustBeDefined_none (by rw [hd]; decide)
  rw [removeChecks, shopChecks, require_true hok, hdef, require_true (by simpa using hd)]
  cases require ((settledConditions s shop).all id) .notSettled [Fld.u8 ((settledConditions s shop).idxOf false)] <;> rfl

/-- 06 R113: the first failing condition is named by its position. -/
theorem remove_unsettled {tag shop n : Nat} {s : State} (hr : ready .a s = true) (hs : storeValid s = true) (hok : shopOk shop = true)
    (hd : (s.shop shop).state = .departed) (hall : (settledConditions s shop).all id = false)
    (hn : (settledConditions s shop).idxOf false = n) :
    exec (.removeShop .a tag shop) s = .next (replied .a 0x43 tag ⟨.notSettled, [Fld.u8 n]⟩ s) :=
  refused (c := .removeShop .a tag shop) (cs := removeChecks shop) (e := removeEffect shop) hr (modeCheck_office hs rfl rfl)
    (fun _ _ _ => rfl) (by rw [removeChecks_departed hok hd, require_false hall, hn])

/-- Settles O39. -/
theorem removalNeedsASettledShop : Obligations.RemovalNeedsASettledShop := by
  unfold Obligations.RemovalNeedsASettledShop
  intro tag shop s hr hs hok x
  refine ⟨fun hdef hnot => ?_, fun hd => ?_⟩
  · refine refused (c := .removeShop .a tag shop) (cs := removeChecks shop) (e := removeEffect shop) hr (modeCheck_office hs rfl rfl)
      (fun _ _ _ => rfl) ?_
    rw [removeChecks, shopChecks, require_true hok, mustBeDefined_none hdef, require_false (by simpa using hnot)]
    rfl
  · intro live held funds settled refused
    have hcond : settledConditions s shop = [decide (x.carry = 0), live, !held, !funds, closeAllows s x] := settledConditions_eq s shop
    have hclose : closeAllows s x = true ↔ settled := closeAllows_iff s x
    have hnames : ∀ n, (settledConditions s shop).all id = false → (settledConditions s shop).idxOf false = n → refused n :=
      fun n => remove_unsettled hr hs hok hd
    rw [hcond] at hnames
    refine ⟨fun h0 => hnames 0 ?_ ?_, fun h0 h1 => hnames 1 ?_ ?_, fun h0 h1 h2 => hnames 2 ?_ ?_, fun h0 h1 h2 h3 => hnames 3 ?_ ?_,
      fun h0 h1 h2 h3 h4 => hnames 4 ?_ ?_, fun h0 h1 h2 h3 h4 => ?_⟩
    · simp [h0]
    · simp [h0]
    · simp [h0, h1]
    · simp [h0, h1]
    · simp [h0, h1, h2]
    · simp [h0, h1, h2]
    · simp [h0, h1, h2, h3]
    · simp [h0, h1, h2, h3]
    · simp [h0, h1, h2, h3, mt hclose.1 h4]
    · simp [h0, h1, h2, h3, mt hclose.1 h4]
    · refine (tested_passed (c := .removeShop .a tag shop) (cs := removeChecks shop) (told_remove shop) hr (modeCheck_office hs rfl rfl)
        (fun _ _ _ => rfl) ?_).trans ?_
      · rw [removeChecks_departed hok hd, hcond, require_true (by simp [h0, h1, h2, h3, hclose.2 h4])]
      · rfl

/-! ## Records deferred -/

theorem setPayoutStates_shop (is : List Nat) (x : PayoutState) (s : State) (i : Nat) :
    (setPayoutStates is x s).shop i =
      if i ∈ is then { s.shop i with payout := { (s.shop i).payout with state := x } } else s.shop i :=
  foldl_shop (g := fun s i => setPayoutState i x s) (f := fun _ y => { y with payout := { y.payout with state := x } })
    (fun _ _ => rfl) (fun s i j => by
      rw [setPayoutState, shop_setShop]
      split
      · next h => rw [h]
      · rfl) is s i

theorem setPayoutStates_frame (is : List Nat) (x : PayoutState) (s : State) :
    setPayoutStates is x s = { s with shops := (setPayoutStates is x s).shops } :=
  foldl_shops_frame (f := fun s i => setPayoutState i x s) (fun _ _ => rfl) is s

theorem mem_deferredShops {s : State} (ht : tableRising s.shops = true) (a : ChannelArg) (c : Channel) (i : Nat) :
    i ∈ deferredShops s a c ↔
      (s.shop i).payout.state = .due ∧ inRange i c.range = true ∧ (a.enabled = false ∨ inRange i a.range = false) := by
  simp only [deferredShops, List.mem_filter, mem_rangeIn ht (show PayoutState.due ≠ unusedShop.payout.state by decide),
    Bool.or_eq_true, Bool.not_eq_true', and_assoc]

theorem resetShops_eq (s : State) (c : Channel) : resetShops s c = (c.offer.map (fun o => o.shop)).toList ++ rangeIn s c .due := by
  unfold resetShops
  cases c.offer <;> rfl

theorem channelDeferred_frame (n : Nat) (a : ChannelArg) (s : State) :
    channelDeferred n a s = { s with
      channels := tableWrite idleChannel n (configured a (s.channel n)) s.channels, shops := (channelDeferred n a s).shops } :=
  setPayoutStates_frame _ _ (s.setChannel n (configured a (s.channel n)))

theorem channelReset_frame (n : Nat) (s : State) :
    channelReset n s = { s with
      channels := tableWrite idleChannel n
        (resetChannel (resetShops s (s.channel n)).length (payoutSum s (resetShops s (s.channel n))) (s.channel n)) s.channels
      shops := (channelReset n s).shops } := by
  unfold channelReset
  rw [setPayoutStates_frame]
  rfl

/-- Settles O48. -/
theorem disablingAndResettingDefer : Obligations.DisablingAndResettingDefer := by
  unfold Obligations.DisablingAndResettingDefer
  refine ⟨fun tag n a s hr hs hn => ?_, fun tag n s hr hs hn hform => ?_⟩
  · intro c hrange hcfg hidle hmeet hset hen hmove hform y
    have hd : defers s a c = true := (defers_iff s a c).2 ⟨hset, hen, hmove⟩
    obtain ⟨-, -, -, hshops, -⟩ := hform
    have ht : tableRising s.shops = true := ((tableCanonical_iff _ _).1 hshops).1
    have hfr := channelDeferred_frame n a s
    refine ⟨channelDeferred n a s, ?_, ?_, ?_, fun i => ?_⟩
    · have h := Told.passed (c := .setChannel .a tag n a) (cs := setChannelChecks n a) (told_setChannel n a) hr
        (modeCheck_office hs rfl rfl) (fun _ _ _ => rfl) (setChannelChecks_pass hn hrange hcfg (.inr hidle) hmeet)
      have hc := carried_tested .a 0x58 tag (channelDeferred n a) (channelAnswer n a) s
      unfold carried at h hc
      simp only [show defers s a (s.channel n) = true from hd, if_true] at h hc
      refine h.trans (congrArg _ (hc.trans ?_))
      rw [channelAnswer, channelConfigFlds_eq]
      rfl
    · rw [hfr]
      rfl
    · rw [hfr]
    · refine (setPayoutStates_shop _ _ _ i).trans (if_congr (mem_deferredShops ht a c i) rfl rfl)
  · intro c due is sum
    have his : resetShops s c = is := resetShops_eq s c
    have hsum : payoutSum s is = sum := rfl
    have hfr := channelReset_frame n s
    rw [show resetShops s (s.channel n) = is from his, hsum] at hfr
    refine ⟨channelReset n s, ?_, ?_, fun i => ?_, ?_⟩
    · have h := tested_passed (c := .resetChannel .a tag n) (cs := fun _ => [require (channelOk n) .badField]) (told_reset n) hr
        (modeCheck_office hs rfl rfl) (fun _ _ _ => rfl) (by rw [channelOk_none hn]; rfl)
      rw [resetAnswer, show resetShops s (s.channel n) = is from his, hsum] at h
      exact h
    · rw [hfr]
      rfl
    · rw [← his]
      exact setPayoutStates_shop _ _ _ i
    · rw [hfr]

/-! ## PAYOUT_RESULT -/

theorem offerNamed_iff (c : Channel) (serial : Nat) (o : Offer) :
    offerNamed c serial = some o ↔ c.offer = some o ∧ o.queued = true ∧ o.serial = serial ∧
      (c.state = .offerWait ∨ c.state = .suspended ∨ c.state = .fault) := by
  unfold offerNamed
  split
  · next h =>
    have hst : c.state = .offerWait ∨ c.state = .suspended ∨ c.state = .fault := by simpa [or_assoc] using h
    simp [Option.filter_eq_some_iff, hst]
  · next h =>
    have hst : ¬(c.state = .offerWait ∨ c.state = .suspended ∨ c.state = .fault) := by simpa [or_assoc] using h
    simp [hst]

theorem uncertainShop_some {s : State} (ht : tableRising s.shops = true) {serial i : Nat} (h : uncertainShop s serial = some i) :
    (s.shop i).payout.state = .uncertain ∧ (s.shop i).payout.serial = serial := by
  obtain ⟨e, he, rfl⟩ := Option.map_eq_some_iff.1 h
  rw [shop_of_mem ht (List.mem_of_find?_eq_some he)]
  simpa using List.find?_some he

theorem uncertainShop_isSome {s : State} {serial i : Nat} (hu : (s.shop i).payout.state = .uncertain)
    (hi : (s.shop i).payout.serial = serial) : (uncertainShop s serial).isSome = true := by
  have hm : (i, s.shop i) ∈ s.shops := mem_shops fun h => absurd (h ▸ hu) (by decide)
  unfold uncertainShop
  rw [Option.isSome_map, List.find?_isSome]
  exact ⟨_, hm, by simp [hu, hi]⟩

theorem staleFlds_eq (s : State) (serial : Nat) :
    staleFlds s serial = [Fld.u32 serial] ++
      (match s.period.roster.find? (fun i => (s.shop i).payout.serial = serial) with
        | none => [Fld.flag false, .flag false]
        | some i => [Fld.flag true, .u16 i, .flag true,
            .u8 ([PayoutState.none, .due, .offered, .uncertain, .paid, .failed, .deferred, .held].idxOf (s.shop i).payout.state)]) := by
  unfold staleFlds
  cases s.period.roster.find? (fun i => (s.shop i).payout.serial = serial) with
  | none => rfl
  | some i => simp only [Option.map_some, payoutStateCode_eq]; rfl

/-- 08 R152: a result that concerns a shop. -/
theorem result_resolved {tag n serial code i : Nat} {y : PayoutState} {s : State} (hr : ready .a s = true) (hs : storeValid s = true)
    (hn : n < 4) (h0 : serial ≠ 0) (hy : outcomeOf code = some y) (hi : resultShop s n serial = some i) :
    exec (.payoutResult .a tag n serial code) s = .next (repliedTested .a 0x5A tag
      ⟨.ok, [Fld.u16 i, .u64 (s.shop i).payout.amount, .u8 (payoutStateCode y), .flag (releaseHolds (resolved n serial i y s))]⟩
      (resolved n serial i y s)) := by
  have hchk : firstFailing (resultChecks n serial code s) = none := by
    rw [resultChecks, require_true (by simpa [channelOk, Config.channelCount, hy] using ⟨hn, h0⟩), require_true (by rw [hi]; rfl)]
    rfl
  have h := tested_passed (c := .payoutResult .a tag n serial code) (cs := resultChecks n serial code) (told_result n serial code) hr
    (modeCheck_office hs rfl rfl) (fun _ _ _ => rfl) hchk
  rw [resultAnswer, resultRecorded, hi, hy] at h
  exact h

/-- Settles O50. -/
theorem resultsResolveOffers : Obligations.ResultsResolveOffers := by
  unfold Obligations.ResultsResolveOffers
  intro tag n serial code y s hr hs hn h0 hcode c matched resolvedShops answer
  have hy : outcomeOf code = some y := by
    obtain h | h | h := hcode <;> obtain ⟨rfl, rfl⟩ := Prod.mk.injEq .. ▸ h <;> rfl
  have hnamed : ∀ o, offerNamed c serial = some o ↔ matched o := offerNamed_iff c serial
  have hanswer : ∀ i u, resultShop s n serial = some i → resolved n serial i y s = u → answer i u := by
    rintro i _ hi rfl
    have h := result_resolved (tag := tag) hr hs hn h0 hy hi
    rwa [payoutStateCode_eq] at h
  have hunmatched : (∀ o, ¬matched o) → offerNamed (s.channel n) serial = none := fun hno =>
    Option.eq_none_iff_forall_ne_some.2 fun o h => hno o ((hnamed o).1 h)
  refine ⟨fun o ho => ?_, fun i hno hform hu hser huniq => ?_, fun hno hnone hform => ?_⟩
  · intro a
    have hso : offerNamed (s.channel n) serial = some o := (hnamed o).2 ho
    refine hanswer _ _ (by rw [resultShop, hso]) ?_
    rw [resolved, hso]
    obtain h | h | h := hcode <;> obtain ⟨rfl, rfl⟩ := Prod.mk.injEq .. ▸ h <;> rfl
  · obtain ⟨-, -, -, hshops, -⟩ := hform
    have ht : tableRising s.shops = true := ((tableCanonical_iff _ _).1 hshops).1
    obtain ⟨k, hk⟩ := Option.isSome_iff_exists.1 (uncertainShop_isSome hu hser)
    obtain ⟨hku, hkser⟩ := uncertainShop_some ht hk
    rw [huniq k hku hkser] at hk
    refine hanswer _ _ (by rw [resultShop, hunmatched hno, hk]) ?_
    rw [resolved, hunmatched hno]
    rfl
  · obtain ⟨-, -, -, hshops, -⟩ := hform
    have ht : tableRising s.shops = true := ((tableCanonical_iff _ _).1 hshops).1
    have hshop : resultShop s n serial = none := by
      rw [resultShop, hunmatched hno]
      exact Option.eq_none_iff_forall_ne_some.2 fun k hk =>
        hnone k (uncertainShop_some ht hk).1 (uncertainShop_some ht hk).2
    refine refused (c := .payoutResult .a tag n serial code) (cs := resultChecks n serial code) (e := resultEffect n serial code) hr
      (modeCheck_office hs rfl rfl) (fun _ _ _ => rfl) ?_
    rw [resultChecks, require_true (by simpa [channelOk, Config.channelCount, hy] using ⟨hn, h0⟩), require_false (by rw [hshop]; rfl),
      staleFlds_eq]
    rfl

end Sys2Proof.Proofs.Tested
end

section
/-! The end of the close computation. -/

namespace Sys2Proof.Proofs.Settling

open Sys2Proof Sys2Proof.Machine Sys2Proof.Laws Sys2Proof.Proofs.Links Sys2Proof.Proofs.Basics Sys2Proof.Proofs.Bounds
  Sys2Proof.Proofs.Steps Sys2Proof.Proofs.Engine Sys2Proof.Proofs.PeriodWork Sys2Proof.Proofs.Releasing

/-! ## The formulas of the close, as the statement writes them -/

theorem exactFee_eq (p : Position) (c : Schedule) :
    exactFee p c = (roundHalfEven ((max ((p.redeemedBase - p.refundedBase) + (p.redeemedPromo - p.refundedPromo)) 0).toNat *
      c.redemptionRate) 1000000 : Int) + p.count * c.fixedFee := by
  rw [max_toNat]
  simp [exactFee, netTaken]

theorem exactCommission_eq (p : Position) (c : Schedule) :
    exactCommission p c = (roundHalfEven ((max (p.sold - p.voided) 0).toNat * c.commissionRate) 1000000 : Int) := by
  rw [max_toNat]
  rfl

/-- 07 R134: a shop held by a clamp or by a saturated position. -/
def heldFigures (x : Shop) : Bool := x.closing.saturated || clampActs x

theorem clampActs_eq (x : Shop) :
    clampActs x = (!withinLimit (exactFee x.closing x.closingSchedule) || !withinLimit (exactCommission x.closing x.closingSchedule) ||
      !withinLimit (exactNet x)) := by
  rw [clampActs, Bool.not_and, Bool.not_and]

/-! ## The payout records -/

theorem assignPayouts_frame (s : State) : assignPayouts s = { s with shops := (assignPayouts s).shops } :=
  foldl_shops_frame (f := fun t i => t.setShop i { t.shop i with payout := assignedPayout s i (t.shop i) }) (fun _ _ => rfl) _ s

theorem assignPayouts_shop (s : State) (i : Nat) :
    (assignPayouts s).shop i =
      if i ∈ s.period.roster then { s.shop i with payout := assignedPayout s i (s.shop i) } else s.shop i :=
  foldl_shop (g := fun t i => t.setShop i { t.shop i with payout := assignedPayout s i (t.shop i) })
    (f := fun i x => { x with payout := assignedPayout s i x }) (fun _ _ => rfl) (fun t i j => by
      rw [shop_setShop]
      split
      · next h => rw [h]
      · rfl) _ s i

theorem assignPayouts_period (s : State) : (assignPayouts s).period = s.period := by rw [assignPayouts_frame]

/-- 07 R134: the records that the table assigns. -/
theorem assignedPayout_states (s : State) (i : Nat) (x : Shop) :
    (assignedPayout s i x).state = .held ∨ (assignedPayout s i x).state = .due ∨ (assignedPayout s i x).state = .deferred ∨
      (assignedPayout s i x).state = .none := by
  unfold assignedPayout
  split
  · exact .inl rfl
  · split
    · dsimp only
      cases served s i
      · exact .inr (.inr (.inl rfl))
      · exact .inr (.inl rfl)
    · exact .inr (.inr (.inr rfl))

/-! ## The computation part of the summary -/

theorem rosterCount_congr {s t : State} (hs : t.shops = s.shops) (hr : t.period.roster = s.period.roster) (x : PayoutState) :
    rosterCount t x = rosterCount s x := by
  unfold rosterCount
  rw [hr]
  simp only [shop_congr hs]

theorem rosterTotal_congr {s t : State} (hs : t.shops = s.shops) (hr : t.period.roster = s.period.roster) (x : PayoutState) :
    rosterTotal t x = rosterTotal s x := by
  unfold rosterTotal
  rw [hr]
  simp only [shop_congr hs]

/-- The assignment of the payout records leaves a sum over the roster that does not read them. -/
theorem rosterSum_assignPayouts (s : State) {f : Shop → Int} (hf : ∀ x p, f { x with payout := p } = f x) :
    rosterSum (assignPayouts s) f = (s.period.roster.map (fun i => f (s.shop i))).sum := by
  unfold rosterSum
  rw [assignPayouts_period]
  exact congrArg List.sum (List.map_congr_left fun i hi => by rw [assignPayouts_shop, if_pos hi, hf])

/-- The same for a count. -/
theorem countP_assignPayouts (s : State) {f : Shop → Bool} (hf : ∀ x p, f { x with payout := p } = f x) :
    (assignPayouts s).period.roster.countP (fun i => f ((assignPayouts s).shop i)) =
      s.period.roster.countP (fun i => f (s.shop i)) := by
  rw [assignPayouts_period]
  exact List.countP_congr fun i hi => by rw [assignPayouts_shop, if_pos hi, hf]

/-- 07 R135: the computation part, by the figures of the shops before the assignment and the records after it. -/
theorem computationPart_assigned {s u : State} (hs : u.shops = (assignPayouts s).shops) (hr : u.period.roster = s.period.roster) :
    computationPart (assignPayouts s) =
      let sum := fun f : Shop → Int => (s.period.roster.map (fun i => f (s.shop i))).sum
      { day := s.time.day
        clock := s.time.clock
        sumS := sum (fun x => x.closing.sold - x.closing.voided)
        sumB := sum (fun x => (x.closing.redeemedBase - x.closing.refundedBase) + (x.closing.redeemedPromo - x.closing.refundedPromo))
        sumF := sum (fun x => x.result.fee)
        sumK := sum (fun x => x.result.commission)
        sumP := sum (fun x => x.closing.sponsor)
        sumC := sum (fun x => x.carry)
        sumT := sum (fun x => x.result.net)
        noneCount := rosterCount u .none
        dueCount := rosterCount u .due
        deferredCount := rosterCount u .deferred
        heldCount := rosterCount u .held
        dueTotal := rosterTotal u .due
        deferredTotal := rosterTotal u .deferred
        heldShops := s.period.roster.countP (fun i => (s.shop i).result.held)
        heldByClamp := s.period.roster.countP (fun i => (s.shop i).result.held && heldFigures (s.shop i)) } := by
  have hr' : u.period.roster = (assignPayouts s).period.roster := by rw [assignPayouts_period, hr]
  have htime : (assignPayouts s).time = s.time := by rw [assignPayouts_frame]
  have hheld := countP_assignPayouts s (f := fun x => x.result.held) fun _ _ => rfl
  have hclamp := countP_assignPayouts s (f := fun x => x.result.held && heldFigures x) fun _ _ => rfl
  have hclamp' : heldByClamp (assignPayouts s) = s.period.roster.countP (fun i => (s.shop i).result.held && heldFigures (s.shop i)) :=
    hclamp
  unfold computationPart
  simp only [htime, rosterSum_assignPayouts s (f := fun x => netSold x.closing) fun _ _ => rfl,
    rosterSum_assignPayouts s (f := fun x => netTaken x.closing) fun _ _ => rfl,
    rosterSum_assignPayouts s (f := fun x => x.result.fee) fun _ _ => rfl,
    rosterSum_assignPayouts s (f := fun x => x.result.commission) fun _ _ => rfl,
    rosterSum_assignPayouts s (f := fun x => x.closing.sponsor) fun _ _ => rfl,
    rosterSum_assignPayouts s (f := fun x => x.carry) fun _ _ => rfl,
    rosterSum_assignPayouts s (f := fun x => x.result.net) fun _ _ => rfl, rosterIn_length, rosterTotal_eq, hheld, hclamp',
    rosterCount_congr hs hr', rosterTotal_congr hs hr']
  rfl

/-! ## The channels -/

/-- 08 R146: the cursors, and the runs that begin. -/
theorem startCursors_frame (s : State) : startCursors s = { s with channels := (startCursors s).channels } :=
  foldl_channels_frame (f := fun s n =>
    let c := s.channel n
    if c.offer.isSome then s else s.setChannel n { c with cursor := none }) (fun s n => by dsimp only; split <;> rfl) _ s

theorem startCursors_channel (s : State) {n : Nat} (hn : n < 4) (ho : (s.channel n).offer = none) :
    (startCursors s).channel n = { s.channel n with cursor := none } := by
  have h := foldl_channel (g := fun s n =>
      let c := s.channel n
      if c.offer.isSome then s else s.setChannel n { c with cursor := none })
    (f := fun c => if c.offer.isSome then c else { c with cursor := none }) (fun c => by cases hc : c.offer <;> simp [hc])
    (fun s i j => by
      dsimp only
      by_cases hj : j = i
      · subst hj
        rw [if_pos rfl]
        split
        · rfl
        · rw [channel_setChannel_same]
      · rw [if_neg hj]
        split
        · rfl
        · rw [channel_setChannel, if_neg hj]) (List.range Config.channelCount) s n
  rw [if_pos (List.mem_range.2 hn), if_neg (by simp [ho])] at h
  exact h

theorem autoStart_frame (s : State) : autoStart s = { s with channels := (autoStart s).channels } :=
  foldl_channels_frame (f := fun s n =>
    let c := s.channel n
    if c.enabled && c.autoStart && c.state = .idle then s.setChannel n (beginRun c) else s) (fun s n => by dsimp only; split <;> rfl) _ s

theorem autoStart_channel (s : State) {n : Nat} (hn : n < 4) :
    (autoStart s).channel n =
      if (s.channel n).enabled && (s.channel n).autoStart && (s.channel n).state = .idle then beginRun (s.channel n) else s.channel n := by
  have h := foldl_channel (g := fun s n =>
      let c := s.channel n
      if c.enabled && c.autoStart && c.state = .idle then s.setChannel n (beginRun c) else s)
    (f := fun c => if c.enabled && c.autoStart && c.state = .idle then beginRun c else c) (fun c => by
      split
      · simp [beginRun]
      · rfl)
    (fun s i j => by
      dsimp only
      by_cases hj : j = i
      · subst hj
        rw [if_pos rfl]
        split
        · rw [channel_setChannel_same]
        · rfl
      · rw [if_neg hj]
        split
        · rw [channel_setChannel, if_neg hj]
        · rfl) (List.range Config.channelCount) s n
  rw [if_pos (List.mem_range.2 hn)] at h
  exact h

/-! ## The end of the computation -/

/-- 07 R134: the end of the computation up to CLOSE_DONE, that notice given. -/
def closeDoneGiven (s : State) : State :=
  giveNotice (closeDoneNotice (assignedBlocks s) (computationPart (assignPayouts s))) (assignedBlocks s)

/-- A state that is told up to the channels by one told up to other blocks. -/
theorem blocks_of_channels {s t u : State} {shops : Table Shop} {channels : Table Channel} {period : PeriodController}
    (h : t = { u with channels := channels }) (hu : u = { s with shops := shops, period := period }) :
    t = { s with shops := shops, channels := channels, period := period } := by
  subst hu
  exact h

theorem assignedBlocks_frame (s : State) :
    assignedBlocks s = { s with
      shops := (assignPayouts s).shops
      channels := (assignedBlocks s).channels
      period := settledPeriod (computationPart (assignPayouts s)) s.period } := by
  have hp := congrArg (fun t : State => { t with period := settledPeriod (computationPart (assignPayouts s)) (assignPayouts s).period })
    (assignPayouts_frame s)
  rw [← assignPayouts_period s]
  exact blocks_of_channels (startCursors_frame _) hp

theorem assignedBlocks_channel (s : State) {n : Nat} (hn : n < 4) (ho : (s.channel n).offer = none) :
    (assignedBlocks s).channel n = { s.channel n with cursor := none } := by
  have hc : ∀ p, ({ assignPayouts s with period := p } : State).channel n = s.channel n := fun p =>
    channel_congr (by rw [assignPayouts_frame]) n
  unfold assignedBlocks
  rw [startCursors_channel _ hn (by rw [hc]; exact ho), hc]

/-- A notice on a state that is told by another up to blocks that no notice reads. -/
theorem giveNotice_of_blocks {s t : State} {shops : Table Shop} {channels : Table Channel} {period : PeriodController}
    (h : t = { s with shops := shops, channels := channels, period := period }) (n : Notice) :
    giveNotice n t = { s with
      shops := shops, channels := channels, period := period, tLink := (giveNotice n s).tLink, aLink := (giveNotice n s).aLink } := by
  subst h
  rw [giveNotice_eq, giveNotice_eq]
  rfl

theorem closeDoneGiven_frame (s : State) :
    closeDoneGiven s = { s with
      shops := (assignPayouts s).shops
      channels := (assignedBlocks s).channels
      period := settledPeriod (computationPart (assignPayouts s)) s.period
      tLink := (giveNotice (closeDoneNotice (assignedBlocks s) (computationPart (assignPayouts s))) s).tLink
      aLink := (giveNotice (closeDoneNotice (assignedBlocks s) (computationPart (assignPayouts s))) s).aLink } :=
  giveNotice_of_blocks (assignedBlocks_frame s) _

/-- The blocks of a state that is told by another. -/
theorem fields_of_given {s t : State} {shops : Table Shop} {channels : Table Channel} {period : PeriodController} {k k' : LinkState}
    (h : t = { s with shops := shops, channels := channels, period := period, tLink := k, aLink := k' }) :
    t.shops = shops ∧ t.channels = channels ∧ t.period = period ∧ t.tLink = k ∧ t.aLink = k' ∧
      t = { s with shops := t.shops, channels := t.channels, period := t.period, tLink := t.tLink, aLink := t.aLink } := by
  subst h
  exact ⟨rfl, rfl, rfl, rfl, rfl, rfl⟩

/-- The roster shops at CLOSE_DONE: each has its record. -/
theorem closeDoneGiven_shop (s : State) (i : Nat) :
    (closeDoneGiven s).shop i =
      if i ∈ s.period.roster then { s.shop i with payout := assignedPayout s i (s.shop i) } else s.shop i := by
  obtain ⟨h, -⟩ := fields_of_given (closeDoneGiven_frame s)
  rw [shop_congr h, assignPayouts_shop]

/-- 07 R137: with no record DUE the release condition holds. -/
theorem releaseHolds_closeDoneGiven {s : State} (h : rosterCount (closeDoneGiven s) .due = 0) : releaseHolds (closeDoneGiven s) = true := by
  obtain ⟨-, -, hper, -⟩ := fields_of_given (closeDoneGiven_frame s)
  have hroster : (closeDoneGiven s).period.roster = s.period.roster := by rw [hper]; rfl
  refine (releaseHolds_iff _).2 ⟨by rw [hper]; rfl, fun i hi => ?_⟩
  have hdue : ((closeDoneGiven s).shop i).payout.state ≠ .due := by
    have := List.countP_eq_zero.1 h i hi
    simpa using this
  rw [hroster] at hi
  rw [closeDoneGiven_shop, if_pos hi] at hdue ⊢
  obtain h | h | h | h := assignedPayout_states s i (s.shop i)
  · exact ⟨hdue, by rw [h]; decide, by rw [h]; decide⟩
  · exact absurd h hdue
  · exact ⟨hdue, by rw [h]; decide, by rw [h]; decide⟩
  · exact ⟨hdue, by rw [h]; decide, by rw [h]; decide⟩

/-- 07 R137: a record that is DUE keeps the release from being made. -/
theorem releaseHolds_of_due {s : State} (h : rosterCount s .due ≠ 0) : releaseHolds s = false := by
  rw [Bool.eq_false_iff, ne_eq, releaseHolds_iff]
  rintro ⟨-, hall⟩
  obtain ⟨i, hi, hdue⟩ := List.countP_pos_iff.1 (Nat.pos_of_ne_zero h)
  exact (hall i hi).1 (by simpa using hdue)

theorem computationEnded_of_due (s : State) :
    computationEnded s =
      if (computationPart (assignPayouts s)).dueCount ≠ 0 then autoStart (closeDoneGiven s) else closeDoneGiven s := rfl

/-- 07 R137: an event that tests the release condition last. -/
theorem tested_of_holds {u : State} (h : releaseHolds u = true) :
    giveNotices (testRelease u).2 (testRelease u).1 = giveNotice (periodReleased u) (release u) := by
  rw [testRelease_fst, testRelease_snd, if_pos h, if_pos h, releasedNotice_eq, giveNotices_cons, giveNotices_nil]

theorem tested_of_not {u : State} (h : releaseHolds u = false) : giveNotices (testRelease u).2 (testRelease u).1 = u := by
  rw [testRelease_fst, testRelease_snd, h]
  rfl

theorem endComputation_of_end {s : State} (hst : s.period.state = .closing) (hm : s.ctrl.mode = .opened) (hn : nextToCompute s = none) :
    endComputation s = giveNotices (testRelease (computationEnded s)).2 (testRelease (computationEnded s)).1 := by
  rw [endComputation_eq, if_pos (by simp [walkAdvances, hst, hm, hn])]

/-- Settles O45. -/
theorem computationEndAssignsPayouts : Obligations.ComputationEndAssignsPayouts := by
  unfold Obligations.ComputationEndAssignsPayouts
  intro s hp hq hst hm hnone hoff within sum passes byClamp
  have hclamp : ∀ x, byClamp x = heldFigures x := fun x => by
    simp only [heldFigures, clampActs_eq, exactFee_eq, exactCommission_eq, exactNet, netTaken, netSold, clampMoney_eq, ← Bool.or_assoc]
    rfl
  obtain ⟨hshops, hchannels, hper, htl, hal, hframe⟩ := fields_of_given (closeDoneGiven_frame s)
  have hroster : (closeDoneGiven s).period.roster = s.period.roster := by rw [hper]; rfl
  have hpart := computationPart_assigned (s := s) hshops hroster
  have hexec : exec .closeComputationEnd s = .next (giveNotices (testRelease (computationEnded s)).2 (testRelease (computationEnded s)).1) := by
    rw [← endComputation_of_end hst hm hnone]
    exact event_quiet hp hq
  have hdue : (computationPart (assignPayouts s)).dueCount = rosterCount (closeDoneGiven s) .due := by rw [hpart]
  have hnotice : ∀ c, closeDoneNotice (assignedBlocks s) c = closeDoneNotice s c := fun c => by
    rw [assignedBlocks_frame]
    rfl
  simp only [hclamp]
  rw [hnotice] at htl hal
  refine ⟨closeDoneGiven s, fun i hi => ?_, fun i hi => ?_, fun n hn => ?_, ?_, ⟨?_, ?_⟩, hframe, fun h0 => ?_, fun h0 => ?_⟩
  · rw [closeDoneGiven_shop, if_neg hi]
  · rw [closeDoneGiven_shop, if_pos hi]
    rfl
  · rw [channel_congr hchannels, assignedBlocks_channel s hn (hoff n hn)]
  · rw [hper, hpart]
    rfl
  · rw [htl, hpart]
    rfl
  · rw [hal, hpart]
    rfl
  · have hc : computationEnded s = closeDoneGiven s := by
      rw [computationEnded_of_due, if_neg (by rw [hdue]; exact fun h => h h0)]
    have hh := releaseHolds_closeDoneGiven h0
    exact ⟨hh, by rw [hexec, hc, tested_of_holds hh]⟩
  · have hc : computationEnded s = autoStart (closeDoneGiven s) := by rw [computationEnded_of_due, if_pos (by rw [hdue]; exact h0)]
    have hfr := autoStart_frame (closeDoneGiven s)
    have hh : releaseHolds (autoStart (closeDoneGiven s)) = false := releaseHolds_of_due (by
      rw [rosterCount_congr (s := closeDoneGiven s) (by rw [hfr]) (by rw [hfr])]
      exact h0)
    refine ⟨autoStart (closeDoneGiven s), ?_, hfr, fun n hn => ?_⟩
    · rw [hexec, hc, tested_of_not hh]
    · rw [autoStart_channel _ hn]
      exact if_congr (by simp [and_assoc]) rfl rfl

end Sys2Proof.Proofs.Settling
end

section
/-! STORE_INITIALISE, RESTART, the loss of power and the power-on. -/

namespace Sys2Proof.Proofs.Restarting

open Sys2Proof Sys2Proof.Machine Sys2Proof.Laws Sys2Proof.Proofs.Links Sys2Proof.Proofs.Basics Sys2Proof.Proofs.Bounds
  Sys2Proof.Proofs.Steps Sys2Proof.Proofs.Trade Sys2Proof.Proofs.Releasing

/-! ## The channels' runs cleared -/

theorem clearRuns_channel (s : State) {n : Nat} (hn : n < 4) : (clearRuns s).channel n = clearRun (s.channel n) := by
  have h := foldl_channel (g := fun s n => s.setChannel n (clearRun (s.channel n))) (f := clearRun) (fun _ => rfl) (fun s i j => by
    rw [channel_setChannel]
    split
    · next h => rw [h]
    · rfl) (List.range Config.channelCount) s n
  rw [if_pos (List.mem_range.2 hn)] at h
  exact h

/-! ## STORE_INITIALISE -/

/-- 10 R177: the state in which STORE_INITIALISE clears the runs. -/
def initialiseBegun (tag : Nat) (s : State) : State :=
  { begun .a 0x75 tag s with
    ctrl := { s.ctrl with formatMark := false, store := .blank, initInFlight := true }
    time := { s.time with timeSet := false, rolloverDue := false, handed := [] }
    sweep := idleSweep }

theorem exec_storeInitialise {tag : Nat} {s : State} (hr : ready .a s = true) (hi : s.ctrl.initInFlight = false)
    (hm : s.ctrl.mode = .config) : exec (.storeInitialise .a tag) s = .next (clearRuns (initialiseBegun tag s)) := by
  have hchk : linkAndModeCheck .a 0x75 (begun .a 0x75 tag s) = none :=
    (modeCheck_none .a 0x75 _).2 ⟨.inl rfl, hi, .inr rfl, .inr rfl, .inl hm⟩
  exact (takeRequest_ready (c := .storeInitialise .a tag) hr).trans (congrArg _ (carryOut_pass (c := .storeInitialise .a tag) hchk))

/-- 10 R176: the blocks as at reset; the clock, the links and Mode Control are not among them. -/
theorem initialBlocks_eq {s : State} (hp : s.power = true) :
    initialBlocks s = { State.reset with
      pending := s.pending, ctrl := s.ctrl, tLink := s.tLink, aLink := s.aLink
      time := { s.time with
        timeSet := false, day := 0, rolloverSecond := 14400, trading := false, rolloverDue := false, handed := [] } } := by
  unfold initialBlocks
  rw [hp]
  rfl

/-- 10 R178: the completion of STORE_INITIALISE, its reply in the emptied queue. -/
theorem initialiseDone_eq {tag : Nat} {s : State} (hi : s.ctrl.initInFlight = true)
    (hb : s.aLink.busy = some { kind := 0x75, tag := tag, discard := false }) :
    initialiseDone s = { initialBlocks s with
      ctrl := { mode := .config, store := .valid, initInFlight := false, lastRestart := .initialise, formatMark := true,
                draining := false }
      tLink := emptiedLink s.tLink
      aLink := { emptiedLink s.aLink with tx := [.reply 0xF5 tag .ok clearMarks []] } } := by
  unfold initialiseDone
  rw [if_pos hi]
  dsimp only
  rw [hb]
  rfl

/-- Settles O59. -/
theorem initialiseAndRestartAreTaken : Obligations.InitialiseAndRestartAreTaken := by
  unfold Obligations.InitialiseAndRestartAreTaken
  refine ⟨fun tag s hr hi => ⟨fun hm => ?_, fun hv => ?_⟩, fun tag s hp hq hi hb => ?_⟩
  · refine ⟨_, exec_storeInitialise hr hi hm, ?_⟩
    have hfr := clearRuns_frame (initialiseBegun tag s)
    have hch := fun n (hn : n < 4) => clearRuns_channel (initialiseBegun tag s) hn
    generalize clearRuns (initialiseBegun tag s) = t at hfr hch ⊢
    rw [hfr]
    exact ⟨rfl, rfl, rfl, fun n hn => hch n hn, rfl, rfl⟩
  · exact request_replies (c := .restart .a tag) (rule := restartRule) hr
      (modeCheck_office (by simp [storeValid, hv, hi]) rfl rfl) rfl
  · refine ⟨_, event_quiet hp hq, ?_⟩
    rw [initialiseDone_eq hi hb, initialBlocks_eq hp]
    exact ⟨rfl, rfl, rfl, rfl, rfl, rfl, rfl, rfl, rfl, rfl, rfl, rfl, rfl, surplus_reset⟩

end Sys2Proof.Proofs.Restarting
end

section
/-! The holds that a restart releases (02 R46), all of them together. -/

namespace Sys2Proof.Proofs.Returned

open Sys2Proof Sys2Proof.Machine Sys2Proof.Laws Sys2Proof.Proofs.Basics Sys2Proof.Proofs.Buckets Sys2Proof.Proofs.Bounds
  Sys2Proof.Proofs.Steps Sys2Proof.Proofs.Value Sys2Proof.Proofs.Amounts Sys2Proof.Proofs.Records Sys2Proof.Proofs.Ends
  Sys2Proof.Proofs.Balance Sys2Proof.Proofs.Trade Sys2Proof.Proofs.Holding

/-! ## Amounts and pending expiry of one hold -/

/-- 01 R7: the buckets that go are empty, so that no amount changes. -/
theorem amountAt_tidy (p d : Nat) (held : List PromoPart) (bs : List Bucket) : amountAt p d (tidy held bs) = amountAt p d bs := by
  rw [amountAt_eq, amountAt_eq]
  unfold tidy
  rw [List.filter_comm]
  exact bucketSum_tidy held _

theorem partsAt_append (p d : Nat) (xs ys : List PromoPart) : partsAt p d (xs ++ ys) = partsAt p d xs + partsAt p d ys := by
  unfold partsAt
  rw [List.filter_append, List.map_append, List.sum_append]

theorem pendingFrom_append (s : State) (p : Nat) (xs ys : List PromoPart) :
    pendingFrom s p (xs ++ ys) = pendingFrom s p xs + pendingFrom s p ys := by
  unfold pendingFrom
  rw [List.filter_append, List.map_append, List.sum_append]

theorem pendingFrom_congr {s t : State} (hd : t.time.day = s.time.day) (hp : ∀ p, (t.pool p).state = (s.pool p).state) (p : Nat)
    (xs : List PromoPart) : pendingFrom t p xs = pendingFrom s p xs := by
  unfold pendingFrom unusable
  simp only [hd, hp]

/-- 02 R34: what the unusable ones of the returned parts bring to a pool. -/
theorem pendingFrom_eq (s : State) (p : Nat) (ps : List PromoPart) :
    ((((ps.filter (unusable s)).map (fun x => (x.pool, x.amount))).filter (fun x => x.1 = p)).map (fun x => x.2)).sum =
      pendingFrom s p ps := by
  unfold pendingFrom
  rw [List.filter_map, List.map_map, List.filter_filter]
  refine congrArg List.sum (congrArg _ (List.filter_congr fun x _ => ?_))
  rw [Function.comp_apply, Bool.and_comm]

/-- What the end of a hold with all its parts leaves of the slots, the cards and what the parts' usability reads. -/
structure EndedAll (n : Nat) (h : Hold) (c : Card) (s t : State) : Prop where
  slot : ∀ m, t.holdSlot m = if m = n then endedSlot (s.holdSlot n) .restart else s.holdSlot m
  card : t.card? h.card = some (returnedCard n h.parts .restart s c)
  other : ∀ id, id ≠ h.card → t.card? id = s.card? id
  pool : ∀ p, t.pool p = { s.pool p with pending := (s.pool p).pending + pendingFrom s p h.parts.promo }
  frame : t = { s with holds := t.holds, cards := t.cards, pools := t.pools }
  amounts : ∀ p d, amountAt p d (returnedCard n h.parts .restart s c).buckets = amountAt p d c.buckets +
    (if s.time.day ≤ d ∧ (s.pool p).state ≠ .closed then partsAt p d h.parts.promo else 0)
  tidied : ∀ b ∈ (returnedCard n h.parts .restart s c).buckets,
    b.amount ≠ 0 ∨ referred t (c.holds.filter (fun r => r ≠ ⟨n, (s.holdSlot n).gen⟩)) b

theorem endedAll {n : Nat} {h : Hold} {c : Card} {s : State} (hs : Sound s) (hh : (s.holdSlot n).hold = some h)
    (hc : s.card? h.card = some c) : EndedAll n h c s (endHold n h.parts .restart s) := by
  have he := endHold_ended hh hc h.parts .restart
  obtain ⟨-, hbuckets⟩ := hs.anchors_of hc hh rfl
  obtain ⟨hpend, -, hamounts⟩ := returnPromo_places s h.parts.promo (hs.ordered hc) (List.all_eq_true.2 hbuckets)
  obtain ⟨-, hsub, hmem⟩ := returnedCard_spec he
  refine ⟨fun m => ?_, ?_, fun id hid => ?_, fun p => ?_, he.frame, fun p d => ?_, fun b hb => ?_⟩
  · have hslot : (endHold n h.parts .restart s).holdSlot m = (freed n .restart s).holdSlot m := by
      unfold State.holdSlot
      rw [he.holds]
      rfl
    rw [hslot, freed, holdSlot_setHoldSlot]
  · rw [State.card?, he.cards, tableGet_put_same]
  · rw [State.card?, he.cards, tableGet_put_other hid]
    rfl
  · rw [he.pool, hpend, pendingFrom_eq]
  · exact (amountAt_tidy p d _ _).trans (hamounts p d)
  · exact (hmem b (hsub.subset hb)).1 hb

/-! ## All holds -/

/-- The listed holds of a card. -/
def heldOf (l : List (Nat × Hold)) (id : Nat) : List Hold := (l.map (fun e => e.2)).filter (fun h => h.card = id)

/-- The promotional parts of several holds. -/
def promoOf (hs : List Hold) : List PromoPart := hs.flatMap (fun h => h.parts.promo)

/-- 02 R27: the reference of a listed hold. -/
def refOf (s : State) (e : Nat × Hold) : HoldRef := ⟨e.1, (s.holdSlot e.1).gen⟩

/-- A card after the listed holds have returned their parts. -/
structure CardBack (l : List (Nat × Hold)) (s t : State) (id : Nat) (c c' : Card) : Prop where
  eq : c' = { c with
    base := c.base + ((heldOf l id).map (fun h => h.parts.base)).sum
    buckets := c'.buckets
    holds := c.holds.filter (fun r => !l.any (fun e => e.2.card = id && r = refOf s e)) }
  amounts : ∀ p d, amountAt p d c'.buckets = amountAt p d c.buckets +
    (if s.time.day ≤ d ∧ (s.pool p).state ≠ .closed then partsAt p d (promoOf (heldOf l id)) else 0)
  untouched : heldOf l id = [] → c'.buckets = c.buckets
  tidied : heldOf l id ≠ [] →
    (∀ r ∈ c.holds, ∀ h, (s.holdSlot r.slot).hold = some h → h.card = id ∧ (t.holdSlot r.slot).hold = none) →
    ∀ b ∈ c'.buckets, b.amount ≠ 0

/-- The state after the listed holds have returned their parts. -/
structure AllBack (l : List (Nat × Hold)) (s t : State) : Prop where
  frame : t = { s with holds := t.holds, cards := t.cards, pools := t.pools }
  slot : ∀ n, t.holdSlot n = if n ∈ l.map (fun e => e.1) then endedSlot (s.holdSlot n) .restart else s.holdSlot n
  absent : ∀ id, s.card? id = none → t.card? id = none
  present : ∀ id c, s.card? id = some c → ∃ c', t.card? id = some c' ∧ CardBack l s t id c c'
  pool : ∀ p, t.pool p = { s.pool p with
    pending := (s.pool p).pending + pendingFrom s p (promoOf (l.map (fun e => e.2))) }

theorem promoOf_cons (h : Hold) (hs : List Hold) : promoOf (h :: hs) = h.parts.promo ++ promoOf hs := rfl

theorem any_congr {l : List (Nat × Hold)} {f g : Nat × Hold → Bool} (h : ∀ e ∈ l, f e = g e) : l.any f = l.any g := by
  rw [Bool.eq_iff_iff, List.any_eq_true, List.any_eq_true]
  exact exists_congr fun e => and_congr_right fun he => by rw [h e he]

theorem heldOf_cons_same {n : Nat} {h : Hold} (l : List (Nat × Hold)) : heldOf ((n, h) :: l) h.card = h :: heldOf l h.card := by
  simp [heldOf]

theorem heldOf_cons_other {n id : Nat} {h : Hold} (hid : h.card ≠ id) (l : List (Nat × Hold)) : heldOf ((n, h) :: l) id = heldOf l id := by
  simp [heldOf, hid]

theorem mem_heldOf {l : List (Nat × Hold)} {e : Nat × Hold} (h : e ∈ l) : e.2 ∈ heldOf l e.2.card :=
  List.mem_filter.2 ⟨List.mem_map_of_mem h, by simp⟩

theorem allBack_nil (s : State) : AllBack [] s s where
  frame := rfl
  slot n := rfl
  absent _ h := h
  present id c h := ⟨c, h, by simp [heldOf], fun p d => by simp [heldOf, promoOf, partsAt], fun _ => rfl, fun h => absurd rfl h⟩
  pool p := by simp [promoOf, pendingFrom]

section
variable {n : Nat} {h : Hold} {c₀ : Card} {l : List (Nat × Hold)} {s u t : State}

theorem refOf_ended (hu : EndedAll n h c₀ s u) {e : Nat × Hold} (he : e.1 ≠ n) : refOf u e = refOf s e := by
  unfold refOf
  rw [hu.slot, if_neg he]

/-- 01 R7: once all holds of a card have ended, its list keeps no emptied bucket. -/
theorem tidied_cons (hu : EndedAll n h c₀ s u) (hacc : ∀ e ∈ l, (u.holdSlot e.1).hold = some e.2) (ht : AllBack l u t) {c' : Card}
    (hb : CardBack l u t h.card (returnedCard n h.parts .restart s c₀) c')
    (hr : ∀ r ∈ c₀.holds, ∀ x, (s.holdSlot r.slot).hold = some x → x.card = h.card ∧ (t.holdSlot r.slot).hold = none) :
    ∀ b ∈ c'.buckets, b.amount ≠ 0 := by
  have hfewer : ∀ {m x}, (u.holdSlot m).hold = some x → (s.holdSlot m).hold = some x := fun {m x} hx => by
    rw [hu.slot] at hx
    split at hx
    · simp [endedSlot] at hx
    · exact hx
  by_cases hl : heldOf l h.card = []
  · intro b hbm
    rw [hb.untouched hl] at hbm
    refine (hu.tidied b hbm).resolve_right ?_
    rintro ⟨r, hrm, x, hx, -⟩
    obtain ⟨hcard, hnone⟩ := hr r (List.mem_filter.1 hrm).1 x (hfewer hx)
    rw [ht.slot] at hnone
    split at hnone
    · next hm =>
      obtain ⟨e, he, hen⟩ := List.mem_map.1 hm
      have hex : some e.2 = some x := by rw [← hacc e he, hen, hx]
      have hheld := mem_heldOf he
      rw [Option.some.inj hex, hcard, hl] at hheld
      exact absurd hheld List.not_mem_nil
    · rw [hx] at hnone
      exact absurd hnone (by simp)
  · exact hb.tidied hl fun r hrm x hx => hr r (List.mem_filter.1 hrm).1 x (hfewer hx)

/-- The card of the hold that ends first. -/
theorem cardBack_same (hu : EndedAll n h c₀ s u) (hne : ∀ e ∈ l, e.1 ≠ n) (hacc : ∀ e ∈ l, (u.holdSlot e.1).hold = some e.2)
    (ht : AllBack l u t) {c' : Card} (hb : CardBack l u t h.card (returnedCard n h.parts .restart s c₀) c') :
    CardBack ((n, h) :: l) s t h.card c₀ c' where
  eq := by
    have hbase : c₀.base + h.parts.base + ((heldOf l h.card).map (fun h => h.parts.base)).sum =
        c₀.base + ((heldOf ((n, h) :: l) h.card).map (fun h => h.parts.base)).sum := by
      rw [heldOf_cons_same, List.map_cons, List.sum_cons, Nat.add_assoc]
    have hholds : (c₀.holds.filter (fun r => r ≠ ⟨n, (s.holdSlot n).gen⟩)).filter
        (fun r => !l.any (fun e => e.2.card = h.card && r = refOf u e)) =
        c₀.holds.filter (fun r => !((n, h) :: l).any (fun e => e.2.card = h.card && r = refOf s e)) := by
      rw [List.filter_filter]
      refine List.filter_congr fun r _ => ?_
      have hany : l.any (fun e => e.2.card = h.card && r = refOf u e) = l.any (fun e => e.2.card = h.card && r = refOf s e) :=
        any_congr fun e he => by rw [refOf_ended hu (hne e he)]
      rw [hany, List.any_cons]
      simp only [refOf, decide_true, Bool.true_and, Bool.not_or, ne_eq, decide_not, Bool.and_comm]
      rfl
    rw [hb.eq, ← hbase, ← hholds]
    rfl
  amounts p d := by
    have hday : u.time.day = s.time.day := by rw [hu.frame]
    have hpool : (u.pool p).state = (s.pool p).state := by rw [hu.pool]
    rw [hb.amounts, hu.amounts, hday, hpool, heldOf_cons_same, promoOf_cons, partsAt_append, Nat.add_assoc]
    split <;> rfl
  untouched he := by
    rw [heldOf_cons_same] at he
    exact absurd he (by simp)
  tidied _ hr := tidied_cons hu hacc ht hb hr

/-- A card whose hold does not end first. -/
theorem cardBack_other (hu : EndedAll n h c₀ s u) (hne : ∀ e ∈ l, e.1 ≠ n) {id : Nat} (hid : h.card ≠ id) {c c' : Card}
    (hb : CardBack l u t id c c') : CardBack ((n, h) :: l) s t id c c' where
  eq := by
    have hany : ∀ r, ((n, h) :: l).any (fun e => e.2.card = id && r = refOf s e) = l.any (fun e => e.2.card = id && r = refOf u e) :=
      fun r => by
        rw [List.any_cons]
        simp only [hid, decide_false, Bool.false_and, Bool.false_or]
        exact any_congr fun e he => by rw [refOf_ended hu (hne e he)]
    simp only [hany]
    rw [heldOf_cons_other hid]
    exact hb.eq
  amounts p d := by
    have hday : u.time.day = s.time.day := by rw [hu.frame]
    have hpool : (u.pool p).state = (s.pool p).state := by rw [hu.pool]
    rw [hb.amounts, hday, hpool, heldOf_cons_other hid]
  untouched := by
    rw [heldOf_cons_other hid]
    exact hb.untouched
  tidied := by
    rw [heldOf_cons_other hid]
    refine fun hl hr => hb.tidied hl fun r hrm x hx => hr r hrm x ?_
    rw [hu.slot] at hx
    split at hx
    · simp [endedSlot] at hx
    · exact hx

theorem allBack_cons (hu : EndedAll n h c₀ s u) (hc : s.card? h.card = some c₀) (hne : ∀ e ∈ l, e.1 ≠ n)
    (hacc : ∀ e ∈ l, (u.holdSlot e.1).hold = some e.2) (ht : AllBack l u t) : AllBack ((n, h) :: l) s t where
  frame := by
    rw [ht.frame, hu.frame]
  slot m := by
    rw [ht.slot, List.map_cons]
    by_cases hm : m = n
    · subst hm
      have hnot : m ∉ l.map (fun e => e.1) := fun hmem => by
        obtain ⟨e, he, hen⟩ := List.mem_map.1 hmem
        exact hne e he hen
      rw [if_neg hnot, hu.slot, if_pos rfl, if_pos List.mem_cons_self]
    · rw [hu.slot, if_neg hm]
      exact if_congr (by simp [hm]) rfl rfl
  absent id hn := by
    refine ht.absent id ?_
    rw [hu.other id (fun hid => by rw [hid, hc] at hn; exact absurd hn (by simp)), hn]
  present id c hcid := by
    by_cases hid : h.card = id
    · subst hid
      obtain rfl : c₀ = c := Option.some.inj (hc.symm.trans hcid)
      obtain ⟨c', hc', hb⟩ := ht.present _ _ hu.card
      exact ⟨c', hc', cardBack_same hu hne hacc ht hb⟩
    · obtain ⟨c', hc', hb⟩ := ht.present id c ((hu.other id (Ne.symm hid)).trans hcid)
      exact ⟨c', hc', cardBack_other hu hne hid hb⟩
  pool p := by
    have hday : u.time.day = s.time.day := by rw [hu.frame]
    have hstate : ∀ q, (u.pool q).state = (s.pool q).state := fun q => by rw [hu.pool]
    rw [ht.pool, pendingFrom_congr hday hstate, hu.pool, List.map_cons, promoOf_cons, pendingFrom_append, ← Nat.add_assoc]

end

/-- 02 R46: every listed hold ended, each slot listed once. -/
theorem allBack_foldl {l : List (Nat × Hold)} {s : State} (hs : Sound s) (hd : l.Pairwise (fun a b => a.1 ≠ b.1))
    (hl : ∀ e ∈ l, (s.holdSlot e.1).hold = some e.2) :
    AllBack l s (l.foldl (fun s e => endHold e.1 e.2.parts .restart s) s) := by
  induction l generalizing s with
  | nil => exact allBack_nil s
  | cons e l ih =>
    obtain ⟨n, h⟩ := e
    obtain ⟨he, hl⟩ := List.forall_mem_cons.1 hl
    obtain ⟨hne, hd⟩ := List.pairwise_cons.1 hd
    obtain ⟨c, hc, -⟩ := hs.anchored he
    have hacc : ∀ e ∈ l, ((endHold n h.parts .restart s).holdSlot e.1).hold = some e.2 := fun e hem => by
      rw [holdSlot_endHold_other (hne e hem).symm]
      exact hl e hem
    exact allBack_cons (endedAll hs he hc) hc (fun e hem => (hne e hem).symm) hacc (ih (endHold_fair n .restart he hs).1 hd hacc)

theorem releaseHolds46_back {s : State} (hs : Sound s) : AllBack s.placedHolds s (releaseHolds46 s) := by
  obtain ⟨hd, hl⟩ := placedHolds_spec hs
  exact allBack_foldl hs hd hl

end Sys2Proof.Proofs.Returned
end

section
/-! The restart of every block, the loss of power and the power-on (10 R175, R176, R179). -/

namespace Sys2Proof.Proofs.Power

open Sys2Proof Sys2Proof.Machine Sys2Proof.Laws Sys2Proof.Proofs.Links Sys2Proof.Proofs.Basics Sys2Proof.Proofs.Bounds
  Sys2Proof.Proofs.Steps Sys2Proof.Proofs.Periods Sys2Proof.Proofs.Value Sys2Proof.Proofs.Records Sys2Proof.Proofs.Moves Sys2Proof.Proofs.Balance Sys2Proof.Proofs.Engine
  Sys2Proof.Proofs.Entries Sys2Proof.Proofs.Days Sys2Proof.Proofs.Offers Sys2Proof.Proofs.Releasing Sys2Proof.Proofs.Tested
  Sys2Proof.Proofs.Settling Sys2Proof.Proofs.Restarting Sys2Proof.Proofs.Returned

/-! ## The shops and the Period Controller at a restart -/

/-- The shops whose record is OFFERED. -/
def offeredShops (s : State) : List Nat := (s.shops.filter (fun e => e.2.payout.state = .offered)).map (fun e => e.1)

theorem mem_offeredShops {s : State} (ht : tableRising s.shops = true) (i : Nat) :
    i ∈ offeredShops s ↔ (s.shop i).payout.state = .offered := by
  unfold offeredShops
  rw [List.mem_map]
  constructor
  · rintro ⟨e, he, rfl⟩
    rw [shop_of_mem ht (List.mem_filter.1 he).1]
    simpa using (List.mem_filter.1 he).2
  · intro hi
    exact ⟨_, List.mem_filter.2 ⟨mem_shops fun h => absurd (h ▸ hi) (by decide), by simpa using hi⟩, rfl⟩

theorem makeUncertain_shop {s : State} (ht : tableRising s.shops = true) (i : Nat) :
    (makeUncertain s).shop i = if (s.shop i).payout.state = .offered then
      { s.shop i with payout := { (s.shop i).payout with state := .uncertain } } else s.shop i :=
  (setPayoutStates_shop (offeredShops s) .uncertain s i).trans (if_congr (mem_offeredShops ht i) rfl rfl)

theorem makeUncertain_frame (s : State) : makeUncertain s = { s with shops := (makeUncertain s).shops } :=
  setPayoutStates_frame (offeredShops s) .uncertain s

theorem uncomputed_shop (s : State) (i : Nat) :
    (uncomputed s).shop i =
      if i ∈ s.period.roster then { s.shop i with result := { (s.shop i).result with computed := false } } else s.shop i :=
  foldl_shop (g := uncompute) (f := fun _ x => { x with result := { x.result with computed := false } }) (fun _ _ => rfl)
    (fun s i j => by
      rw [uncompute, shop_setShop]
      split
      · next h => rw [h]
      · rfl) s.period.roster s i

theorem uncomputed_frame (s : State) : uncomputed s = { s with shops := (uncomputed s).shops } :=
  foldl_shops_frame (f := uncompute) (fun _ _ => rfl) s.period.roster s

theorem restartPeriod_shop (s : State) (i : Nat) :
    (restartPeriod s).shop i = { s.shop i with
      result := if s.period.state = .closing ∧ i ∈ s.period.roster then { (s.shop i).result with computed := false }
        else (s.shop i).result } := by
  rw [restartPeriod_eq]
  by_cases hc : s.period.state = .closing
  · rw [if_pos hc]
    refine (uncomputed_shop s i).trans ?_
    by_cases hi : i ∈ s.period.roster
    · rw [if_pos hi, if_pos ⟨hc, hi⟩]
    · rw [if_neg hi, if_neg fun h => hi h.2]
  · rw [if_neg hc, if_neg fun h => hc h.1]
    rfl

theorem restartPeriod_frame (s : State) :
    restartPeriod s = { s with
      shops := (restartPeriod s).shops
      period := loadCountdown { s.period with cursor := if s.period.state = .closing then 0 else s.period.cursor } } := by
  rw [restartPeriod_eq]
  by_cases hc : s.period.state = .closing
  · simp only [if_pos hc]
    rw [uncomputed_frame]
  · simp only [if_neg hc]

theorem loadCountdown_eq (p : PeriodController) :
    loadCountdown p = { p with countdown := if p.mode = .interval then p.interval * 60 else p.countdown } := by
  unfold loadCountdown
  split <;> rfl

/-! ## What a restart meets -/

/-- 10 R179: the state in which a restart releases the holds, as it is told by the state before the restart; a hold may have lost what
the value store does not keep of it (02 R45). -/
structure Woken (cause : RestartCause) (g : Hold → Hold) (s u : State) : Prop where
  kept : ∀ h, (g h).card = h.card ∧ (g h).parts = h.parts
  slot : ∀ n, u.holdSlot n = { s.holdSlot n with hold := (s.holdSlot n).hold.map g }
  placed : u.placedHolds = s.placedHolds.map (fun e => (e.1, g e.2))
  channel : ∀ n, n < 4 → u.channel n = clearRun (s.channel n)
  period : u.period = { s.period with countdown := u.period.countdown }
  ctrl : u.ctrl = {
    mode := .config, store := .valid, initInFlight := false, lastRestart := cause, formatMark := s.ctrl.formatMark, draining := false }
  time : u.time = {
    clock := u.time.clock, timeSet := u.time.timeSet, day := s.time.day, rolloverSecond := s.time.rolloverSecond
    trading := false, rolloverDue := false, handed := [], turn := u.time.turn }
  tLink : u.tLink = { idleLink with inBreak := s.tLink.inBreak }
  aLink : u.aLink = { idleLink with inBreak := s.aLink.inBreak }
  frame : u = { s with
    power := true, ctrl := u.ctrl, time := u.time, tLink := u.tLink, aLink := u.aLink, holds := u.holds, sweep := idleSweep,
    period := u.period, sau := { accumulator := 0, saturated := false }, channels := u.channels }

/-- 10 R179: the blocks after the holds have been released. -/
def wokenBlocks (u : State) : State := restartPeriod (makeUncertain (releaseHolds46 u))

section
variable {cause : RestartCause} {g : Hold → Hold} {s u : State}

theorem mem_placed {s : State} (ht : tableRising s.holds = true) (n : Nat) (h : Hold) :
    (n, h) ∈ s.placedHolds ↔ (s.holdSlot n).hold = some h := by
  unfold State.placedHolds State.holdSlot tableRead
  rw [List.mem_filterMap]
  constructor
  · rintro ⟨e, he, hx⟩
    obtain ⟨x, hx', heq⟩ := Option.map_eq_some_iff.1 hx
    obtain ⟨rfl, rfl⟩ := Prod.mk.inj heq
    rw [HoldSlots.tableGet_of_mem ht he]
    exact hx'
  · intro hh
    cases hg : tableGet n s.holds with
    | none =>
      rw [hg] at hh
      exact absurd hh (by simp [freeHoldSlot])
    | some x =>
      rw [hg] at hh
      exact ⟨(n, x), HoldSlots.mem_of_tableGet hg, by rw [show x.hold = some h from hh]; rfl⟩

theorem mem_placed_slot {s : State} (ht : tableRising s.holds = true) (n : Nat) :
    n ∈ s.placedHolds.map (fun e => e.1) ↔ (s.holdSlot n).hold ≠ none := by
  rw [List.mem_map, Option.ne_none_iff_exists']
  exact ⟨fun ⟨e, he, hn⟩ => ⟨e.2, (mem_placed ht n e.2).1 (hn ▸ he)⟩, fun ⟨h, hh⟩ => ⟨(n, h), (mem_placed ht n h).2 hh, rfl⟩⟩

theorem Woken.card (hw : Woken cause g s u) (id : Nat) : u.card? id = s.card? id := by
  rw [hw.frame]
  rfl

theorem Woken.pool (hw : Woken cause g s u) (p : Nat) : u.pool p = s.pool p := by
  rw [hw.frame]
  rfl

theorem Woken.shop (hw : Woken cause g s u) (i : Nat) : u.shop i = s.shop i := by
  rw [hw.frame]
  rfl

theorem Woken.day (hw : Woken cause g s u) : u.time.day = s.time.day := by rw [hw.time]

theorem Woken.holds (hw : Woken cause g s u) : u.placedHolds.map (fun e => e.2) = (s.placedHolds.map (fun e => e.2)).map g := by
  rw [hw.placed, List.map_map, List.map_map]
  rfl

theorem Woken.heldOf (hw : Woken cause g s u) (id : Nat) : heldOf u.placedHolds id = (holdsOf s id).map g := by
  have hf : ((fun h : Hold => decide (h.card = id)) ∘ g) = fun h => decide (h.card = id) := funext fun h => by
    rw [Function.comp_apply, (hw.kept h).1]
  unfold Returned.heldOf holdsOf
  rw [hw.holds, List.filter_map, hf]

theorem Woken.bases (hw : Woken cause g s u) (hs : List Hold) :
    ((hs.map g).map (fun h => h.parts.base)).sum = (hs.map (fun h => h.parts.base)).sum := by
  rw [List.map_map]
  exact congrArg List.sum (List.map_congr_left fun h _ => by rw [Function.comp_apply, (hw.kept h).2])

theorem Woken.promo (hw : Woken cause g s u) (hs : List Hold) : promoOf (hs.map g) = hs.flatMap (fun h => h.parts.promo) := by
  rw [promoOf, List.flatMap_map]
  exact List.flatMap_congr fun h _ => by rw [(hw.kept h).2]

/-- 02 R27: whether a reference names a hold of a card. -/
theorem Woken.names (hw : Woken cause g s u) (ht : tableRising s.holds = true) (id : Nat) (r : HoldRef) :
    u.placedHolds.any (fun e => e.2.card = id && r = refOf u e) =
      ((s.holdSlot r.slot).gen = r.gen && (s.holdSlot r.slot).hold.any (fun h => h.card = id)) := by
  rw [Bool.eq_iff_iff, hw.placed]
  simp only [List.any_map, List.any_eq_true, Function.comp_apply, Bool.and_eq_true, decide_eq_true_eq, (hw.kept _).1, refOf, hw.slot,
    Option.any_eq_true]
  constructor
  · rintro ⟨e, he, hc, rfl⟩
    exact ⟨rfl, e.2, (mem_placed ht _ _).1 he, hc⟩
  · rintro ⟨hg, h, hh, hc⟩
    exact ⟨(r.slot, h), (mem_placed ht _ _).2 hh, hc, by rw [hg]⟩

/-! ## The blocks after a restart -/

/-- 10 R179: what stands in the part's blocks once the holds are released. -/
theorem wokenBlocks_frame (hu : Sound u) :
    wokenBlocks u = { u with
      holds := (releaseHolds46 u).holds
      cards := (releaseHolds46 u).cards
      pools := (releaseHolds46 u).pools
      shops := (wokenBlocks u).shops
      period := loadCountdown { u.period with cursor := if u.period.state = .closing then 0 else u.period.cursor } } := by
  have h1 := (releaseHolds46_back hu).frame
  have h2 := makeUncertain_frame (releaseHolds46 u)
  have h3 := restartPeriod_frame (makeUncertain (releaseHolds46 u))
  unfold wokenBlocks
  generalize restartPeriod (makeUncertain (releaseHolds46 u)) = w at h3 ⊢
  generalize makeUncertain (releaseHolds46 u) = v at h2 h3
  generalize releaseHolds46 u = x at h1 h2
  rw [h2, h1] at h3
  exact h3

theorem wokenBlocks_shop (hu : Sound u) (i : Nat) :
    (wokenBlocks u).shop i = { u.shop i with
      payout := if (u.shop i).payout.state = .offered then { (u.shop i).payout with state := .uncertain } else (u.shop i).payout
      result := if u.period.state = .closing ∧ i ∈ u.period.roster then { (u.shop i).result with computed := false }
        else (u.shop i).result } := by
  have h1 := (releaseHolds46_back hu).frame
  have hshop : ∀ i, (releaseHolds46 u).shop i = u.shop i := shop_congr (by rw [h1])
  have ht : tableRising (releaseHolds46 u).shops = true := by
    rw [h1]
    exact ((tableCanonical_iff _ _).1 hu.tables.2.2.2.1).1
  have hper : (makeUncertain (releaseHolds46 u)).period = u.period := by rw [makeUncertain_frame, h1]
  unfold wokenBlocks
  rw [restartPeriod_shop, hper, makeUncertain_shop ht, hshop]
  by_cases ho : (u.shop i).payout.state = .offered
  · simp only [if_pos ho]
  · simp only [if_neg ho]

theorem Woken.slots (hw : Woken cause g s u) : u.placedHolds.map (fun e => e.1) = s.placedHolds.map (fun e => e.1) := by
  rw [hw.placed, List.map_map]
  rfl

theorem wokenBlocks_fields (hu : Sound u) :
    (∀ n, (wokenBlocks u).holdSlot n = (releaseHolds46 u).holdSlot n) ∧
      (∀ id, (wokenBlocks u).card? id = (releaseHolds46 u).card? id) ∧ ∀ p, (wokenBlocks u).pool p = (releaseHolds46 u).pool p := by
  have h := wokenBlocks_frame hu
  refine ⟨fun n => ?_, fun id => ?_, fun p => ?_⟩
  · unfold State.holdSlot
    rw [h]
  · unfold State.card?
    rw [h]
  · unfold State.pool
    rw [h]

/-- 02 R46: every slot after a restart. -/
theorem wokenBlocks_slot (hw : Woken cause g s u) (hu : Sound u) (ht : tableRising s.holds = true) (n : Nat) :
    (wokenBlocks u).holdSlot n =
      if (s.holdSlot n).hold = none then s.holdSlot n
      else { gen := if (s.holdSlot n).gen = 65535 then 0 else (s.holdSlot n).gen + 1, lastEnd := .restart, hold := none } := by
  obtain ⟨hslot, -⟩ := wokenBlocks_fields hu
  rw [hslot, (releaseHolds46_back hu).slot, hw.slots, hw.slot]
  by_cases hn : (s.holdSlot n).hold = none
  · rw [if_neg (by rw [mem_placed_slot ht]; exact fun h => h hn), if_pos hn]
    have hmap : (s.holdSlot n).hold.map g = (s.holdSlot n).hold := by rw [hn]; rfl
    rw [hmap]
  · rw [if_pos ((mem_placed_slot ht n).2 hn), if_neg hn]
    rfl

/-- 02 R34, R46: every card after a restart. -/
theorem wokenBlocks_card (hw : Woken cause g s u) (hu : Sound u) (ht : tableRising s.holds = true) {id : Nat} {c : Card}
    (hc : s.card? id = some c) :
    ∃ bs, (wokenBlocks u).card? id = some { c with
        base := c.base + ((holdsOf s id).map (fun h => h.parts.base)).sum
        buckets := bs
        holds := c.holds.filter (fun r =>
          !((s.holdSlot r.slot).gen = r.gen && (s.holdSlot r.slot).hold.any (fun h => h.card = id))) } ∧
      (∀ p d, amountAt p d bs = amountAt p d c.buckets +
        (if s.time.day ≤ d ∧ (s.pool p).state ≠ .closed then partsAt p d ((holdsOf s id).flatMap (fun h => h.parts.promo)) else 0)) ∧
      (holdsOf s id = [] → bs = c.buckets) ∧
      (holdsOf s id ≠ [] → (∀ r ∈ c.holds, ∃ h, (s.holdSlot r.slot).hold = some h ∧ h.card = id) → ∀ b ∈ bs, b.amount ≠ 0) := by
  have hback := releaseHolds46_back hu
  obtain ⟨-, hcards, -⟩ := wokenBlocks_fields hu
  obtain ⟨c', hc', hb⟩ := hback.present id c ((hw.card id).trans hc)
  refine ⟨c'.buckets, ?_, fun p d => ?_, fun hnil => hb.untouched ?_, fun hne hr => hb.tidied ?_ fun r hrm h hh => ?_⟩
  · have heq := hb.eq
    simp only [hw.heldOf, hw.bases, hw.names ht] at heq
    rw [hcards, hc']
    exact congrArg some heq
  · rw [hb.amounts, hw.heldOf, hw.promo, hw.day, hw.pool]
  · rw [hw.heldOf, hnil]
    rfl
  · rw [hw.heldOf]
    exact fun h => hne (List.map_eq_nil_iff.1 h)
  · obtain ⟨x, hx, hxc⟩ := hr r hrm
    rw [hw.slot, hx] at hh
    obtain rfl : g x = h := Option.some.inj hh
    refine ⟨(hw.kept x).1.trans hxc, ?_⟩
    rw [hback.slot, if_pos (by rw [hw.slots, mem_placed_slot ht, hx]; exact Option.some_ne_none x)]
    rfl

/-- 02 R34, 04 R84: every pool after a restart. -/
theorem wokenBlocks_pool (hw : Woken cause g s u) (hu : Sound u) (p : Nat) :
    (wokenBlocks u).pool p = { s.pool p with
      pending := (s.pool p).pending + pendingFrom s p ((s.placedHolds.map (fun e => e.2)).flatMap (fun h => h.parts.promo)) } := by
  obtain ⟨-, -, hpools⟩ := wokenBlocks_fields hu
  rw [hpools, (releaseHolds46_back hu).pool, hw.holds, hw.promo, hw.pool,
    pendingFrom_congr (s := s) hw.day (fun q => by rw [hw.pool])]

/-! ## The notices of a restart -/

theorem levelNotices_eq (s : State) :
    levelNotices s = ((List.range 16).filter (fun p => isLow (s.pool p))).map (lowNotice s) ++
      (if writable s.journal ≤ 64 then [journalReserveNotice s] else []) := by
  unfold levelNotices reserveHolds
  rw [poolLowNow_eq, reserveNotice_eq]
  simp [Config.journalReserve]

theorem tested_eq (u : State) : tested u = giveNotices (testRelease u).2 (testRelease u).1 := by
  unfold tested
  cases h : releaseHolds u with
  | true => rw [if_pos rfl, tested_of_holds h]
  | false => rw [if_neg (by simp), tested_of_not h]

end

/-! ## What the two restarts meet -/

theorem placedHolds_map (g : Hold → Hold) {s u : State}
    (h : u.holds = s.holds.map (fun e => (e.1, { e.2 with hold := e.2.hold.map g }))) :
    u.placedHolds = s.placedHolds.map (fun e => (e.1, g e.2)) := by
  unfold State.placedHolds
  rw [h, List.filterMap_map, List.map_filterMap]
  refine List.filterMap_congr fun e _ => ?_
  cases hh : e.2.hold <;> simp [hh]

theorem holdSlot_map (g : Hold → Hold) {s u : State}
    (h : u.holds = s.holds.map (fun e => (e.1, { e.2 with hold := e.2.hold.map g }))) (n : Nat) :
    u.holdSlot n = { s.holdSlot n with hold := (s.holdSlot n).hold.map g } := by
  unfold State.holdSlot
  rw [h]
  exact tableRead_map (fun x : HoldSlot => { x with hold := x.hold.map g }) rfl n s.holds

/-- 10 R180: what a RESTART meets once the queues have drained. -/
def drainedWake (s : State) : State := clearRuns (restartRegisters .request s)

theorem woken_drained {s : State} (hp : s.power = true) (hv : s.ctrl.store = .valid) :
    Woken .request id s (drainedWake s) := by
  have hfr := clearRuns_frame (restartRegisters .request s)
  have hch := fun n (hn : n < 4) => clearRuns_channel (restartRegisters .request s) hn
  have hholds : (drainedWake s).holds = s.holds := by
    rw [drainedWake, hfr]
    rfl
  unfold drainedWake at hholds ⊢
  generalize clearRuns (restartRegisters .request s) = u at hfr hch hholds ⊢
  refine ⟨fun _ => ⟨rfl, rfl⟩, fun n => ?_, ?_, hch, ?_, ?_, ?_, ?_, ?_, ?_⟩
  · unfold State.holdSlot
    rw [hholds, Option.map_id]
    rfl
  · unfold State.placedHolds
    rw [hholds]
    exact (List.map_id' _).symm
  · rw [hfr]
    rfl
  · rw [hfr, ← hv]
    rfl
  · rw [hfr]
    rfl
  · rw [hfr]
    rfl
  · rw [hfr]
    rfl
  · rw [hfr, ← hp]
    rfl

/-- 02 R45: what a hold keeps without supply. -/
def keptHold (h : Hold) : Hold := { h with remaining := 0, extensions := 0 }

/-- 10 R176: what a power-on meets that finds the format mark. -/
def markedState (s : State) : State :=
  { unpowered s with power := true, ctrl := { (unpowered s).ctrl with store := .valid } }

def poweredWake (s : State) : State := clearRuns (restartRegisters .powerOn (markedState s))

theorem unpowered_fields (s : State) : unpowered s = unpowerRegisters { s with channels := (clearRuns s).channels } := by
  rw [unpowered_eq, clearRuns_frame]

theorem woken_powered (s : State) : Woken .powerOn keptHold s (poweredWake s) := by
  have hfr := clearRuns_frame (restartRegisters .powerOn (markedState s))
  have hch : ∀ n, n < 4 → (poweredWake s).channel n = clearRun (s.channel n) := fun n hn => by
    have h : (restartRegisters .powerOn (markedState s)).channel n = (clearRuns s).channel n :=
      channel_congr (by rw [markedState, unpowered_fields]; rfl) n
    rw [poweredWake, clearRuns_channel _ hn, h, clearRuns_channel _ hn]
    rfl
  have hm : restartRegisters .powerOn (markedState s) = restartRegisters .powerOn
      { unpowerRegisters { s with channels := (clearRuns s).channels } with
        power := true, ctrl := { (unpowered s).ctrl with store := .valid } } := by
    rw [markedState, unpowered_fields]
  have hholds : (poweredWake s).holds = s.holds.map (fun e => (e.1, { e.2 with hold := e.2.hold.map keptHold })) := by
    rw [poweredWake, hfr, hm]
    rfl
  have hslot := holdSlot_map keptHold hholds
  have hplaced := placedHolds_map keptHold hholds
  unfold poweredWake at hch hslot hplaced ⊢
  generalize clearRuns (restartRegisters .powerOn (markedState s)) = u at hfr hch hslot hplaced ⊢
  rw [hm] at hfr
  refine ⟨fun _ => ⟨rfl, rfl⟩, hslot, hplaced, hch, ?_, ?_, ?_, ?_, ?_, ?_⟩
  · rw [hfr]
    rfl
  · rw [hfr]
    rfl
  · rw [hfr]
    rfl
  · rw [hfr]
    rfl
  · rw [hfr]
    rfl
  · rw [hfr]
    rfl

/-! ## A restart, told by the state before it -/

theorem sound_wake (cause : RestartCause) {s : State} (hs : Sound s) : Sound (clearRuns (restartRegisters cause s)) := by
  have h0 : Fair s (restartRegisters cause s) := fair_of_same (W := True) (safe_restartRegisters cause s) rfl rfl rfl rfl rfl
  exact ((h0.trans (fair_of_calm (W := True) (safe_clearRuns _) (calm_clearRuns _))) hs).1

theorem sound_drained {s : State} (hs : Sound s) : Sound (drainedWake s) := sound_wake .request hs

theorem sound_powered {s : State} (hs : Sound s) : Sound (poweredWake s) := by
  have h0 : Sound (unpowered s) := (unpowered_fair s hs).1
  exact sound_wake .powerOn (h0.of_same (t := markedState s) h0.tables rfl rfl rfl fun _ he => h0.entries he)

theorem restartBlocks_tested (cause : RestartCause) (v : State) :
    restartBlocks cause v = tested (giveNotices (levelNotices (wokenBlocks (clearRuns (restartRegisters cause v))))
      (wokenBlocks (clearRuns (restartRegisters cause v)))) := by
  rw [tested_eq, restartBlocks_eq]
  rfl

/-- A state that is told by another in two steps. -/
theorem told_twice {s u w : State} {holds : Table HoldSlot} {cards : Table Card} {pools : Table Pool} {shops : Table Shop}
    {period : PeriodController}
    (hu : u = { s with
      power := true, ctrl := u.ctrl, time := u.time, tLink := u.tLink, aLink := u.aLink, holds := u.holds, sweep := idleSweep,
      period := u.period, sau := { accumulator := 0, saturated := false }, channels := u.channels })
    (hw : w = { u with holds := holds, cards := cards, pools := pools, shops := shops, period := period }) :
    w = { s with
      power := true, ctrl := w.ctrl, time := w.time, tLink := w.tLink, aLink := w.aLink, cards := w.cards, holds := w.holds,
      pools := w.pools, sweep := { inFlight := false, day := 0, cursor := 0, swept := [] }, shops := w.shops, period := w.period,
      sau := { accumulator := 0, saturated := false }, channels := w.channels } := by
  subst hw
  rw [hu]
  rfl

theorem told_fields {u w : State} {holds : Table HoldSlot} {cards : Table Card} {pools : Table Pool} {shops : Table Shop}
    {period : PeriodController}
    (hw : w = { u with holds := holds, cards := cards, pools := pools, shops := shops, period := period }) :
    w.ctrl = u.ctrl ∧ w.time = u.time ∧ w.tLink = u.tLink ∧ w.aLink = u.aLink ∧ w.channels = u.channels ∧ w.period = period := by
  subst hw
  exact ⟨rfl, rfl, rfl, rfl, rfl, rfl⟩

theorem drained_draining {s : State} (h : drained s = true) : s.ctrl.draining = true := by
  simp only [drained, Bool.and_eq_true] at h
  obtain ⟨⟨⟨⟨h, -⟩, -⟩, -⟩, -⟩ := h
  exact h

theorem settle_drained {s : State} (hd : drained s = true) (he : expiredSlots s = [])
    (hto : ∀ n, n < 4 → timeoutDue (s.channel n) = false) (hi : intervalDue s = false) (hr : s.time.rolloverDue = false) :
    settle s = restartBlocks .request s := by
  have hdr := drained_draining hd
  have ho : enterOffers s = s := foldl_id _ _ _ fun n _ => by simp [offerMayEnter, hdr]
  have ht : timeOuts s = s := foldl_id _ _ _ fun n hn => by simp [hto n (List.mem_range.1 hn)]
  simp [settle, ho, he, ht, intervalExpiry, hi, takeRollover, hr, restartDrained, hd]

theorem restart_time {u : State} (hu : Sound u) : (giveNotices (levelNotices (wokenBlocks u)) (wokenBlocks u)).time = u.time := by
  rw [giveNotices_time]
  exact (told_fields (wokenBlocks_frame hu)).2.1

theorem drainedWake_time (s : State) : (drainedWake s).time =
    { s.time with trading := false, rolloverDue := false, handed := [] } := by
  rw [drainedWake, clearRuns_frame]
  rfl

theorem poweredWake_time (s : State) : (poweredWake s).time =
    { s.time with clock := 0, timeSet := false, trading := false, rolloverDue := false, handed := [] } := by
  rw [poweredWake, clearRuns_frame, markedState, unpowered_fields]
  rfl

theorem tested_ctrl (u : State) : (tested u).ctrl = u.ctrl := by
  have hr : (release u).ctrl = u.ctrl := by
    have h := release_blocks u
    generalize release u = t at h ⊢
    rw [h]
  unfold tested
  split
  · rw [giveNotice_ctrl, hr]
  · rfl

/-! ## Power -/

/-- 10 R176: a power-on that finds no format mark. -/
theorem markRead_blank {v : State} (hp : v.power = true) (hm : v.ctrl.formatMark = false) :
    markRead v = { State.reset with
      pending := v.pending, tLink := restartLink v.tLink, aLink := restartLink v.aLink
      time := { State.reset.time with clock := v.time.clock, turn := v.time.turn } } := by
  unfold markRead
  rw [if_neg (by rw [hm]; decide), initialBlocks_eq hp]
  rfl

theorem exec_unpowered {c : Instr} {s : State} (hp : s.power = false) (hc : c ≠ .powerOn) : exec c s = .next s := by
  cases hq : isRequest c with
  | true => rw [exec_request hq, takeRequest_next, taken, untaken, hp]; rfl
  | false =>
    cases c with
    | powerOn => exact absurd rfl hc
    | lossOfPower => exact congrArg Host.Outcome.next (if_neg (by simp [hp]))
    | unknownRequest l tag kind payload =>
      rw [exec_unknownRequest]
      simp [taken, untaken, hp]
    | frameReceived | frameGapTimeout | frameSent | linkReset | breakEnded | tick | holdExpiry | confirmTimeout
    | intervalCountdownExpiry | dayRollover | sweepVisit | sweepEnd | closeComputeStep | closeComputationEnd | runWalkStep
    | payoutOfferEntersQueue | storeInitialiseComplete | restartAfterDrain =>
      exact congrArg Host.Outcome.next (if_neg (by simp [hp]))
    | _ => exact absurd hq (by simp [isRequest])

/-- Settles O60. -/
theorem powerAndRestartKeepTheStore : Obligations.PowerAndRestartKeepTheStore := by
  unfold Obligations.PowerAndRestartKeepTheStore
  intro stopped
  refine ⟨fun s hp => ?_, fun s hm => ?_, fun c s hp hc => exec_unpowered hp hc, ?_⟩
  · refine ⟨unpowered s, congrArg Host.Outcome.next (if_pos hp), ?_⟩
    have hfr := unpowered_fields s
    have hslot : ∀ n, (unpowered s).holdSlot n = _ := holdSlot_map keptHold (s := s) (by rw [hfr]; rfl)
    have hch : ∀ n, n < 4 → (unpowered s).channel n = clearRun (s.channel n) := fun n hn => by
      rw [← clearRuns_channel s hn]
      exact channel_congr (by rw [hfr]; rfl) n
    generalize unpowered s = t at hfr hslot hch ⊢
    refine ⟨?_, ?_, ?_, ?_, ?_, hslot, hch, ?_, ?_, ?_⟩
    · rw [hfr]; rfl
    · rw [hfr]; rfl
    · rw [hfr]; rfl
    · rw [hfr]; rfl
    · rw [hfr]; rfl
    · rw [hfr]; rfl
    · rw [hfr]; rfl
    · rw [hfr]; rfl
  · refine congrArg Host.Outcome.next ?_
    refine (markRead_blank (v := { unpowered s with power := true }) rfl (by rw [unpowered_fields]; exact hm)).trans ?_
    rw [unpowered_fields]
    rfl
  · intro restarted
    have key : ∀ {cause g s u}, Woken cause g s u → Sound s → Sound u →
        restarted cause s (giveNotices (levelNotices (wokenBlocks u)) (wokenBlocks u)) := by
      intro cause g s u hw hs hu
      have ht : tableRising s.holds = true := hs.slotsRising
      have hslot := wokenBlocks_slot hw hu ht
      have hcard := fun id c (hc : s.card? id = some c) => wokenBlocks_card hw hu ht hc
      have hpool := wokenBlocks_pool hw hu
      have hshop := wokenBlocks_shop hu
      have habsent : ∀ id, s.card? id = none → (wokenBlocks u).card? id = none := fun id hn => by
        obtain ⟨-, hcards, -⟩ := wokenBlocks_fields hu
        rw [hcards]
        exact (releaseHolds46_back hu).absent id ((hw.card id).trans hn)
      have hfr := wokenBlocks_frame hu
      rw [loadCountdown_eq] at hfr
      obtain ⟨hctrl, htime, htl, hal, hchs, hper⟩ := told_fields hfr
      have htold := told_twice hw.frame hfr
      have hnotices := levelNotices_eq (wokenBlocks u)
      have hgiven := giveNotices_frame (levelNotices (wokenBlocks u)) (wokenBlocks u)
      generalize hg : giveNotices (levelNotices (wokenBlocks u)) (wokenBlocks u) = t at hgiven ⊢
      generalize wokenBlocks u = w at hslot hcard hpool hshop habsent hctrl htime htl hal hchs hper htold hnotices hgiven hg
      have hidle : ({ t with
          tLink := { idleLink with inBreak := s.tLink.inBreak }, aLink := { idleLink with inBreak := s.aLink.inBreak } } : State) = w := by
        rw [hgiven, ← hw.tLink, ← hw.aLink, ← htl, ← hal]
        rfl
      have hns : ((List.range 16).filter (fun p => isLow (t.pool p))).map (lowNotice t) ++
          (if writable t.journal ≤ 64 then [journalReserveNotice t] else []) = levelNotices w := by
        rw [hnotices, hgiven]
        rfl
      have hlinks : giveNotices _ _ = t := (congrArg₂ giveNotices hns hidle).trans hg
      have hperiod : t.period = _ := (show t.period = w.period by rw [hgiven]; rfl).trans hper
      refine ⟨?_, ?_, fun n => ?_, fun id hn => ?_, fun id c hc => ?_, fun p => ?_, fun i => ?_, ?_, fun hi => ?_, fun n hn => ?_,
        (congrArg State.tLink hlinks).symm, (congrArg State.aLink hlinks).symm, ?_⟩
      · rw [hgiven]
        exact hctrl.trans hw.ctrl
      · have h : t.time = u.time := by rw [hgiven]; exact htime
        rw [h]
        exact hw.time
      · rw [hgiven]
        exact hslot n
      · rw [hgiven]
        exact habsent id hn
      · rw [hgiven]
        exact hcard id c hc
      · rw [hgiven]
        exact hpool p
      · have hshop' := hshop i
        rw [hw.shop, hw.period] at hshop'
        rw [hgiven]
        exact hshop'
      · rw [hperiod, hw.period]
      · rw [hperiod, hw.period]
        exact if_pos hi
      · rw [hgiven]
        exact (channel_congr hchs n).trans (hw.channel n hn)
      · rw [hgiven]
        conv_lhs => rw [htold]
        rfl
    refine ⟨fun s hs hm => ?_, fun s hs hp hv hd he hto hi hr => ?_⟩
    · have hs' := (sound_iff s).1 hs
      refine ⟨_, ?_, key (woken_powered s) hs' (sound_powered hs'), ?_, ?_⟩
      · refine congrArg Host.Outcome.next ?_
        have hmark : (unpowered s).ctrl.formatMark = true := by rw [unpowered_fields]; exact hm
        rw [powered, markRead, if_pos hmark]
        exact restartBlocks_tested .powerOn (markedState s)
      · rw [restart_time (sound_powered hs'), poweredWake_time]
      · rw [restart_time (sound_powered hs'), poweredWake_time]
    · have hs' := (sound_iff s).1 hs
      have hk := key (woken_drained hp hv) hs' (sound_drained hs')
      refine ⟨_, ?_, hk, ?_, ?_⟩
      · refine congrArg Host.Outcome.next ?_
        have hoff : (tested (giveNotices (levelNotices (wokenBlocks (drainedWake s))) (wokenBlocks (drainedWake s)))).ctrl.draining =
            false := by rw [tested_ctrl, hk.1]
        rw [if_pos hp, settle_drained hd he hto hi hr, restartBlocks_tested]
        exact if_neg fun h => Bool.false_ne_true (hoff.symm.trans (drained_draining h))
      · rw [restart_time (sound_drained hs'), drainedWake_time]
      · rw [restart_time (sound_drained hs'), drainedWake_time]

end Sys2Proof.Proofs.Power
end

section
/-! One visit of the expiry sweep. -/

namespace Sys2Proof.Proofs.Visit

open Sys2Proof Sys2Proof.Machine Sys2Proof.Laws Sys2Proof.Proofs.Basics Sys2Proof.Proofs.Buckets Sys2Proof.Proofs.Bounds
  Sys2Proof.Proofs.Value Sys2Proof.Proofs.Amounts Sys2Proof.Proofs.Records Sys2Proof.Proofs.Balance Sys2Proof.Proofs.Holding

/-! ## The next card -/

/-- 04 R78: the better of the visit found so far and another one. -/
def betterVisit (cursor : Nat) (best : Option (Nat × Nat)) (e : Nat × Nat) : Option (Nat × Nat) :=
  if cursor ≤ e.1 then
    match best with
    | some b => if e.1 < b.1 then some e else best
    | none => some e
  else best

theorem nextVisit_eq (s : State) :
    nextVisit s = (s.cards.map (fun e => (e.2.slot, e.1))).foldl (betterVisit s.sweep.cursor) none := rfl

theorem betterVisit_below {cursor : Nat} {e : Nat × Nat} (h : e.1 < cursor) (best : Option (Nat × Nat)) :
    betterVisit cursor best e = best := if_neg (Nat.not_le.2 h)

/-- 04 R78: with no occupied slot at or above the cursor there is none to visit. -/
theorem nextVisit_none {s : State} (h : ∀ e ∈ s.cards, e.2.slot < s.sweep.cursor) : nextVisit s = none := by
  rw [nextVisit_eq]
  refine List.foldlRecOn (motive := fun best => best = none) _ _ rfl fun best hb e he => ?_
  obtain ⟨x, hx, rfl⟩ := List.mem_map.1 he
  rw [betterVisit_below (h x hx), hb]

/-- The lowest visit is the one that is found, whether it has been found already or comes later. -/
theorem foldl_betterVisit {cursor : Nat} {v : Nat × Nat} (hv : cursor ≤ v.1) {l : List (Nat × Nat)}
    (hl : ∀ e ∈ l, cursor ≤ e.1 → e = v ∨ v.1 < e.1) {best : Option (Nat × Nat)}
    (hb : best = some v ∨ (v ∈ l ∧ ∀ b, best = some b → v.1 < b.1)) : l.foldl (betterVisit cursor) best = some v := by
  induction l generalizing best with
  | nil => exact hb.resolve_right fun h => absurd h.1 List.not_mem_nil
  | cons e l ih =>
    obtain ⟨he, hl⟩ := List.forall_mem_cons.1 hl
    refine ih hl ?_
    by_cases hc : cursor ≤ e.1
    · obtain rfl | hlt := he hc
      · refine .inl ?_
        unfold betterVisit
        rw [if_pos hc]
        obtain rfl | ⟨-, hb⟩ := hb
        · exact if_neg (Nat.lt_irrefl _)
        · cases best with
          | none => rfl
          | some b => exact if_pos (hb b rfl)
      · obtain rfl | ⟨hm, hb⟩ := hb
        · refine .inl ?_
          unfold betterVisit
          rw [if_pos hc]
          exact if_neg (Nat.not_lt.2 (Nat.le_of_lt hlt))
        · refine .inr ⟨(List.mem_cons.1 hm).resolve_left fun h => absurd hlt (by rw [h]; exact Nat.lt_irrefl _), fun b hbe => ?_⟩
          unfold betterVisit at hbe
          rw [if_pos hc] at hbe
          cases best with
          | none => exact Option.some.inj hbe ▸ hlt
          | some x =>
            dsimp only at hbe
            split at hbe
            · exact Option.some.inj hbe ▸ hlt
            · exact hb b hbe
    · rw [betterVisit_below (Nat.not_le.1 hc)]
      refine hb.imp id fun ⟨hm, hb⟩ => ⟨(List.mem_cons.1 hm).resolve_left fun h => hc (h ▸ hv), hb⟩

/-- 04 R78: the card of the lowest occupied slot at or above the cursor is visited next. -/
theorem nextVisit_some {s : State} (ht : tableRising s.cards = true) {id : Nat} {c : Card} (hc : (id, c) ∈ s.cards)
    (hs : s.sweep.cursor ≤ c.slot) (hmin : ∀ e ∈ s.cards, e.1 ≠ id → s.sweep.cursor ≤ e.2.slot → c.slot < e.2.slot) :
    nextVisit s = some (c.slot, id) := by
  refine foldl_betterVisit hs (fun e he hle => ?_) (.inr ⟨List.mem_map_of_mem (f := fun e : Nat × Card => (e.2.slot, e.1)) hc, nofun⟩)
  obtain ⟨⟨id', c'⟩, hx, rfl⟩ := List.mem_map.1 he
  by_cases hid : id' = id
  · subst hid
    have hcc : some c' = some c := (HoldSlots.tableGet_of_mem ht hx).symm.trans (HoldSlots.tableGet_of_mem ht hc)
    exact .inl (by rw [Option.some.inj hcc])
  · exact .inr (hmin _ hx hid hle)

/-! ## What is collected -/

/-- 04 R78: a bucket's value collected into the pending expiry of its pool and into the figures. -/
def collect (s : State) (b : Bucket) : State := countSwept b (addPending b.pool b.amount s)

/-- The emptied buckets of a pool. -/
def ofPool (p : Nat) (bs : List Bucket) : List Bucket := bs.filter (fun b => b.pool = p)

theorem collect_pool (s : State) (b : Bucket) (p : Nat) :
    (collect s b).pool p = { s.pool p with pending := (s.pool p).pending + (if b.pool = p then b.amount else 0) } := by
  have h : (collect s b).pool p = (addPending b.pool b.amount s).pool p := rfl
  rw [h, addPending, pool_setPool]
  by_cases hp : p = b.pool
  · subst hp
    rw [if_pos rfl, if_pos rfl]
  · rw [if_neg hp, if_neg (Ne.symm hp), Nat.add_zero]

theorem collect_figures (s : State) (b : Bucket) (p : Nat) :
    sweptFigures (collect s b) p =
      if b.pool = p then ⟨(sweptFigures s p).value + b.amount, (sweptFigures s p).buckets + 1⟩ else sweptFigures s p := by
  refine (tableRead_write _ _ _ _ _).trans ?_
  by_cases hp : p = b.pool
  · subst hp
    rw [if_pos rfl, if_pos rfl]
    rfl
  · rw [if_neg hp, if_neg (Ne.symm hp)]
    rfl

theorem collect_frame (s : State) (b : Bucket) :
    collect s b = { s with pools := (collect s b).pools, sweep := { s.sweep with swept := (collect s b).sweep.swept } } := rfl

theorem ofPool_cons (p : Nat) (b : Bucket) (bs : List Bucket) :
    ofPool p (b :: bs) = if b.pool = p then b :: ofPool p bs else ofPool p bs := by
  by_cases h : b.pool = p <;> simp [ofPool, h]

/-- 04 R78: several buckets collected. -/
theorem foldl_collect (bs : List Bucket) (s : State) :
    (∀ p, (bs.foldl collect s).pool p = { s.pool p with pending := (s.pool p).pending + bucketSum (ofPool p bs) }) ∧
      (∀ p, sweptFigures (bs.foldl collect s) p =
        ⟨(sweptFigures s p).value + bucketSum (ofPool p bs), (sweptFigures s p).buckets + (ofPool p bs).length⟩) ∧
      bs.foldl collect s = { s with
        pools := (bs.foldl collect s).pools, sweep := { s.sweep with swept := (bs.foldl collect s).sweep.swept } } := by
  induction bs generalizing s with
  | nil => exact ⟨fun _ => rfl, fun _ => rfl, rfl⟩
  | cons b bs ih =>
    obtain ⟨hpool, hfig, hfr⟩ := ih (collect s b)
    refine ⟨fun p => ?_, fun p => ?_, ?_⟩
    · rw [List.foldl_cons, hpool, collect_pool, ofPool_cons, Nat.add_assoc]
      by_cases hp : b.pool = p
      · rw [if_pos hp, if_pos hp, bucketSum_cons]
      · rw [if_neg hp, if_neg hp, Nat.zero_add]
    · rw [List.foldl_cons, hfig, collect_figures, ofPool_cons]
      by_cases hp : b.pool = p
      · rw [if_pos hp, if_pos hp, bucketSum_cons, List.length_cons, ← Nat.add_assoc, Nat.add_assoc _ 1, Nat.add_comm 1]
      · rw [if_neg hp, if_neg hp]
    · rw [List.foldl_cons, hfr, collect_frame]

/-! ## The visit -/

theorem visitCard_eq (id : Nat) (c : Card) (s : State) :
    visitCard id c s = (c.buckets.filter (sweeps s)).foldl collect (s.setCard id (tidyCard s (sweptCard s c))) := rfl

/-- 04 R78: the walk removes a bucket's value. -/
theorem sweeps_iff (s : State) (b : Bucket) :
    sweeps s b = true ↔ b.amount ≠ 0 ∧ (b.expiry < s.sweep.day ∨ (s.pool b.pool).state = .closed) := by
  simp [sweeps]

theorem ofPool_sweeps (s : State) (bs : List Bucket) (p : Nat) :
    ofPool p (bs.filter (sweeps s)) =
      bs.filter (fun b => b.pool = p ∧ b.amount ≠ 0 ∧ (b.expiry < s.sweep.day ∨ (s.pool b.pool).state = .closed)) := by
  unfold ofPool
  rw [List.filter_filter]
  refine List.filter_congr fun b _ => ?_
  rw [Bool.eq_iff_iff, Bool.and_eq_true, sweeps_iff, decide_eq_true_eq, decide_eq_true_eq]

theorem sweptCard_buckets (s : State) (c : Card) :
    (sweptCard s c).buckets = c.buckets.map (fun b =>
      if b.amount ≠ 0 ∧ (b.expiry < s.sweep.day ∨ (s.pool b.pool).state = .closed) then { b with amount := 0 } else b) :=
  List.map_congr_left fun b _ => if_congr (sweeps_iff s b) rfl rfl

/-- What a visit leaves. -/
structure Visited (id : Nat) (c : Card) (s t : State) : Prop where
  cards : t.cards = tablePut id (tidyCard s (sweptCard s c)) s.cards
  pool : ∀ p, t.pool p = { s.pool p with pending := (s.pool p).pending + bucketSum (ofPool p (c.buckets.filter (sweeps s))) }
  figures : ∀ p, sweptFigures t p = ⟨(sweptFigures s p).value + bucketSum (ofPool p (c.buckets.filter (sweeps s))),
    (sweptFigures s p).buckets + (ofPool p (c.buckets.filter (sweeps s))).length⟩
  sweep : t.sweep = { s.sweep with cursor := c.slot + 1, swept := t.sweep.swept }
  frame : t = { s with cards := t.cards, pools := t.pools, sweep := t.sweep }

theorem sweepStep_visits {s : State} {id : Nat} {c : Card} (hf : s.sweep.inFlight = true) (hn : nextVisit s = some (c.slot, id))
    (hc : s.card id = c) : Visited id c s (sweepStep s) := by
  have hstep : sweepStep s =
      { visitCard id c s with sweep := { (visitCard id c s).sweep with cursor := c.slot + 1 } } := by
    unfold sweepStep
    rw [if_pos hf, hn]
    dsimp only
    rw [hc]
  obtain ⟨hpool, hfig, hfr⟩ := foldl_collect (c.buckets.filter (sweeps s)) (s.setCard id (tidyCard s (sweptCard s c)))
  rw [← visitCard_eq] at hpool hfig hfr
  rw [hstep]
  generalize visitCard id c s = t at hpool hfig hfr
  refine ⟨?_, hpool, hfig, ?_, ?_⟩
  · rw [hfr]
    rfl
  · rw [hfr]
    rfl
  · rw [hfr]
    rfl

end Sys2Proof.Proofs.Visit
end

section
/-! Several EXPIRE entries written one after another: what the ring holds, and how the writable count falls. -/

namespace Sys2Proof.Proofs.Pushes

open Sys2Proof Sys2Proof.Machine Sys2Proof.Laws Sys2Proof.Proofs.Bounds Sys2Proof.Proofs.Steps Sys2Proof.Proofs.Periods
  Sys2Proof.Proofs.Ring

/-- The ring after several entries. -/
def pushAll (es : List Entry) (j : Journal) : Journal := es.foldl (fun j e => pushEntry e j) j

theorem pushAll_cons (e : Entry) (es : List Entry) (j : Journal) : pushAll (e :: es) j = pushAll es (pushEntry e j) := rfl

/-! ## Entries -/

/-- 05 R89: a full ring loses its oldest entry. -/
theorem pushEntry_entries {j : Journal} (e : Entry) (h : j.entries.length ≤ 65536) :
    (pushEntry e j).entries = (j.entries ++ [e]).drop ((j.entries ++ [e]).length - 65536) := by
  have hp : (pushEntry e j).entries = (if 65536 ≤ j.entries.length then j.entries.tail else j.entries) ++ [e] := rfl
  rw [hp, List.length_append, List.length_singleton]
  by_cases hf : 65536 ≤ j.entries.length
  · have hk : j.entries.length + 1 - 65536 = 1 := by omega
    rw [if_pos hf, hk, List.drop_append_of_le_length (by omega), List.drop_one]
  · have hk : j.entries.length + 1 - 65536 = 0 := by omega
    rw [if_neg hf, hk, List.drop_zero]

theorem pushEntry_length {j : Journal} (e : Entry) (h : j.entries.length ≤ 65536) : (pushEntry e j).entries.length ≤ 65536 := by
  rw [pushEntry_entries e h, List.length_drop]
  omega

theorem pushAll_entries (es : List Entry) {j : Journal} (h : j.entries.length ≤ 65536) :
    (pushAll es j).entries = (j.entries ++ es).drop ((j.entries ++ es).length - 65536) := by
  induction es generalizing j with
  | nil =>
    have hk : (j.entries ++ []).length - 65536 = 0 := by rw [List.append_nil]; omega
    rw [hk, List.append_nil, List.drop_zero]
    rfl
  | cons e es ih =>
    have hle : (j.entries ++ [e]).length - 65536 ≤ (j.entries ++ [e]).length := Nat.sub_le _ _
    have hlen : (j.entries ++ e :: es).length = (j.entries ++ [e]).length + es.length := by
      simp only [List.length_append, List.length_cons, List.length_nil]
      omega
    rw [pushAll_cons, ih (pushEntry_length e h), pushEntry_entries e h, ← List.drop_append_of_le_length hle, List.drop_drop,
      List.append_assoc, List.singleton_append, List.length_drop]
    refine congrArg (fun k => List.drop k (j.entries ++ e :: es)) ?_
    rw [hlen]
    omega

/-! ## Registers -/

/-- 05 R89: what comes after a number. -/
def after (top first n : Nat) : Nat := if n = top then first else n + 1

theorem pushAll_next (es : List Entry) (j : Journal) : (pushAll es j).next = (after 4294967295 1)^[es.length] j.next := by
  induction es generalizing j with
  | nil => rfl
  | cons e es ih => rw [pushAll_cons, ih, List.length_cons, Function.iterate_succ_apply]; rfl

theorem pushAll_writePos (es : List Entry) (j : Journal) : (pushAll es j).writePos = (after 65535 0)^[es.length] j.writePos := by
  induction es generalizing j with
  | nil => rfl
  | cons e es ih => rw [pushAll_cons, ih, List.length_cons, Function.iterate_succ_apply]; rfl

theorem pushAll_released (es : List Entry) (j : Journal) : (pushAll es j).released = j.released := by
  induction es generalizing j with
  | nil => rfl
  | cons e es ih => rw [pushAll_cons, ih]; rfl

/-- 05 R93: the wrap count goes up where the write position passes the end of the ring. -/
theorem pushAll_wraps {es : List Entry} {j : Journal} (hn : es.length ≤ 65536) (hp : j.writePos < 65536) (hw : j.wraps < 2 ^ 32) :
    (pushAll es j).wraps = (j.wraps + (if 65536 ≤ j.writePos + es.length then 1 else 0)) % 2 ^ 32 := by
  induction es generalizing j with
  | nil =>
    have h : ¬65536 ≤ j.writePos + ([] : List Entry).length := Nat.not_le.2 hp
    rw [if_neg h, Nat.add_zero, Nat.mod_eq_of_lt hw]
    rfl
  | cons e es ih =>
    rw [List.length_cons] at hn ⊢
    have hpos : (pushEntry e j).writePos = if j.writePos = 65535 then 0 else j.writePos + 1 := rfl
    have hwr : (pushEntry e j).wraps = if j.writePos = 65535 then (j.wraps + 1) % 2 ^ 32 else j.wraps := rfl
    have hlt : (pushEntry e j).writePos < 65536 := by rw [hpos]; split <;> omega
    have hlt' : (pushEntry e j).wraps < 2 ^ 32 := by rw [hwr]; split <;> omega
    rw [pushAll_cons, ih (by omega) hlt hlt', hpos, hwr]
    by_cases ht : j.writePos = 65535
    · rw [if_pos ht, if_pos ht, if_neg (by omega), if_pos (by omega)]
      omega
    · rw [if_neg ht, if_neg ht, Nat.add_assoc, Nat.add_comm 1]

/-- 05 R94: EXPIRE entries raise one counter. -/
theorem pushAll_counters {es : List Entry} (hk : ∀ e ∈ es, e.kind = .expire) (j : Journal) :
    (pushAll es j).counters =
      { j.counters with expiredPromo := j.counters.expiredPromo + BitVec.ofNat 64 ((es.map (fun e => e.amount.toNat)).sum) } := by
  induction es generalizing j with
  | nil => exact congrArg (fun x => { j.counters with expiredPromo := x }) (BitVec.add_zero _).symm
  | cons e es ih =>
    obtain ⟨hke, hk⟩ := List.forall_mem_cons.1 hk
    have hc : (pushEntry e j).counters =
        { j.counters with expiredPromo := j.counters.expiredPromo + BitVec.ofNat 64 e.amount.toNat } := by
      have hm : moveCounters e j.counters = { j.counters with expiredPromo := countBy j.counters.expiredPromo e.amount.toNat } := by
        unfold moveCounters
        rw [hke]
      exact hm.trans (by rw [countBy, BitVec.ofInt_natCast])
    rw [pushAll_cons, ih hk, hc, List.map_cons, List.sum_cons, BitVec.ofNat_add, ← BitVec.add_assoc]

/-! ## The writable count -/

/-- Room in the ring for some entries more: the ring does not fill, or its entries stand in the order of their periods. -/
def Room (live n : Nat) (j : Journal) : Prop :=
  j.released < live ∧
    (j.entries.length + n ≤ 65536 ∨
      (j.entries.Pairwise (fun a b => a.period ≤ b.period) ∧ (∀ e ∈ j.entries, e.period ≤ live) ∧ j.entries.length ≤ 65536))

theorem Room.length {live n : Nat} {j : Journal} (h : Room live n j) : j.entries.length ≤ 65536 := by
  obtain ⟨-, h | ⟨-, -, h⟩⟩ := h
  · omega
  · exact h

/-- 05 R90: what the writing of an entry of the live period drops is releasable. -/
theorem dropped_releasable {live n : Nat} {j : Journal} (h : Room live (n + 1) j) (hw : 1 ≤ writable j) (hf : 65536 ≤ j.entries.length) :
    ∃ x xs, j.entries = x :: xs ∧ releasable j x = true ∧ xs.length + 1 = 65536 := by
  obtain ⟨-, hlen | ⟨hpair, -, hle⟩⟩ := h
  · omega
  · cases hj : j.entries with
    | nil =>
      rw [hj] at hf
      simp at hf
    | cons x xs =>
      have hlen : xs.length + 1 = 65536 := by
        rw [hj, List.length_cons] at hf hle
        omega
      have hcount : 0 < releasableCount j := by
        unfold writable at hw
        rw [hj, List.length_cons, hlen] at hw
        exact (by simpa [Config.journalSlots] using hw : 1 ≤ releasableCount j)
      exact ⟨x, xs, rfl, head_releasable hj hpair hcount, hlen⟩

theorem Room.push {live n : Nat} {j : Journal} (h : Room live (n + 1) j) {e : Entry} (he : e.period = live) :
    Room live n (pushEntry e j) := by
  have hlen := pushEntry_length e h.length
  obtain ⟨hr, hroom⟩ := h
  refine ⟨hr, ?_⟩
  obtain hroom | ⟨hpair, hle, -⟩ := hroom
  · refine .inl ?_
    have hp : (pushEntry e j).entries = (if 65536 ≤ j.entries.length then j.entries.tail else j.entries) ++ [e] := rfl
    rw [hp, if_neg (by omega), List.length_append, List.length_singleton]
    omega
  · refine .inr ⟨?_, fun x hx => ?_, hlen⟩
    · have hsub : (if 65536 ≤ j.entries.length then j.entries.tail else j.entries).Sublist j.entries := by
        split
        · exact List.tail_sublist _
        · exact List.Sublist.refl _
      refine List.pairwise_append.2 ⟨hpair.sublist hsub, List.pairwise_singleton _ _, fun a ha b hb => ?_⟩
      rw [List.mem_singleton.1 hb, he]
      exact hle a (hsub.subset ha)
    · obtain hx | hx := List.mem_append.1 hx
      · refine hle x ?_
        split at hx
        · exact List.mem_of_mem_tail hx
        · exact hx
      · rw [List.mem_singleton.1 hx, he]

/-- 05 R90: an entry of the live period takes one from the writable count. -/
theorem writable_push {live n : Nat} {j : Journal} (h : Room live (n + 1) j) (hw : 1 ≤ writable j) {e : Entry} (he : e.period = live) :
    writable (pushEntry e j) + 1 = writable j := by
  have hnew : releasable j e = false := by
    simp only [releasable, decide_eq_false_iff_not, he]
    exact Nat.not_le.2 h.1
  have hcount : releasableCount (pushEntry e j) =
      (if 65536 ≤ j.entries.length then j.entries.tail else j.entries).countP (releasable j) := by
    have hc : releasableCount (pushEntry e j) =
        ((if 65536 ≤ j.entries.length then j.entries.tail else j.entries) ++ [e]).countP (releasable j) := rfl
    rw [hc, List.countP_append, List.countP_singleton, hnew]
    rfl
  have hlen : (pushEntry e j).entries.length = (if 65536 ≤ j.entries.length then j.entries.tail else j.entries).length + 1 := by
    have hc : (pushEntry e j).entries = (if 65536 ≤ j.entries.length then j.entries.tail else j.entries) ++ [e] := rfl
    rw [hc, List.length_append, List.length_singleton]
  have hdef : ∀ j : Journal, writable j = (65536 - j.entries.length) + releasableCount j := fun _ => rfl
  rw [hdef, hdef, hcount, hlen]
  unfold releasableCount
  by_cases hf : 65536 ≤ j.entries.length
  · obtain ⟨x, xs, hj, hx, hxs⟩ := dropped_releasable h hw hf
    rw [if_pos hf, hj, List.tail_cons, List.countP_cons, if_pos hx, List.length_cons]
    omega
  · rw [if_neg hf]
    omega

/-- 05 R92: the oldest entry that is not releasable. -/
def oldest (j : Journal) : Option Entry := j.entries.find? (fun e => j.released < e.period)

/-- 05 R90: the oldest unreleased entry stays it. -/
theorem oldest_push {live n : Nat} {j : Journal} (h : Room live (n + 1) j) (hw : 1 ≤ writable j) {e x : Entry} (hx : oldest j = some x) :
    oldest (pushEntry e j) = some x := by
  have hsame : oldest (pushEntry e j) =
      ((if 65536 ≤ j.entries.length then j.entries.tail else j.entries) ++ [e]).find? (fun e => j.released < e.period) := rfl
  have htail : (if 65536 ≤ j.entries.length then j.entries.tail else j.entries).find? (fun e => j.released < e.period) = some x := by
    split
    · next hf =>
      obtain ⟨y, ys, hj, hy, -⟩ := dropped_releasable h hw hf
      have hrel : decide (j.released < y.period) = false := by simpa [releasable] using hy
      rw [oldest, hj, List.find?_cons, hrel] at hx
      rw [hj, List.tail_cons]
      exact hx
    · exact hx
  rw [hsame, List.find?_append, htail]
  rfl

theorem oldest_pushed {j : Journal} {e : Entry} (he : j.released < e.period) : ∃ x, oldest (pushEntry e j) = some x := by
  refine Option.isSome_iff_exists.1 (List.find?_isSome.2 ⟨e, List.mem_append_right _ (List.mem_singleton.2 rfl), ?_⟩)
  exact decide_eq_true he

/-- The same for several entries. -/
theorem oldest_pushAll {live : Nat} {es : List Entry} (hl : ∀ e ∈ es, e.period = live) {j : Journal} (h : Room live es.length j)
    (hw : es.length ≤ writable j) {x : Entry} (hx : oldest j = some x) : oldest (pushAll es j) = some x := by
  induction es generalizing j with
  | nil => exact hx
  | cons e es ih =>
    obtain ⟨he, hl⟩ := List.forall_mem_cons.1 hl
    rw [List.length_cons] at h hw
    have hpush := writable_push h (by omega) he
    rw [pushAll_cons]
    exact ih hl (h.push he) (by omega) (oldest_push h (by omega) hx)

theorem writable_pushAll {live : Nat} {es : List Entry} (hl : ∀ e ∈ es, e.period = live) {j : Journal} (h : Room live es.length j)
    (hw : es.length ≤ writable j) : writable (pushAll es j) + es.length = writable j := by
  induction es generalizing j with
  | nil => rfl
  | cons e es ih =>
    obtain ⟨he, hl⟩ := List.forall_mem_cons.1 hl
    rw [List.length_cons] at h hw
    have hpush := writable_push h (by omega) he
    have := ih hl (h.push he) (by omega)
    rw [pushAll_cons, List.length_cons]
    omega

end Sys2Proof.Proofs.Pushes
end

section
/-! The end of the expiry sweep: the EXPIRE entries, pool by pool, and what is told of them. -/

namespace Sys2Proof.Proofs.Expiry

open Sys2Proof Sys2Proof.Machine Sys2Proof.Laws Sys2Proof.Proofs.Links Sys2Proof.Proofs.Basics Sys2Proof.Proofs.Bounds
  Sys2Proof.Proofs.Steps Sys2Proof.Proofs.Rules Sys2Proof.Proofs.Requests Sys2Proof.Proofs.Entries Sys2Proof.Proofs.Releasing
  Sys2Proof.Proofs.Visit Sys2Proof.Proofs.Pushes

/-! ## One entry -/

/-- 04 R81: one pool's pending expiry journaled, its notices apart. -/
def expireStep (s : State) (p : Nat) : State :=
  ({ s with journal := pushEntry (expireEntry s p) s.journal } : State).setPool p (movePool .expire (s.pool p).pending (s.pool p))

theorem entered_expireEntry (s : State) (p : Nat) : entered (expireEntry s p) s = expireStep s p := by
  unfold entered
  rw [postPositions_eq_self _ rfl rfl]
  rfl

theorem expireStep_pool (s : State) (p q : Nat) :
    (expireStep s p).pool q = if q = p then movePool .expire (s.pool p).pending (s.pool p) else s.pool q := pool_setPool _ _ _ _

/-- 04 R83: an expiry brings no pool below its threshold: the recycled part adds to what is available. -/
theorem poolLowEdges_expireStep (s : State) (p : Nat) : poolLowEdges s (expireStep s p) = [] := by
  rw [poolLowEdges_eq, lowNotices, List.map_eq_nil_iff, List.filter_eq_nil_iff]
  intro q _ h
  rw [expireStep_pool] at h
  by_cases hq : q = p
  · subst hq
    simp only [if_true, movePool, isLow, Bool.and_eq_true, Bool.not_eq_true', decide_eq_true_eq, Bool.and_eq_false_iff,
      decide_eq_false_iff_not] at h
    obtain ⟨⟨hst, hlt⟩, hs | hn⟩ := h
    · exact hs hst
    · refine hn (Nat.lt_of_le_of_lt ?_ hlt)
      split <;> omega
  · rw [if_neg hq] at h
    cases hl : isLow (s.pool q) <;> simp [hl] at h

theorem notifies_expireStep (p : Nat) :
    Notifies (fun s => writeEntry (expireEntry s p) s) (fun s => expireStep s p) (fun s => reserveNotices s (expireStep s p)) := by
  have h := notifies_writeEntry_of (f := fun s => expireEntry s p) fun _ _ _ => rfl
  simp only [enteredNotices, entered_expireEntry, poolLowEdges_expireStep, List.nil_append, reserveEdge_eq] at h
  exact h

/-! ## Several entries -/

/-- 04 R81: the pending expiry of several pools journaled, the notices apart. -/
def expireAll (ps : List Nat) (s : State) : State := ps.foldl expireStep s

theorem expireAll_cons (p : Nat) (ps : List Nat) (s : State) : expireAll (p :: ps) s = expireAll ps (expireStep s p) := rfl

/-- 05 R92: the notices of those entries. -/
def expireNews : List Nat → State → List Notice
  | [], _ => []
  | p :: ps, s => reserveNotices s (expireStep s p) ++ expireNews ps (expireStep s p)

theorem notifies_expireAll (ps : List Nat) :
    Notifies (fun s => ps.foldl (fun s p => writeEntry (expireEntry s p) s) s) (expireAll ps) (expireNews ps) := by
  induction ps with
  | nil => exact Silent.id.notifies
  | cons p ps ih => exact ih.comp (notifies_expireStep p)

/-- The pools whose pending expiry is above 0. -/
def pendingPools (s : State) (ps : List Nat) : List Nat := ps.filter (fun p => (s.pool p).pending ≠ 0)

theorem pendingPools_congr {s u : State} {ps : List Nat} (h : ∀ p ∈ ps, (u.pool p).pending = (s.pool p).pending) :
    pendingPools u ps = pendingPools s ps := List.filter_congr fun p hp => by rw [h p hp]

theorem room_mono {live n : Nat} {j : Journal} (h : Room live (n + 1) j) : Room live n j :=
  ⟨h.1, h.2.imp (fun h => by omega) id⟩

/-- 04 R81: entries are written for as many pools as there are writable entries, in pool order. -/
theorem foldl_expirePool {ps : List Nat} (hd : ps.Nodup) {s : State} (hr : Room s.period.live ps.length s.journal) :
    ps.foldl expirePool s =
      ((pendingPools s ps).take (writable s.journal)).foldl (fun s p => writeEntry (expireEntry s p) s) s := by
  induction ps generalizing s with
  | nil => rw [pendingPools, List.filter_nil, List.take_nil]; rfl
  | cons p ps ih =>
    obtain ⟨hp, hd⟩ := List.nodup_cons.1 hd
    rw [List.foldl_cons]
    by_cases h0 : (s.pool p).pending = 0
    · have hskip : expirePool s p = s := if_neg (by simp [h0])
      have hps : pendingPools s (p :: ps) = pendingPools s ps := by simp [pendingPools, h0]
      rw [hskip, hps, ih hd (room_mono hr)]
    · have hps : pendingPools s (p :: ps) = p :: pendingPools s ps := by simp [pendingPools, h0]
      rw [hps]
      cases hw : writable s.journal with
      | zero =>
        have hskip : expirePool s p = s := if_neg (by simp [hw])
        rw [hskip, ih hd (room_mono hr), hw]
        rfl
      | succ k =>
        have hwrite : expirePool s p = writeEntry (expireEntry s p) s := if_pos (by simp [h0, hw])
        have hj : (writeEntry (expireEntry s p) s).journal = pushEntry (expireEntry s p) s.journal := by simp
        have hlive : (writeEntry (expireEntry s p) s).period.live = s.period.live := by simp
        have hk : writable (writeEntry (expireEntry s p) s).journal = k := by
          have := writable_push hr (by omega) (e := expireEntry s p) rfl
          rw [hj]
          omega
        have hpools : ∀ q ∈ ps, ((writeEntry (expireEntry s p) s).pool q).pending = (s.pool q).pending := fun q hq => by
          rw [(notifies_expireStep p).eq, LinkFree.giveNotices (f := fun s => (s.pool q).pending) fun _ _ _ => rfl, expireStep_pool,
            if_neg (ne_of_mem_of_not_mem hq hp)]
        rw [hwrite, ih hd (by rw [hlive, hj]; exact hr.push rfl), hk, pendingPools_congr hpools, List.take_succ_cons, List.foldl_cons]

/-! ## What the entries are -/

/-- 04 R81: the entries that are written. -/
def expireEntries (s : State) (ps : List Nat) : List Entry :=
  ps.mapIdx (fun k p =>
    { stamped s .expire (s.pool p).pending with
      seq := (Pushes.after 4294967295 1)^[k] s.journal.next
      parts := [{ pool := p, amount := (s.pool p).pending, expiry := none }]
      swept := some (sweptFigures s p).buckets })

theorem expireEntries_cons {s : State} {p : Nat} {ps : List Nat} (hp : p ∉ ps) :
    expireEntries s (p :: ps) = expireEntry s p :: expireEntries (expireStep s p) ps := by
  unfold expireEntries
  rw [List.mapIdx_cons]
  refine congrArg₂ List.cons rfl (List.ext_getElem (by simp) fun k h1 h2 => ?_)
  rw [List.getElem_mapIdx, List.getElem_mapIdx]
  have hk : k < ps.length := by simpa using h1
  have hq : (expireStep s p).pool ps[k] = s.pool ps[k] := by
    rw [expireStep_pool, if_neg (ne_of_mem_of_not_mem (List.getElem_mem hk) hp)]
  rw [hq, Function.iterate_succ_apply]
  rfl

theorem length_expireEntries (s : State) (ps : List Nat) : (expireEntries s ps).length = ps.length := List.length_mapIdx

theorem expireEntries_of {s : State} {ps : List Nat} {e : Entry} (he : e ∈ expireEntries s ps) :
    e.period = s.period.live ∧ e.kind = .expire := by
  obtain ⟨k, hk, rfl⟩ := List.mem_mapIdx.1 he
  exact ⟨rfl, rfl⟩

theorem expireEntries_amounts (s : State) (ps : List Nat) :
    (expireEntries s ps).map (fun e => e.amount.toNat) = ps.map (fun p => (s.pool p).pending) := by
  refine List.ext_getElem (by simp [expireEntries]) fun k h1 h2 => ?_
  simp [expireEntries, stamped]

theorem expireAll_journal {ps : List Nat} (hd : ps.Nodup) (s : State) :
    (expireAll ps s).journal = pushAll (expireEntries s ps) s.journal := by
  induction ps generalizing s with
  | nil => rfl
  | cons p ps ih =>
    obtain ⟨hp, hd⟩ := List.nodup_cons.1 hd
    rw [expireAll_cons, ih hd, expireEntries_cons hp, pushAll_cons]
    rfl

theorem expireAll_pool {ps : List Nat} (hd : ps.Nodup) (s : State) (q : Nat) :
    (expireAll ps s).pool q = if q ∈ ps then movePool .expire (s.pool q).pending (s.pool q) else s.pool q := by
  induction ps generalizing s with
  | nil => rfl
  | cons p ps ih =>
    obtain ⟨hp, hd⟩ := List.nodup_cons.1 hd
    rw [expireAll_cons, ih hd, expireStep_pool]
    by_cases hq : q = p
    · subst hq
      rw [if_neg hp, if_pos rfl, if_pos List.mem_cons_self]
    · rw [if_neg hq]
      exact if_congr (by simp [hq]) rfl rfl

theorem expireAll_frame (ps : List Nat) (s : State) :
    expireAll ps s = { s with journal := (expireAll ps s).journal, pools := (expireAll ps s).pools } := by
  induction ps generalizing s with
  | nil => rfl
  | cons p ps ih => rw [expireAll_cons, ih]; rfl

/-! ## JOURNAL_RESERVE -/

/-- 05 R92: JOURNAL_RESERVE as the writable count comes to 64. -/
def crossing (s : State) (x : Option Entry) : Notice :=
  { cls := .journalReserve
    payload := [Fld.u32 64, .u32 ((x.map (fun e => e.seq)).getD 0), .u32 ((x.map (fun e => e.period)).getD 0),
                .u32 s.journal.released, .u32 s.period.live] }

theorem writable_expireStep {s : State} {n p : Nat} (h : Room s.period.live (n + 1) s.journal) (hw : 1 ≤ writable s.journal) :
    writable (expireStep s p).journal + 1 = writable s.journal := writable_push h hw (e := expireEntry s p) rfl

theorem writable_expireAll {ps : List Nat} (hd : ps.Nodup) {s : State} (hr : Room s.period.live ps.length s.journal)
    (hw : ps.length ≤ writable s.journal) : writable (expireAll ps s).journal + ps.length = writable s.journal := by
  have h := writable_pushAll (es := expireEntries s ps) (fun e he => (expireEntries_of he).1)
    (by rw [length_expireEntries]; exact hr) (by rw [length_expireEntries]; exact hw)
  rw [length_expireEntries] at h
  rw [expireAll_journal hd, h]

/-- 05 R92: of several entries the one that brings the writable count to 64 gives JOURNAL_RESERVE, with the entry that is still the oldest
unreleased one after them all. -/
theorem expireNews_eq {ps : List Nat} (hd : ps.Nodup) {s : State} (hr : Room s.period.live ps.length s.journal)
    (hw : ps.length ≤ writable s.journal) :
    expireNews ps s = if 64 < writable s.journal ∧ writable (expireAll ps s).journal ≤ 64 then
      [crossing s (oldest (expireAll ps s).journal)] else [] := by
  induction ps generalizing s with
  | nil => exact (if_neg fun h => absurd (Nat.lt_of_lt_of_le h.1 h.2) (Nat.lt_irrefl _)).symm
  | cons p ps ih =>
    obtain ⟨hp, hd⟩ := List.nodup_cons.1 hd
    rw [List.length_cons] at hr hw
    have hstep := writable_expireStep (p := p) hr (by omega)
    have hr' : Room (expireStep s p).period.live ps.length (expireStep s p).journal := hr.push (e := expireEntry s p) rfl
    have hw' : ps.length ≤ writable (expireStep s p).journal := by omega
    have hall := writable_expireAll hd hr' hw'
    rw [expireNews, ih hd hr' hw', expireAll_cons]
    obtain hlt | heq | hgt := Nat.lt_trichotomy (writable s.journal) 65
    · have hnot : ¬64 < writable s.journal := by omega
      have hnot' : ¬64 < writable (expireStep s p).journal := by omega
      rw [reserveNotices, if_neg fun h => hnot h.2, if_neg fun h => hnot' h.1, if_neg fun h => hnot h.1]
      rfl
    · obtain ⟨x, hx⟩ := oldest_pushed (j := s.journal) (e := expireEntry s p) hr.1
      have hold : oldest (expireAll ps (expireStep s p)).journal = some x := by
        rw [expireAll_journal hd]
        exact oldest_pushAll (es := expireEntries (expireStep s p) ps) (fun e he => (expireEntries_of he).1)
          (by rw [length_expireEntries]; exact hr') (by rw [length_expireEntries]; exact hw') hx
      have h64 : writable (expireStep s p).journal = 64 := by omega
      have hnotice : journalReserveNotice (expireStep s p) = crossing s (some x) := by
        have ho : (expireStep s p).journal.entries.find? (fun e => (expireStep s p).journal.released < e.period) = some x := hx
        unfold journalReserveNotice crossing
        rw [ho, h64]
        rfl
      rw [reserveNotices, if_pos ⟨by omega, by omega⟩, if_neg fun h => by omega, if_pos ⟨by omega, by omega⟩, hold, hnotice]
      rfl
    · rw [reserveNotices, if_neg fun h => by omega, List.nil_append]
      exact if_congr (by omega) rfl rfl

end Sys2Proof.Proofs.Expiry
end

section
/-! The expiry sweep: its visits and its end. -/

namespace Sys2Proof.Proofs.Sweeping

open Sys2Proof Sys2Proof.Machine Sys2Proof.Laws Sys2Proof.Proofs.Links Sys2Proof.Proofs.Basics Sys2Proof.Proofs.Bounds
  Sys2Proof.Proofs.Steps Sys2Proof.Proofs.Records Sys2Proof.Proofs.Balance Sys2Proof.Proofs.Entries Sys2Proof.Proofs.Holding
  Sys2Proof.Proofs.Releasing Sys2Proof.Proofs.Visit Sys2Proof.Proofs.Pushes Sys2Proof.Proofs.Expiry

/-! ## The end of the walk -/

/-- 04 R81: the sweep at its end. -/
def sweepEnded (s : State) : State := { s with sweep := { s.sweep with inFlight := false, cursor := 262144 } }

/-- 04 R81: the pools whose pending expiry is journaled. -/
def writtenPools (s : State) : List Nat := (pendingPools s (List.range 16)).take (writable s.journal)

theorem nodup_writtenPools (s : State) : (writtenPools s).Nodup := (List.nodup_range.filter _).sublist (List.take_sublist _ _)

theorem length_writtenPools (s : State) : (writtenPools s).length ≤ 16 ∧ (writtenPools s).length ≤ writable s.journal := by
  have h : (pendingPools s (List.range 16)).length ≤ (List.range 16).length := List.length_filter_le _ _
  rw [List.length_range] at h
  unfold writtenPools
  rw [List.length_take]
  omega

theorem room_le {live n m : Nat} {j : Journal} (h : Room live n j) (hm : m ≤ n) : Room live m j :=
  ⟨h.1, h.2.imp (fun h => by omega) id⟩

/-- 04 R81, R82: the end of the sweep, notices apart and in one list. -/
theorem sweepFinish_eq {s : State} (hf : s.sweep.inFlight = true) (hn : nextVisit s = none)
    (hr : Room s.period.live 16 s.journal) :
    sweepFinish s = giveNotices
      (expireNews (writtenPools s) s ++ promoSweptNotices s (sweepEnded (expireAll (writtenPools s) s)))
      (sweepEnded (expireAll (writtenPools s) s)) := by
  have hfold : (List.range Config.poolCount).foldl expirePool s =
      giveNotices (expireNews (writtenPools s) s) (expireAll (writtenPools s) s) := by
    rw [show Config.poolCount = 16 from rfl, foldl_expirePool List.nodup_range (by rw [List.length_range]; exact hr)]
    exact (notifies_expireAll _).eq s
  have hsilent : Silent sweepEnded := ⟨fun _ _ _ => rfl, fun _ => rfl, fun _ => rfl⟩
  have hs2 : sweepEnded (giveNotices (expireNews (writtenPools s) s) (expireAll (writtenPools s) s)) =
      giveNotices (expireNews (writtenPools s) s) (sweepEnded (expireAll (writtenPools s) s)) := hsilent.giveNotices _ _
  have hswept : LinkFree (fun t => promoSweptNotices s t) := fun _ _ _ => rfl
  unfold sweepFinish
  rw [if_pos (by rw [hf, hn]; rfl), hfold]
  change giveNotices (promoSweptNotices s (sweepEnded _)) (sweepEnded _) = _
  rw [hs2, hswept.giveNotices, giveNotices_append]

/-! ## PROMO_SWEPT -/

/-- 04 R82: the figures of one pool, told by the pools whose entry was written. -/
theorem sweptFlds_eq {s t : State} {ps : List Nat} {p : Nat}
    (ht : (t.pool p).pending = if p ∈ ps then 0 else (s.pool p).pending) :
    sweptFlds s t p = [Fld.u8 p, .u64 (sweptFigures s p).value, .u32 (sweptFigures s p).buckets,
      .u64 (if p ∈ ps then (s.pool p).pending else 0), .u64 (if p ∈ ps then 0 else (s.pool p).pending)] := by
  unfold sweptFlds
  rw [ht]
  by_cases hp : p ∈ ps
  · simp only [if_pos hp, Nat.sub_zero]
  · simp only [if_neg hp, Nat.sub_self]

theorem promoSweptNotices_eq {s t : State} {ps : List Nat}
    (ht : ∀ p, (t.pool p).pending = if p ∈ ps then 0 else (s.pool p).pending) :
    promoSweptNotices s t =
      (let qs := (List.range 16).filter (fun p => (sweptFigures s p).value ≠ 0 ∨ (s.pool p).pending ≠ 0)
       let swept := fun (xs : List Nat) (more : Bool) =>
        ({ cls := .promoSwept
           payload := [Fld.u16 s.sweep.day] ++
             listFlds (xs.map (fun p =>
               [Fld.u8 p, .u64 (sweptFigures s p).value, .u32 (sweptFigures s p).buckets,
                .u64 (if p ∈ ps then (s.pool p).pending else 0), .u64 (if p ∈ ps then 0 else (s.pool p).pending)])) ++
             [Fld.flag more] } : Notice)
       if 8 < qs.length then [swept (qs.take 8) true, swept (qs.drop 8) false] else [swept qs false]) := by
  have hq : (List.range Config.poolCount).filter (fun p => (sweptFigures s p).value ≠ 0 || (s.pool p).pending ≠ 0) =
      (List.range 16).filter (fun p => (sweptFigures s p).value ≠ 0 ∨ (s.pool p).pending ≠ 0) :=
    List.filter_congr fun p _ => by rw [Bool.decide_or]
  have hf : sweptFlds s t = fun p => [Fld.u8 p, .u64 (sweptFigures s p).value, .u32 (sweptFigures s p).buckets,
      .u64 (if p ∈ ps then (s.pool p).pending else 0), .u64 (if p ∈ ps then 0 else (s.pool p).pending)] :=
    funext fun p => sweptFlds_eq (ht p)
  unfold promoSweptNotices promoSweptNotice
  rw [hq, hf]

theorem pending_expireAll (s : State) (p : Nat) :
    ((expireAll (writtenPools s) s).pool p).pending = if p ∈ writtenPools s then 0 else (s.pool p).pending := by
  rw [expireAll_pool (nodup_writtenPools s)]
  split
  · exact Nat.sub_self _
  · rfl

/-- 11 R188: notices reach the links by the links, the routes and the draining alone. -/
theorem giveNotices_links_congr {s u : State} (hc : u.ctrl = s.ctrl) (hr : u.routes = s.routes) (ht : u.tLink = s.tLink)
    (ha : u.aLink = s.aLink) (ns : List Notice) :
    (giveNotices ns u).tLink = (giveNotices ns s).tLink ∧ (giveNotices ns u).aLink = (giveNotices ns s).aLink := by
  rw [giveNotices_eq, giveNotices_eq ns s, hc, hr, ht, ha]
  exact ⟨rfl, rfl⟩

/-- 05 R86: the room that the statement's two cases give. -/
theorem room_of {s : State} (hl : s.journal.released < s.period.live)
    (h : s.journal.entries.length + 16 ≤ 65536 ∨ (journalOrdered s ∧ s.journal.entries.length ≤ 65536)) :
    Room s.period.live 16 s.journal :=
  ⟨hl, h.imp id fun ⟨⟨hpair, hle, _⟩, hlen⟩ => ⟨hpair, hle, hlen⟩⟩

/-- The journal after the end of a sweep. -/
theorem expireAll_journal_eq {s : State} (hr : Room s.period.live 16 s.journal) :
    (expireAll (writtenPools s) s).journal = { s.journal with
      entries := (s.journal.entries ++ expireEntries s (writtenPools s)).drop
        ((s.journal.entries ++ expireEntries s (writtenPools s)).length - 65536)
      next := (Pushes.after 4294967295 1)^[(writtenPools s).length] s.journal.next
      writePos := (Pushes.after 65535 0)^[(writtenPools s).length] s.journal.writePos
      wraps := (expireAll (writtenPools s) s).journal.wraps
      counters := { s.journal.counters with
        expiredPromo := s.journal.counters.expiredPromo +
          BitVec.ofNat 64 (((writtenPools s).map (fun p => (s.pool p).pending)).sum) } } := by
  have he := pushAll_entries (expireEntries s (writtenPools s)) hr.length
  have hn := pushAll_next (expireEntries s (writtenPools s)) s.journal
  have hp := pushAll_writePos (expireEntries s (writtenPools s)) s.journal
  have hrel := pushAll_released (expireEntries s (writtenPools s)) s.journal
  have hc := pushAll_counters (es := expireEntries s (writtenPools s)) (fun e he => (expireEntries_of he).2) s.journal
  rw [length_expireEntries] at hn hp
  rw [expireEntries_amounts] at hc
  rw [← expireAll_journal (nodup_writtenPools s)] at he hn hp hrel hc
  generalize (expireAll (writtenPools s) s).journal = j at he hn hp hrel hc ⊢
  dsimp only
  rw [← hrel, ← he, ← hn, ← hp, ← hc]

/-- A sweep that ends with nothing writable. -/
theorem sweepFinish_unwritable {s : State} (hf : s.sweep.inFlight = true) (hn : nextVisit s = none) (hw : writable s.journal = 0) :
    sweepFinish s = giveNotices (promoSweptNotices s (sweepEnded s)) (sweepEnded s) := by
  have hfold : (List.range Config.poolCount).foldl expirePool s = s := foldl_id _ _ _ fun p _ => if_neg (by simp [hw])
  unfold sweepFinish
  rw [if_pos (by rw [hf, hn]; rfl), hfold]
  rfl

/-- Settles O55. -/
theorem sweepCollectsAndJournals : Obligations.SweepCollectsAndJournals := by
  unfold Obligations.SweepCollectsAndJournals
  refine ⟨fun s hp hq hf ht => ⟨fun hall => ?_, fun id c hc hs hmin => ?_⟩, fun s hp hq hf hall hl => ?_⟩
  · refine (event_quiet hp hq).trans (congrArg Host.Outcome.next ?_)
    unfold sweepStep
    rw [if_pos hf, nextVisit_none hall]
  · intro gone of emptied
    have hv := sweepStep_visits hf (nextVisit_some ht.1 hc hs hmin) (card_of_card? ((card?_iff ht id c).2 hc))
    have hof : ∀ p, ofPool p (c.buckets.filter (sweeps s)) = of p := fun p => ofPool_sweeps s c.buckets p
    have hemptied : (sweptCard s c).buckets = c.buckets.map emptied := sweptCard_buckets s c
    obtain ⟨hsub, hmem⟩ := tidyCard_spec s (sweptCard s c)
    rw [hemptied] at hsub hmem
    refine ⟨sweepStep s, (tidyCard s (sweptCard s c)).buckets, event_quiet hp hq, hv.cards, hsub, hmem, fun p => ?_, fun p => ?_, ?_, ?_,
      ?_, hv.frame⟩
    · rw [hv.pool, hof]
    · rw [hv.figures, hof]
    · rw [hv.sweep]
    · rw [hv.sweep]
    · rw [hv.sweep]
      exact hf
  · intro ps qs swept told ended
    have hn := nextVisit_none hall
    refine ⟨fun hw => ?_, fun hroom => ?_⟩
    · refine (event_quiet hp hq).trans (congrArg Host.Outcome.next ?_)
      rw [sweepFinish_unwritable hf hn hw, promoSweptNotices_eq (ps := []) fun p => by simp [sweepEnded, State.pool]]
      rfl
    · intro w aft es
      have hr := room_of hl hroom
      obtain ⟨h16, hwr⟩ := length_writtenPools s
      have hd := nodup_writtenPools s
      have hnews := expireNews_eq hd (room_le hr h16) hwr
      have hjournal := expireAll_journal_eq hr
      have hpool := expireAll_pool hd s
      have hframe := expireAll_frame (writtenPools s) s
      have hfin := sweepFinish_eq hf hn hr
      have htold : promoSweptNotices s (sweepEnded (expireAll (writtenPools s) s)) = told w :=
        promoSweptNotices_eq (pending_expireAll s)
      have hwraps : s.journal.writePos < 65536 → s.journal.wraps < 2 ^ 32 → (expireAll w s).journal.wraps = _ := fun h1 h2 =>
        (congrArg Journal.wraps (expireAll_journal hd s)).trans (pushAll_wraps (by rw [length_expireEntries]; omega) h1 h2)
      rw [length_expireEntries] at hwraps
      have hold : oldest (expireAll w s).journal = (expireAll w s).journal.entries.find? (fun e => s.journal.released < e.period) := by
        have hrel : (expireAll w s).journal.released = s.journal.released :=
          (congrArg Journal.released (expireAll_journal hd s)).trans (pushAll_released _ _)
        rw [oldest, hrel]
      rw [show writtenPools s = w from rfl] at hnews hjournal hpool hframe hfin htold
      rw [htold, hnews, hold] at hfin
      have hgiven := giveNotices_frame
        ((if 64 < writable s.journal ∧ writable (expireAll w s).journal ≤ 64 then
          [crossing s ((expireAll w s).journal.entries.find? (fun e => s.journal.released < e.period))] else []) ++ told w)
        (sweepEnded (expireAll w s))
      have hlinks := giveNotices_links_congr (s := s) (u := sweepEnded (expireAll w s)) (by rw [hframe]; rfl) (by rw [hframe]; rfl)
        (by rw [hframe]; rfl) (by rw [hframe]; rfl)
        ((if 64 < writable s.journal ∧ writable (expireAll w s).journal ≤ 64 then
          [crossing s ((expireAll w s).journal.entries.find? (fun e => s.journal.released < e.period))] else []) ++ told w)
      refine ⟨sweepFinish s, event_quiet hp hq, ?_⟩
      rw [← hfin] at hgiven hlinks
      generalize sweepFinish s = t at hgiven hlinks ⊢
      generalize expireAll w s = f at hjournal hpool hframe hwraps hgiven hlinks
      have hj : t.journal = f.journal := by rw [hgiven]; rfl
      refine ⟨?_, fun h1 h2 => ?_, fun p => ?_, ?_, ?_⟩
      · rw [hj]
        exact hjournal
      · rw [hj]
        exact hwraps h1 h2
      · rw [hgiven]
        refine (hpool p).trans (if_congr Iff.rfl ?_ rfl)
        unfold movePool
        rw [Nat.sub_self]
      · rw [hgiven]
        conv_lhs => rw [hframe]
        rfl
      · rw [hj]
        exact hlinks

end Sys2Proof.Proofs.Sweeping
end
